-- ==== Sys2Proof/Word.lean ====
section
/-! DEFINITION. The widths of the fields the OF-220 shows on its bus and on its imprint links. -/

namespace Sys2Proof

/-- One byte of exchange memory or of a frame on the imprint link. -/
abbrev Byte := BitVec 8

/-- One 16-bit word of the parallel bus, a register of the register window, or a CRC-16 (R145, R195). -/
abbrev Half := BitVec 16

/-- A CRC-32, a check word or a check seed (R138, R144). -/
abbrev Word := BitVec 32

end Sys2Proof
end

