-- ==== Sys2Proof/Syntax.lean ====
section
/-! DEFINITION. The commands and events of the OF-220: one constructor of `Instr` for each row of the opcode table.
Operands are the fields as the line controller, the print station or the pins give them, in their own widths, so
that values out of range can be written and are judged by the part. -/

namespace Sys2Proof

/-- The two feed lanes. -/
inductive Lane where
  | a
  | b
  deriving DecidableEq, Repr

/-- The LANES strap: how many lanes the part runs (R3, R184). -/
inductive LaneCount where
  | two
  | one
  deriving DecidableEq, Repr

/-- The BUS_ORDER strap: which byte of a field lies at its lowest offset (R195). -/
inductive BusOrder where
  | lowFirst
  | highFirst
  deriving DecidableEq, Repr

/-- A transition of a photocell input (R28). -/
inductive Edge where
  | rising
  | falling
  deriving DecidableEq, Repr

/-- The byte strobes of one bus write: `low` selects bits 7 to 0, `high` bits 15 to 8 (R2, R195). -/
structure Strobes where
  low : Bool
  high : Bool
  deriving DecidableEq, Repr

/-- How far the update record stands while a whole update is in its steps (R133). -/
inductive Phase where
  | filling
  | ready
  deriving DecidableEq, Repr

/-- How a whole update that an event asks for lies against the events after it (R133, R134): `made` when its steps
end before the next event comes, `inSteps` when the next event finds it in its steps. An event that asks for no
whole update does not look at it. -/
inductive Pace where
  | made
  | inSteps (phase : Phase)
  deriving DecidableEq, Repr

/-- The same for a command that completes after its whole update: `atOnce` when it asks for the update as it is taken,
`later` when the next event finds it taken and its update not yet begun (R134, R143, R159, R182). -/
inductive CommandPace where
  | atOnce (pace : Pace)
  | later
  deriving DecidableEq, Repr

/-- The same for START, which may make a whole update at its step 4, 5 or 6 (R135): the updates in whose
steps the next events find START, if there are any. -/
inductive StartPace where
  | made
  | atClear (phase : Phase)
  | atConversion (phase : Phase)
  | atSwitch (phase : Phase)
  | atBoth (conversion switch : Phase)
  deriving DecidableEq, Repr

/-- The words of the register window whose writes are ignored (R185). -/
inductive ReadOnlyRegister where
  | ident
  | state
  | vector
  | eighthWord
  deriving DecidableEq, Repr

/-- The arguments of CONFIGURE LANE as they lie in the argument area (R48, R195). -/
structure LaneArguments where
  lane : Byte
  edges : Byte
  entryLimit : Half
  rateLimit : Half
  printLimit : Half
  window : Byte
  timer : Byte
  link : Byte
  deriving DecidableEq, Repr

/-- The arguments of INSTALL LICENCE as they lie in the argument area (R138, R195). -/
structure LicenceArguments where
  meterId : BitVec 32
  maximumFunds : BitVec 48
  perPieceCap : BitVec 32
  interval : BitVec 16
  seed : BitVec 32
  firstSerial : BitVec 32
  deriving DecidableEq, Repr

/-- The arguments of APPLY VOUCHER as they lie in the argument area (R141, R195). -/
structure VoucherArguments where
  meterId : BitVec 32
  serial : BitVec 32
  amount : BitVec 32
  issueDay : BitVec 16
  check : BitVec 32
  deriving DecidableEq, Repr

/-- The commands and events of the opcode table, in its order. A command of the command block stands for the line
controller writing its code and arguments into the command block and 1 to POST. -/
inductive Instr where
  | powerOnReset (lanes : LaneCount) (order : BusOrder)
  | lineReset (lanes : LaneCount) (order : BusOrder)
  | supplyLoss
  | batteryLoss
  | start (pace : StartPace)
  | entry (lane : Lane) (edge : Edge)
  | rate (lane : Lane) (edge : Edge)
  | print (lane : Lane) (edge : Edge) (pace : Pace)
  | exit (lane : Lane) (edge : Edge)
  | encoderCount (lane : Lane)
  | slotStateWrite (lane : Lane) (slot : BitVec 5) (code : Byte) (other : Option Byte)
  | exchangeMemoryWrite (address : Half) (value : Half) (strobes : Strobes)
  | run (lane : Lane) (value : Bool)
  | causeWrite (value : Half) (strobes : Strobes)
  | maskWrite (value : Half) (strobes : Strobes)
  | groupWrite (value : Half) (strobes : Strobes)
  | registerWriteIgnored (register : ReadOnlyRegister) (value : Half) (strobes : Strobes)
  | unknownCommand (code : Half)
  | setDate (day : Half) (minute : Half) (second : Byte) (pace : Pace)
  | configureLane (arguments : LaneArguments)
  | closeSetup
  | installLicence (arguments : LicenceArguments) (pace : CommandPace)
  | loadRates
  | loadRatesCompletion (pace : Pace)
  | applyVoucher (arguments : VoucherArguments) (pace : CommandPace)
  | setAccount (account : Byte) (state : Byte) (pace : CommandPace)
  | setFundsAlert (threshold : BitVec 48) (pace : CommandPace)
  | reportFunds
  | readAccounts
  | openBatch (lane : Byte) (batchId : BitVec 32)
  | closeBatch (lane : Byte)
  | resumeLane (lane : Byte)
  | setPostdate (offset : Byte)
  | closePeriod (pace : CommandPace)
  | claimSpoiled (limit : BitVec 32) (pace : CommandPace)
  | restart
  | park (pace : Pace)
  | take
  | ratingCompletion
  | holdRequest
  | updateRecordEmpty
  | frameSent (lane : Lane)
  | answerReady (lane : Lane)
  | answer (lane : Lane) (frame : BitVec 48) (pace : Pace)
  | answerTimerExpiry (lane : Lane) (pace : Pace)
  | powerWarnAssert
  | powerWarnDeassert
  | calendarSecond (pace : Pace)
  | minuteBoundary (pace : Pace)
  deriving DecidableEq, Repr

end Sys2Proof
end

