-- ==== Sys2Proof/WellFormed.lean ====
section
/-! DEFINITION. Which terms of `Instr` stand for something that can happen on the bus. Every other operand takes
every value of its width: the part itself judges it. -/

namespace Sys2Proof

/-- A bus write asserts a strobe (R2). -/
def Strobes.wf (strobes : Strobes) : Bool := strobes.low || strobes.high

/-- The highest command code of the command block (R195). -/
def lastCommandCode : Nat := 0x12

/-- A code that names none of the commands of R182 (R181). -/
def unknownCode (code : Half) : Bool := code.toNat == 0 || lastCommandCode < code.toNat

/-- A bus write names an aligned 16-bit word (R2). -/
def busWord (address : Half) : Bool := address.toNat % 2 == 0

/-- The well-formed commands and events. -/
def Instr.wf : Instr → Bool
  | .exchangeMemoryWrite address _ strobes => busWord address && strobes.wf
  | .causeWrite _ strobes => strobes.wf
  | .maskWrite _ strobes => strobes.wf
  | .groupWrite _ strobes => strobes.wf
  | .registerWriteIgnored _ _ strobes => strobes.wf
  | .unknownCommand code => unknownCode code
  | _ => true

end Sys2Proof
end

