-- ==== Sys2Proof/Decode.lean ====
section
/-! DEFINITION. The opcode table gives bits to none of its rows: the block takes events and commands, not encoded
instructions, so no word spells one. The command block's own codes and argument fields are read in
Machine/Operands.lean. -/

namespace Sys2Proof

/-- The command a word spells by the bits of the opcode table: the table has no row with bits. -/
def decodeTableWord (_nbits _w : Nat) : Option Instr := none

end Sys2Proof
end

