-- ==== Sys2Proof/Config.lean ====
section
/-! DEFINITION. What the manual leaves to the implementation: constants without a body, so that nothing can be
proved of their values. -/

namespace Sys2Proof.Config

/-- The byte that exchange memory holds at an address nothing has written since the power-on numbered by the first
argument: "the exchange memory holds undefined data" (R21). A free value. -/
opaque undefinedByte : Nat → Nat → Byte

/-- How far above 1 the revision in IDENT stands: the manual says only "revision, from 1" (R185, R195). -/
opaque revisionStep : Fin 255

/-- The number of words of the staging area that a LOAD RATES has read when a line controller write into that area
meets it, numbered by a counter of State: the manual gives the order of the reads and not their times (R98). A free value. -/
opaque loadReadPoint : Nat → Nat

end Sys2Proof.Config
end

