-- ==== Sys2Proof/Machine/Types.lean ====
section
/-! DEFINITION. The records and named values the blocks of the OF-220 hold (chapters 1 to 11), as plain data. -/

namespace Sys2Proof.Machine

/-- Two things of one kind, one for each lane. -/
structure PerLane (α : Type) where
  a : α
  b : α
  deriving DecidableEq, Repr

/-- The lane's own. -/
def PerLane.get {α : Type} (p : PerLane α) : Lane → α
  | .a => p.a
  | .b => p.b

/-- The lane's own replaced. -/
def PerLane.set {α : Type} (p : PerLane α) (lane : Lane) (x : α) : PerLane α :=
  match lane with
  | .a => { p with a := x }
  | .b => { p with b := x }

/-- The two banks of the rate store (5.1). -/
inductive BankId where
  | one
  | two
  deriving DecidableEq, Repr

/-- The bank that is not this one. -/
def BankId.other : BankId → BankId
  | .one => .two
  | .two => .one

/-- Two things of one kind, one for each bank. -/
structure PerBank (α : Type) where
  one : α
  two : α
  deriving DecidableEq, Repr

/-- The bank's own. -/
def PerBank.get {α : Type} (p : PerBank α) : BankId → α
  | .one => p.one
  | .two => p.two

/-- The bank's own replaced. -/
def PerBank.set {α : Type} (p : PerBank α) (bank : BankId) (x : α) : PerBank α :=
  match bank with
  | .one => { p with one := x }
  | .two => { p with two := x }

/-- Part states (10.1). -/
inductive PartState where
  | start
  | setup
  | operating
  | locked
  | parked
  deriving DecidableEq, Repr

/-- The cause of the last reset (R5). -/
inductive ResetCause where
  | powerOn
  | line
  | restart
  deriving DecidableEq, Repr

/-- Lane states (2.1). -/
inductive LaneState where
  | stopped
  | running
  | draining
  | halting
  | halted
  deriving DecidableEq, Repr

/-- Halt causes (R24). -/
inductive HaltCause where
  | jam
  | overfill
  | printerFault
  deriving DecidableEq, Repr

/-- Slot states (1.5). -/
inductive SlotState where
  | free
  | opened
  | filled
  | taken
  | done
  deriving DecidableEq, Repr

/-- Stages of a track entry (R32). -/
inductive Stage where
  | waitRate
  | queued
  | rating
  | held
  | dispatched
  | printed
  | spoiled
  | notFranked
  deriving DecidableEq, Repr

/-- The last photocell an entry has passed (R32). -/
inductive Position where
  | entry
  | rate
  | print
  | exit
  deriving DecidableEq, Repr

/-- Divert causes (R195 and R34). -/
inductive DivertCause where
  | noBatch
  | laneNotRunning
  | lateFill
  | rateQueueFull
  | powerWarning
  | weightUnsettled
  | dimensionsMissing
  | classUndefined
  | handHold
  | outOfFormat
  | overWeight
  | serviceNotAllowed
  | overCap
  | noFunds
  | accountClosed
  | inspectionDue
  | rateLate
  | linkBusy
  | linkOff
  | spoiledListFull
  | dateInvalid
  | jammed
  | parked
  | slotOverrun
  deriving DecidableEq, Repr

/-- Print results of a slot; all but PRINTED are also the causes of spoiled entries (R12, R158). -/
inductive PrintResult where
  | printed
  | inkOut
  | headFault
  | pieceMissing
  | frameRejected
  | noAnswer
  | badAnswer
  | unconfirmed
  deriving DecidableEq, Repr

/-- The way a piece left the belt (R12). -/
inductive Gate where
  | frankedOutput
  | rejectTray
  deriving DecidableEq, Repr

/-- Outcomes of a piece (R12). -/
inductive PieceOutcome where
  | franked
  | spoiled
  | jammedAfterDebit
  | diverted
  deriving DecidableEq, Repr

/-- Weight statuses (R11). -/
inductive WeightStatus where
  | stable
  | unstable
  | none
  deriving DecidableEq, Repr

/-- Rounding modes of a bank (R87). -/
inductive Rounding where
  | up
  | nearest
  | down
  deriving DecidableEq, Repr

/-- Roles of a bank (R90). -/
inductive BankRole where
  | active
  | pending
  | spare
  deriving DecidableEq, Repr

/-- States of a batch record (R163): NONE, OPEN, CLOSING. -/
inductive BatchState where
  | none
  | opened
  | closing
  deriving DecidableEq, Repr

/-- The inspection notice (R129). -/
inductive Notice where
  | none
  | warned
  | due
  deriving DecidableEq, Repr

/-- Link states (R146). -/
inductive LinkState where
  | idle
  | sending
  | awaiting
  | reading
  deriving DecidableEq, Repr

/-- Completion statuses of the command block (10.2). -/
inductive Status where
  | inProgress
  | done
  | refusedState
  | refusedBusy
  | badArgument
  | checkFailed
  | serialOutOfOrder
  | limitExceeded
  | notPowerWarning
  | aborted
  deriving DecidableEq, Repr

/-- The sixteen causes (R187). -/
inductive Cause where
  | storeFault
  | powerWarning
  | laneHaltA
  | laneHaltB
  | fundsOut
  | fundsLow
  | inspectionDue
  | slotOpenA
  | slotOpenB
  | slotDoneA
  | slotDoneB
  | laneIrregular
  | commandDone
  | commandOverrun
  | batchDone
  | rateSwitch
  deriving DecidableEq, Repr

/-- A day and minute of the calendar with its valid flag, as batches and reports record it (R160, R164). -/
structure Stamp where
  day : Nat
  minute : Nat
  valid : Bool
  deriving DecidableEq, Repr

/-- The input copy of a piece: its slot's input fields as read at RATE (R11). -/
structure InputCopy where
  weight : Nat
  status : WeightStatus
  length : Nat
  width : Nat
  thickness : Nat
  cls : Nat
  area : Nat
  services : Byte
  tier : Nat
  handHold : Bool
  slogan : Nat
  offset : Int
  account : Nat
  deriving DecidableEq, Repr

/-- The condition flags a rating sets (R12, R89). -/
structure CondFlags where
  belowMin : Bool
  atCap : Bool
  aboveCap : Bool
  overflow : Bool
  zoneDefault : Bool
  serviceDropped : Bool
  tierIgnored : Bool
  offsetClamped : Bool
  volumetric : Bool
  deriving DecidableEq, Repr

/-- A track entry (R32). `requested` tells a RATING entry that awaits its hold from one whose rating is in progress
(R55, R56). `format` is kept for the IMPRINT frame (R41). `presence` and `flags` are the part's own copy of the
words it has written into the slot (R12). -/
structure TrackEntry where
  seq : Nat
  slot : Option Nat
  batchId : Option Nat
  position : Position
  distance : Nat
  stage : Stage
  cause : Option DivertCause
  input : Option InputCopy
  held : Option Nat
  offset : Option Int
  format : Option Nat
  requested : Bool
  presence : Half
  flags : Half
  deriving DecidableEq, Repr

/-- The configuration of a lane (2.11). -/
structure LaneConfig where
  entryEdge : Edge
  rateEdge : Edge
  printEdge : Edge
  exitEdge : Edge
  entryLimit : Nat
  rateLimit : Nat
  printLimit : Nat
  window : Nat
  timer : Nat
  link : Bool
  deriving DecidableEq, Repr

/-- A lane's batch record (9.1). -/
structure Batch where
  state : BatchState
  id : Nat
  opened : Stamp
  entered : Nat
  franked : Nat
  diverted : Nat
  spoiled : Nat
  jammed : Nat
  postage : Nat
  inFlight : Nat
  first : Option Nat
  last : Option Nat
  overflow : Bool
  deriving DecidableEq, Repr

/-- A lane tracker (chapter 2) with the counts its lane group shows (R6). -/
structure Tracker where
  state : LaneState
  haltCause : Option HaltCause
  queue : List TrackEntry
  nextSeq : Nat
  lastAssigned : Option Nat
  lastDone : Option Nat
  overruns : Nat
  strays : Nat
  refusals : Nat
  config : LaneConfig
  batch : Batch
  divert : Bool
  deriving DecidableEq, Repr

/-- An imprint a link has outstanding, with the IMPRINT frame formed for it (R146, R148). -/
structure Imprint where
  seq : Nat
  serial : Nat
  amount : Nat
  account : Nat
  day : Nat
  frame : List Byte
  deriving DecidableEq, Repr

/-- A link record (R146). The held dispatch is the outstanding imprint while `heldDispatch` is set (R147).
`timer` holds the milliseconds of the running answer timer; `expiryHeld` an expiry that came during a read (R154). -/
structure Link where
  state : LinkState
  outstanding : Option Imprint
  heldDispatch : Bool
  timer : Option Nat
  expiryHeld : Bool
  late : Option Half
  faults : Nat
  deriving DecidableEq, Repr

/-- A take queue entry: a track entry by lane and sequence number (R50). -/
structure QueueEntry where
  lane : Lane
  seq : Nat
  deriving DecidableEq, Repr

/-- The working values that the stages of a rating pass on (R66, R67): the refusal that ended the computation, where one did,
the flags set so far, length and width after R71, the zone, the kept services, the chosen tier with its discount factor and the
clamped offset of the input stage, the format's number and the chargeable weight, the amounts in milli-units that the base price,
zone, discount and services stages leave, the discount among them, and the postage after rounding. A value whose stage has not run is as it was created (log entry 32). -/
structure Working where
  refusal : Option DivertCause
  flags : CondFlags
  length : Nat
  width : Nat
  zone : Nat
  kept : List Nat
  tier : Nat
  factor : Nat
  offset : Option Int
  format : Nat
  weight : Nat
  base : Nat
  zoned : Nat
  discount : Nat
  net : Nat
  total : Nat
  postage : Nat
  deriving DecidableEq, Repr

/-- The rating record of the rating in progress, with the working values of its stages (R52, R66). -/
structure RatingRecord where
  lane : Lane
  seq : Nat
  bank : BankId
  window : Nat
  input : InputCopy
  working : Working
  deriving DecidableEq, Repr

/-- A hold in the holds list, or a hold request on its way to the funds unit: both name the lane, the sequence
number, the account and the amount (R113, R114). -/
structure Hold where
  lane : Lane
  seq : Nat
  account : Nat
  amount : Nat
  deriving DecidableEq, Repr

/-- A present outstanding mark (R112). -/
structure Mark where
  serial : Nat
  amount : Nat
  account : Nat
  day : Nat
  deriving DecidableEq, Repr

/-- An account (R121); `isOpen` is its state OPEN. -/
structure Account where
  isOpen : Bool
  usage : Nat
  pieces : Nat
  deriving DecidableEq, Repr

/-- A spoiled entry (R158). -/
structure SpoiledEntry where
  serial : Nat
  lane : Lane
  amount : Nat
  account : Nat
  day : Nat
  cause : PrintResult
  deriving DecidableEq, Repr

/-- A present licence record (R138). -/
structure Licence where
  meterId : Nat
  maximumFunds : Nat
  perPieceCap : Nat
  interval : Nat
  seed : Word
  firstSerial : Nat
  deriving DecidableEq, Repr

/-- A weight bound with its price (R95). -/
structure Break where
  bound : Nat
  price : Nat
  deriving DecidableEq, Repr

/-- A format's price per step above its last break (R95). -/
structure Extension where
  step : Nat
  price : Nat
  deriving DecidableEq, Repr

/-- A format record (R95). -/
structure Format where
  maxLength : Nat
  maxWidth : Nat
  maxThickness : Nat
  maxWeight : Nat
  divisor : Option Nat
  breaks : List Break
  extension : Option Extension
  services : Byte
  deriving DecidableEq, Repr

/-- A class record (R94). -/
structure ClassRecord where
  defined : Bool
  minimum : Nat
  defaultZone : Nat
  zoneFactors : List Nat
  tierFactors : List Nat
  tierMask : Byte
  formats : List Format
  deriving DecidableEq, Repr

/-- A service record (R96). -/
structure Service where
  defined : Bool
  amount : Int
  excludes : Byte
  deriving DecidableEq, Repr

/-- A rate bank (5.1); its use count is held outside the retained store. -/
structure Bank where
  role : BankRole
  tableId : Nat
  effectiveDay : Nat
  effectiveMinute : Nat
  rounding : Rounding
  cap : Nat
  chart : Option (List Nat)
  classes : List ClassRecord
  services : List Service
  deriving DecidableEq, Repr

/-- The items of the retained store that its check word covers (R132). -/
structure Items where
  descending : Nat
  ascending : Nat
  credit : Nat
  pieceCount : Nat
  periodMark : Nat
  voucherSerial : Nat
  voucherDay : Nat
  alert : Nat
  accounts : List Account
  marks : PerLane (Option Mark)
  spoiled : List SpoiledEntry
  licence : Option Licence
  lastImprintDay : Nat
  banks : PerBank Bank
  deriving DecidableEq, Repr

/-- What an update record holds while it is not EMPTY: every new value with the new check word (R133). Only the clearing
after a store fault sets the battery-good latch (R136). -/
structure NewValues where
  items : Items
  setsLatch : Bool
  check : Word
  deriving DecidableEq, Repr

/-- The update record (R133). -/
inductive UpdateRecord where
  | empty
  | inSteps (phase : Phase) (values : NewValues)
  deriving DecidableEq, Repr

/-- The retained store (R132). -/
structure Store where
  items : Items
  latch : Bool
  check : Word
  record : UpdateRecord
  deriving DecidableEq, Repr

/-- The calendar (9.3). `running` is clear from a battery loss to the next start of the calendar (R175). -/
structure Calendar where
  day : Nat
  minute : Nat
  second : Nat
  cycles : Nat
  valid : Bool
  running : Bool
  postdate : Nat
  deriving DecidableEq, Repr

/-- The notification unit: bit n of each word is for cause n (R187 to R189). -/
structure Notices where
  cause : Half
  mask : Half
  group : Half
  deriving DecidableEq, Repr

/-- A LOAD RATES in progress: the staging bytes read so far, in address order (R98). -/
structure LoadRecord where
  copy : List Byte
  deriving DecidableEq, Repr

/-- The load report (5.3). -/
structure LoadReport where
  step : Nat
  area : Option Nat
  cls : Option Nat
  format : Option Nat
  priceBreak : Option Nat
  service : Option Nat
  deriving DecidableEq, Repr

/-- The groups of the status block that wait to be rewritten within an event (R5). -/
structure Groups where
  part : Bool
  calendar : Bool
  banks : Bool
  funds : Bool
  laneA : Bool
  laneB : Bool
  spoiled : Bool
  deriving DecidableEq, Repr

/-- A block, as the owner of events that wait for the store (R133). -/
inductive Block where
  | tracker (lane : Lane)
  | link (lane : Lane)
  | ratingUnit
  | rateStore
  | funds
  | command
  deriving DecidableEq, Repr

/-- A whole update, with what the rest of its event needs once it is made (R133): a debit its hold, serial and imprint
day, a claim whether it removes an entry, SET FUNDS ALERT the threshold before it, a commit whether it makes its bank
ACTIVE, SET DATE the time it sets, START's conversion how a switch after it is found. -/
inductive Work where
  | debit (lane : Lane) (hold : Hold) (serial : Nat) (day : Nat)
  | settle (lane : Lane) (result : PrintResult) (expired : Bool)
  | park
  | claim (removed : Bool)
  | credit
  | install
  | setAccount
  | setAlert (before : Nat)
  | closePeriod
  | commit (active : Bool)
  | bankSwitch
  | setDate (day : Nat) (minute : Nat) (second : Nat)
  | startClear
  | startConversion (stop : Option Phase)
  | startSwitch
  deriving DecidableEq, Repr

/-- An event held for the store: one of the table's events or commands, or the rate store's check for a due switch
(R107, R133). -/
inductive HeldEvent where
  | event (i : Instr)
  | switchCheck
  deriving DecidableEq, Repr

/-- A reset held behind a whole update (R134). -/
inductive HeldReset where
  | line (lanes : LaneCount) (order : BusOrder)
  | restart
  deriving DecidableEq, Repr

end Sys2Proof.Machine
end

