-- ==== Sys2Proof/Machine/Codes.lean ====
section
/-! DEFINITION. The codes by which records and frames show named values (R195, R196). -/

namespace Sys2Proof.Machine

def laneCode : Lane → Nat
  | .a => 0
  | .b => 1

/-- The lane a lane code names; a code other than 0 or 1 names none (11.5). -/
def laneOfCode (code : Nat) : Option Lane :=
  match code with
  | 0 => some .a
  | 1 => some .b
  | _ => none

def partCode : PartState → Nat
  | .start => 0
  | .setup => 1
  | .operating => 2
  | .locked => 3
  | .parked => 4

def resetCauseCode : ResetCause → Nat
  | .powerOn => 1
  | .line => 2
  | .restart => 3

def laneStateCode : LaneState → Nat
  | .stopped => 0
  | .running => 1
  | .draining => 2
  | .halting => 3
  | .halted => 4

def haltCode : Option HaltCause → Nat
  | none => 0
  | some .jam => 1
  | some .overfill => 2
  | some .printerFault => 3

def slotCode : SlotState → Byte
  | .free => 1
  | .opened => 2
  | .filled => 3
  | .taken => 4
  | .done => 5

/-- The weight status a code names; every other code is read as NONE (R11). -/
def weightStatusOfCode (code : Nat) : WeightStatus :=
  match code with
  | 1 => .stable
  | 2 => .unstable
  | _ => .none

def printResultCode : PrintResult → Nat
  | .printed => 1
  | .inkOut => 2
  | .headFault => 3
  | .pieceMissing => 4
  | .frameRejected => 5
  | .noAnswer => 6
  | .badAnswer => 7
  | .unconfirmed => 8

/-- The result an ANSWER frame can carry: a byte that is not 1 to 5 carries none (R196). -/
def answerResultOfCode (code : Nat) : Option PrintResult :=
  match code with
  | 1 => some .printed
  | 2 => some .inkOut
  | 3 => some .headFault
  | 4 => some .pieceMissing
  | 5 => some .frameRejected
  | _ => none

def gateCode : Gate → Nat
  | .frankedOutput => 1
  | .rejectTray => 2

def outcomeCode : PieceOutcome → Nat
  | .franked => 1
  | .spoiled => 2
  | .jammedAfterDebit => 3
  | .diverted => 4

def roundingOfCode (code : Nat) : Option Rounding :=
  match code with
  | 1 => some .up
  | 2 => some .nearest
  | 3 => some .down
  | _ => none

/-- The divert cause codes, 1 to 23 in the order of R195. SLOT_OVERRUN has none, since it never reaches a slot: 0
stands for that here. -/
def divertCode : DivertCause → Nat
  | .noBatch => 1
  | .laneNotRunning => 2
  | .lateFill => 3
  | .rateQueueFull => 4
  | .powerWarning => 5
  | .weightUnsettled => 6
  | .dimensionsMissing => 7
  | .classUndefined => 8
  | .handHold => 9
  | .outOfFormat => 10
  | .overWeight => 11
  | .serviceNotAllowed => 12
  | .overCap => 13
  | .noFunds => 14
  | .accountClosed => 15
  | .inspectionDue => 16
  | .rateLate => 17
  | .linkBusy => 18
  | .linkOff => 19
  | .spoiledListFull => 20
  | .dateInvalid => 21
  | .jammed => 22
  | .parked => 23
  | .slotOverrun => 0

def statusCode : Status → Nat
  | .inProgress => 0x01
  | .done => 0x02
  | .refusedState => 0x03
  | .refusedBusy => 0x04
  | .badArgument => 0x05
  | .checkFailed => 0x06
  | .serialOutOfOrder => 0x07
  | .limitExceeded => 0x08
  | .notPowerWarning => 0x09
  | .aborted => 0x0A

def noticeCode : Notice → Nat
  | .none => 0
  | .warned => 1
  | .due => 2

/-- The kind codes of the two frames (R196). -/
def imprintKind : Nat := 0x31
def answerKind : Nat := 0x52

/-- The lead byte of an IMPRINT frame (R147). -/
def imprintLead : Nat := 0xA5

/-- The part code in IDENT (11.2). -/
def identPartCode : Nat := 0x22

end Sys2Proof.Machine
end

