-- ==== Sys2Proof/Machine/Flags.lean ====
section
/-! DEFINITION. The condition flags of a slot (R12), the cause flags with the INT output and VECTOR (R187 to R190). -/

namespace Sys2Proof.Machine

/-- No condition flag set: where every rating begins. -/
def CondFlags.clear : CondFlags :=
  { belowMin := false, atCap := false, aboveCap := false, overflow := false, zoneDefault := false,
    serviceDropped := false, tierIgnored := false, offsetClamped := false, volumetric := false }

/-- The flag's weight in the condition flags word (11.3). -/
def flagBit (flag : Bool) (position : Nat) : Nat := if flag then 2 ^ position else 0

/-- Bits 0 to 8 of the slot's condition flags word (11.3). -/
def CondFlags.word (f : CondFlags) : Half :=
  BitVec.ofNat 16
    (flagBit f.belowMin 0 + flagBit f.atCap 1 + flagBit f.aboveCap 2 + flagBit f.overflow 3 + flagBit f.zoneDefault 4
      + flagBit f.serviceDropped 5 + flagBit f.tierIgnored 6 + flagBit f.offsetClamped 7 + flagBit f.volumetric 8)

/-- The BATCH_OVERFLOW flag, bit 9 of the slot's condition flags word (11.3). -/
def batchOverflowBit : Half := 0x0200

/-- The position of a result field's presence bit in the slot's result presence word (11.3). -/
def tableIdBit : Nat := 0
def formatBit : Nat := 1
def zoneBit : Nat := 2
def weightBit : Nat := 3
def postageBit : Nat := 4
def serialBit : Nat := 5
def dayBit : Nat := 6
def printResultBit : Nat := 7
def gateBit : Nat := 8
def outcomeBit : Nat := 9
def divertBit : Nat := 10

/-- A word with one bit set. -/
def withBit (word : Half) (position : Nat) : Half := word ||| BitVec.ofNat 16 (2 ^ position)

/-- The number of a cause: its position in CAUSE, MASK and GROUP (R187). -/
def Cause.number : Cause → Nat
  | .storeFault => 0
  | .powerWarning => 1
  | .laneHaltA => 2
  | .laneHaltB => 3
  | .fundsOut => 4
  | .fundsLow => 5
  | .inspectionDue => 6
  | .slotOpenA => 7
  | .slotOpenB => 8
  | .slotDoneA => 9
  | .slotDoneB => 10
  | .laneIrregular => 11
  | .commandDone => 12
  | .commandOverrun => 13
  | .batchDone => 14
  | .rateSwitch => 15

def laneHaltCause : Lane → Cause
  | .a => .laneHaltA
  | .b => .laneHaltB

def slotOpenCause : Lane → Cause
  | .a => .slotOpenA
  | .b => .slotOpenB

def slotDoneCause : Lane → Cause
  | .a => .slotDoneA
  | .b => .slotDoneB

/-- The notification unit with a cause raised; a raise that finds its flag set is absorbed (R188). -/
def Notices.raise (n : Notices) (c : Cause) : Notices := { n with cause := withBit n.cause c.number }

/-- Whether the flag of a cause is set. -/
def Notices.flag (n : Notices) (c : Cause) : Bool := n.cause.getLsbD c.number

/-- Whether the flag numbered k is set and may interrupt: causes 0 and 1 are never masked (R189). -/
def Notices.unmasked (n : Notices) (k : Nat) : Bool := n.cause.getLsbD k && (k < 2 || !n.mask.getLsbD k)

/-- The INT output (R189). -/
def Notices.int (n : Notices) : Bool := (List.range 16).any n.unmasked

/-- VECTOR (R190): cause 0, then cause 1, then the urgent causes by number, then the routine ones, else 0x00FF. -/
def Notices.vector (n : Notices) : Nat :=
  if n.cause.getLsbD 0 then 0
  else if n.cause.getLsbD 1 then 1
  else
    match (List.range 16).find? (fun k => n.unmasked k && n.group.getLsbD k) with
    | some k => k
    | none =>
      match (List.range 16).find? (fun k => n.unmasked k && !n.group.getLsbD k) with
      | some k => k
      | none => 0x00FF

/-- The notification unit after any reset (R191). -/
def Notices.reset : Notices := { cause := 0, mask := 0xFFFF, group := 0 }

end Sys2Proof.Machine
end

