-- ==== Sys2Proof/Machine/Memory.lean ====
section
/-! DEFINITION. The exchange memory as data: the bytes written since the last power-on, in rising order of address.
A byte nothing has written has no entry and no value here (R21). -/

namespace Sys2Proof.Machine

/-- The written bytes of exchange memory, addresses strictly rising. -/
abbrev Memory := List Host.Cell

/-- The byte at an address, if it has been written since power-on. -/
def Memory.read : Memory → Nat → Option Byte
  | [], _ => none
  | (address, value) :: rest, a => if address = a then some value else if a < address then none else Memory.read rest a

/-- Memory with one byte written. -/
def Memory.write : Memory → Nat → Byte → Memory
  | [], a, v => [(a, v)]
  | (address, value) :: rest, a, v =>
    if a < address then (a, v) :: (address, value) :: rest
    else if a = address then (a, v) :: rest
    else (address, value) :: Memory.write rest a v

/-- Memory with successive bytes written from an address upward. -/
def Memory.writeBytes : Memory → Nat → List Byte → Memory
  | m, _, [] => m
  | m, a, v :: vs => Memory.writeBytes (m.write a v) (a + 1) vs

/-- Every address of the list lies above a bound, and addresses rise strictly. -/
def Memory.rising : Memory → Nat → Bool
  | [], _ => true
  | (address, _) :: rest, bound => decide (bound ≤ address) && Memory.rising rest (address + 1)

/-- The canonical form: addresses strictly rising. An unlisted address has no value, so no entry repeats what an
unlisted address reads as. -/
def Memory.wf (m : Memory) : Bool := m.rising 0

end Sys2Proof.Machine
end

