-- ==== Sys2Proof/Machine/Bytes.lean ====
section
/-! DEFINITION. Numbers as bytes: the byte orders of exchange memory and of the link frames (R195, R196). -/

namespace Sys2Proof.Machine

/-- The bytes of a number, least significant first. -/
def lowFirstBytes : Nat → Nat → List Byte
  | 0, _ => []
  | width + 1, n => BitVec.ofNat 8 n :: lowFirstBytes width (n / 256)

/-- The bytes of a number, most significant first (R141, R196). -/
def highFirstBytes (width n : Nat) : List Byte := (lowFirstBytes width n).reverse

/-- The bytes of a field of exchange memory under the latched BUS_ORDER strap (R195). -/
def fieldBytes (order : BusOrder) (width n : Nat) : List Byte :=
  match order with
  | .lowFirst => lowFirstBytes width n
  | .highFirst => highFirstBytes width n

/-- The number that bytes hold, least significant first. -/
def ofLowFirst : List Byte → Nat
  | [] => 0
  | x :: xs => x.toNat + 256 * ofLowFirst xs

/-- The number that bytes hold, most significant first (R141, R196). -/
def ofHighFirst (xs : List Byte) : Nat := ofLowFirst xs.reverse

/-- The number a field of exchange memory holds under the latched BUS_ORDER strap (R195). -/
def ofField (order : BusOrder) (xs : List Byte) : Nat :=
  match order with
  | .lowFirst => ofLowFirst xs
  | .highFirst => ofHighFirst xs

/-- A signed number from the low bits of a two's complement field of the given width in bits (R195). -/
def signedOf (bits n : Nat) : Int := (BitVec.ofNat bits n).toInt

/-- The low bits of a signed number in two's complement (R195, R196). -/
def unsignedOf (bits : Nat) (x : Int) : Nat := (BitVec.ofInt bits x).toNat

/-- A flag byte: 1 for set, 0 for clear (R195). -/
def flagCode (flag : Bool) : Nat := if flag then 1 else 0

end Sys2Proof.Machine
end

