-- ==== Sys2Proof/Machine/Crc.lean ====
section
/-! DEFINITION. The two check codes of the part (R144, R145). -/

namespace Sys2Proof.Machine

/-- The bits of a byte, most significant first. -/
def bitsOf (x : Byte) : List Bool :=
  [x.getLsbD 7, x.getLsbD 6, x.getLsbD 5, x.getLsbD 4, x.getLsbD 3, x.getLsbD 2, x.getLsbD 1, x.getLsbD 0]

/-- One pass of a cyclic redundancy register over a list of bits (R144): the register's most significant bit is
combined with the data bit, the register is shifted, and the generator is combined when the combined bit was 1. -/
def crcRun {width : Nat} (generator : BitVec width) : List Bool → BitVec width → BitVec width
  | [], register => register
  | bit :: bits, register =>
    bif xor register.msb bit then crcRun generator bits ((register <<< 1) ^^^ generator)
    else crcRun generator bits (register <<< 1)

/-- The CRC-32 of a byte sequence (R144). -/
def crc32 (xs : List Byte) : Word := ~~~ crcRun 0x04C11DB7#32 (xs.flatMap bitsOf) 0xFFFFFFFF#32

/-- The CRC-16 of a byte sequence from a starting value (R145). -/
def crc16 (initial : Half) (xs : List Byte) : Half := crcRun 0x1021#16 (xs.flatMap bitsOf) initial

end Sys2Proof.Machine
end

