-- ==== Sys2Proof/Machine/StoreImage.lean ====
section
/-! DEFINITION. The retained store's check word and its cleared contents (R110, R132, R136). The order is the one R132
names, "from the funds registers through to the two banks"; the widths inside it are the part's own and are not
seen from outside (log entry 3). -/

namespace Sys2Proof.Machine

def optionImage {α : Type} (image : α → List Byte) : Option α → List Byte
  | none => [0]
  | some x => 1 :: image x

def Account.image (x : Account) : List Byte :=
  highFirstBytes 1 (flagCode x.isOpen) ++ highFirstBytes 6 x.usage ++ highFirstBytes 4 x.pieces

def Mark.image (x : Mark) : List Byte :=
  highFirstBytes 4 x.serial ++ highFirstBytes 4 x.amount ++ highFirstBytes 1 x.account ++ highFirstBytes 2 x.day

def SpoiledEntry.image (x : SpoiledEntry) : List Byte :=
  highFirstBytes 4 x.serial ++ highFirstBytes 1 (laneCode x.lane) ++ highFirstBytes 4 x.amount
    ++ highFirstBytes 1 x.account ++ highFirstBytes 2 x.day ++ highFirstBytes 1 (printResultCode x.cause)

def Licence.image (x : Licence) : List Byte :=
  highFirstBytes 4 x.meterId ++ highFirstBytes 6 x.maximumFunds ++ highFirstBytes 4 x.perPieceCap
    ++ highFirstBytes 2 x.interval ++ highFirstBytes 4 x.seed.toNat ++ highFirstBytes 4 x.firstSerial

def Break.image (x : Break) : List Byte := highFirstBytes 2 x.bound ++ highFirstBytes 4 x.price

def Extension.image (x : Extension) : List Byte := highFirstBytes 2 x.step ++ highFirstBytes 4 x.price

def Format.image (x : Format) : List Byte :=
  highFirstBytes 2 x.maxLength ++ highFirstBytes 2 x.maxWidth ++ highFirstBytes 2 x.maxThickness
    ++ highFirstBytes 2 x.maxWeight ++ optionImage (highFirstBytes 4) x.divisor ++ highFirstBytes 1 x.breaks.length
    ++ x.breaks.flatMap Break.image ++ optionImage Extension.image x.extension ++ [x.services]

def ClassRecord.image (x : ClassRecord) : List Byte :=
  highFirstBytes 1 (flagCode x.defined) ++ highFirstBytes 4 x.minimum ++ highFirstBytes 1 x.defaultZone
    ++ x.zoneFactors.flatMap (highFirstBytes 2) ++ x.tierFactors.flatMap (highFirstBytes 2) ++ [x.tierMask]
    ++ highFirstBytes 1 x.formats.length ++ x.formats.flatMap Format.image

def Service.image (x : Service) : List Byte :=
  highFirstBytes 1 (flagCode x.defined) ++ highFirstBytes 4 (unsignedOf 32 x.amount) ++ [x.excludes]

def roundingCode : Rounding → Nat
  | .up => 1
  | .nearest => 2
  | .down => 3

def roleCode : BankRole → Nat
  | .active => 1
  | .pending => 2
  | .spare => 3

def Bank.image (x : Bank) : List Byte :=
  highFirstBytes 1 (roleCode x.role) ++ highFirstBytes 2 x.tableId ++ highFirstBytes 2 x.effectiveDay
    ++ highFirstBytes 2 x.effectiveMinute ++ highFirstBytes 1 (roundingCode x.rounding) ++ highFirstBytes 4 x.cap
    ++ optionImage (fun zones => zones.flatMap (highFirstBytes 1)) x.chart ++ x.classes.flatMap ClassRecord.image
    ++ x.services.flatMap Service.image

/-- The retained items as a byte sequence, in the order of R132. -/
def Items.image (x : Items) : List Byte :=
  highFirstBytes 6 x.descending ++ highFirstBytes 6 x.ascending ++ highFirstBytes 6 x.credit
    ++ highFirstBytes 4 x.pieceCount ++ highFirstBytes 6 x.periodMark ++ highFirstBytes 4 x.voucherSerial
    ++ highFirstBytes 2 x.voucherDay ++ highFirstBytes 6 x.alert ++ x.accounts.flatMap Account.image
    ++ optionImage Mark.image x.marks.a ++ optionImage Mark.image x.marks.b ++ highFirstBytes 1 x.spoiled.length
    ++ x.spoiled.flatMap SpoiledEntry.image ++ optionImage Licence.image x.licence
    ++ highFirstBytes 2 x.lastImprintDay ++ x.banks.one.image ++ x.banks.two.image

/-- The check word over the retained items (R132, R144). -/
def Items.checkWord (x : Items) : Word := crc32 x.image

/-- An account as INSTALL LICENCE and a store fault leave it (R121). -/
def Account.cleared : Account := { isOpen := false, usage := 0, pieces := 0 }

/-- A class that is not defined (R92, R110). The manual gives none of its other fields a value; the model's are 0 and empty,
and nothing that the part does reads them (log entry 4). -/
def ClassRecord.undefined : ClassRecord :=
  { defined := false, minimum := 0, defaultZone := 0, zoneFactors := [], tierFactors := [], tierMask := 0, formats := [] }

/-- A service that is not defined (R110). The manual gives it no amount and no mask; the model's are 0 (log entry 4). -/
def Service.undefined : Service := { defined := false, amount := 0, excludes := 0 }

/-- A bank that holds no table (R110). Its rounding mode and cap are not stated; nothing reads them (log entry 4). -/
def Bank.cleared (role : BankRole) : Bank :=
  { role := role, tableId := 0, effectiveDay := 0, effectiveMinute := 0, rounding := .up, cap := 0, chart := none,
    classes := List.replicate 16 ClassRecord.undefined, services := List.replicate 8 Service.undefined }

/-- The retained items after a store fault (R110, R136). -/
def Items.cleared : Items :=
  { descending := 0, ascending := 0, credit := 0, pieceCount := 0, periodMark := 0, voucherSerial := 0, voucherDay := 0,
    alert := 0, accounts := List.replicate 32 Account.cleared, marks := { a := none, b := none }, spoiled := [],
    licence := none, lastImprintDay := 0, banks := { one := Bank.cleared .active, two := Bank.cleared .spare } }

/-- The retained store after a store fault (R136). -/
def Store.cleared : Store :=
  { items := Items.cleared, latch := true, check := Items.cleared.checkWord, record := .empty }

end Sys2Proof.Machine
end

