-- ==== Sys2Proof/Machine/State.lean ====
section
/-! DEFINITION. The state of the OF-220: what each block of section 2 of the manual owns, the queue of commands that
wait, and the state right after a power-on reset. -/

namespace Sys2Proof.Machine

/-- The configuration defaults of a lane (2.11). -/
def LaneConfig.default : LaneConfig :=
  { entryEdge := .rising, rateEdge := .rising, printEdge := .rising, exitEdge := .rising, entryLimit := 4000,
    rateLimit := 4000, printLimit := 4000, window := 32, timer := 40, link := true }

/-- A lane's batch record after any reset (R169). Its id and opening stamp carry no meaning while it is NONE. -/
def Batch.reset : Batch :=
  { state := .none, id := 0, opened := { day := 0, minute := 0, valid := false }, entered := 0, franked := 0,
    diverted := 0, spoiled := 0, jammed := 0, postage := 0, inFlight := 0, first := none, last := none,
    overflow := false }

/-- A lane tracker after any reset (R49, R6). -/
def Tracker.reset : Tracker :=
  { state := .stopped, haltCause := none, queue := [], nextSeq := 0, lastAssigned := none, lastDone := none,
    overruns := 0, strays := 0, refusals := 0, config := LaneConfig.default, batch := Batch.reset, divert := false }

/-- A link after any reset (R162). -/
def Link.reset : Link :=
  { state := .idle, outstanding := none, heldDispatch := false, timer := none, expiryHeld := false, late := none,
    faults := 0 }

/-- No group of the status block waits to be rewritten. -/
def Groups.none : Groups :=
  { part := false, calendar := false, banks := false, funds := false, laneA := false, laneB := false, spoiled := false }

/-- The calendar as it starts after a lost battery: day 0, minute 0, second 0 (R175), not valid. -/
def Calendar.initial : Calendar :=
  { day := 0, minute := 0, second := 0, cycles := 0, valid := false, running := true, postdate := 0 }

/-- The exchange memory at the end of a power-on reset event: the 64 slot state bytes hold the FREE code (R21) and the
generation word holds 1 (R4), with its bytes in the order of the latched strap; nothing else is written. -/
def powerOnMemory (order : BusOrder) : Memory :=
  let generation := Memory.writeBytes [] 0 (fieldBytes order 2 1)
  (List.range 64).foldl (fun m k => m.write (0x0800 + 64 * (k % 32) + 0x0800 * (k / 32)) (slotCode .free)) generation

/-- The state of the part and of the store it keeps, with the commands waiting for it. -/
structure State where
  /-- The main supply is applied. -/
  supply : Bool
  /-- The level of the POWER_WARN input (R192). -/
  powerWarn : Bool
  /-- POWER_WARN was asserted at the last reset event, for START to raise POWER_WARNING (R191). -/
  warnAtReset : Bool
  /-- The latched LANES strap (R184). -/
  laneCount : LaneCount
  /-- The latched BUS_ORDER strap (R184). -/
  order : BusOrder
  /-- How many power-ons there have been: numbers the undefined data of exchange memory (R21). -/
  powerOns : Nat
  /-- The part state (R176). -/
  part : PartState
  /-- The cause of the last reset (R5). -/
  resetCause : ResetCause
  /-- The command record: the command in progress with its arguments (R179). A PARK in it during START is the held
  PARK of R177. -/
  command : Option Instr
  /-- A line reset or RESTART held behind a whole update (R134). -/
  heldReset : Option HeldReset
  /-- The exchange memory (chapter 1). -/
  mem : Memory
  /-- The part's count behind the status block's generation word (R4). -/
  generation : Nat
  /-- Groups of the status block changed by the event in hand (R5). -/
  dirty : Groups
  /-- The notification unit (10.5). -/
  notices : Notices
  /-- The two lane trackers (chapter 2). -/
  lanes : PerLane Tracker
  /-- The two imprint links (chapter 8). -/
  links : PerLane Link
  /-- The take queue, oldest first (R50). -/
  takeQueue : List QueueEntry
  /-- The rating in progress; none while the rating unit is IDLE (3.2). -/
  rating : Option RatingRecord
  /-- The use counts of the banks (R54). -/
  useCounts : PerBank Nat
  /-- The LOAD RATES whose validation is in progress (5.3). -/
  load : Option LoadRecord
  /-- Hold requests sent and not yet taken, oldest first (R114). -/
  requests : List Hold
  /-- The holds list, oldest first (R113). -/
  holds : List Hold
  /-- The inspection notice (R129). -/
  notice : Notice
  /-- The calendar (9.3). -/
  calendar : Calendar
  /-- The retained store (7.1). -/
  store : Store
  /-- The event whose whole update the store is making, while it is in its steps (R133). -/
  inStore : Option Work
  /-- Events held for the store, in the order they came (R133). -/
  held : List HeldEvent
  /-- The command in progress is taken and its whole update not yet begun (R134, R182), with the serials that its report
  lists as claimed when it is CLAIM SPOILED (R159). -/
  unbegun : Option (List Nat)
  /-- A counter for the free values of Config that differ from time to time. The model's own. -/
  freeCount : Nat
  /-- The commands and events that wait, first in, first out. The model's own. -/
  pending : List Instr
  deriving DecidableEq, Repr

/-- No command or event of the OF-220 ends in a fault: whatever comes, the part goes on. -/
inductive Fault where
  deriving DecidableEq, Repr

/-- Why the model refuses a command. -/
inductive Refusal where
  /-- Raised by an arm of exec whose command has no meaning yet; there is none. Safe. -/
  | notModelled (mnemonic : String)
  deriving DecidableEq, Repr

/-- The part right after a power-on reset event with two lanes and the low byte first, its retained store as a store
fault clears it and its calendar newly started (log entry 1): START is still to come. -/
def State.reset : State :=
  { supply := true, powerWarn := false, warnAtReset := false, laneCount := .two, order := .lowFirst, powerOns := 0,
    part := .start, resetCause := .powerOn, command := none, heldReset := none, mem := powerOnMemory .lowFirst,
    generation := 1, dirty := Groups.none, notices := Notices.reset,
    lanes := { a := Tracker.reset, b := Tracker.reset }, links := { a := Link.reset, b := Link.reset }, takeQueue := [],
    rating := none, useCounts := { one := 0, two := 0 }, load := none, requests := [], holds := [], notice := .none,
    calendar := Calendar.initial, store := Store.cleared, inStore := none, held := [], unbegun := none, freeCount := 0, pending := [] }

end Sys2Proof.Machine
end

