-- ==== Sys2Proof/Machine/Ops.lean ====
section
/-! DEFINITION. The shared operations of every block: fields of exchange memory, lane accessors, causes, the status
block's rewrites, and the end of an event. -/

namespace Sys2Proof.Machine

/-! ### Exchange memory -/

/-- The byte a read of exchange memory gives: the byte last written, or undefined data where nothing has written since
power-on (R1, R21). -/
def State.readByte (s : State) (a : Nat) : Byte := (s.mem.read a).getD (Config.undefinedByte s.powerOns a)

/-- Successive bytes of exchange memory. -/
def State.readBytes (s : State) (a : Nat) : Nat → List Byte
  | 0 => []
  | n + 1 => s.readByte a :: State.readBytes s (a + 1) n

/-- The number in a field of exchange memory (R195). -/
def State.readField (s : State) (a width : Nat) : Nat := ofField s.order (s.readBytes a width)

/-- One byte written. -/
def State.writeByte (s : State) (a : Nat) (v : Byte) : State := { s with mem := s.mem.write a v }

/-- A field of a record in exchange memory: its address, its size in bytes and the number it shows. -/
structure Field where
  address : Nat
  width : Nat
  value : Nat
  deriving DecidableEq, Repr

/-- Memory with the fields written, each in the order of the latched strap (R195). -/
def Memory.writeFields (order : BusOrder) : Memory → List Field → Memory
  | m, [] => m
  | m, f :: fs => Memory.writeFields order (m.writeBytes f.address (fieldBytes order f.width f.value)) fs

/-- Fields written into exchange memory. -/
def State.writeFields (s : State) (fs : List Field) : State := { s with mem := s.mem.writeFields s.order fs }

/-- The addresses a list of fields covers. -/
def Field.covers (f : Field) (a : Nat) : Bool := f.address ≤ a && a < f.address + f.width

/-! ### Lanes, links and banks -/

/-- Lane B is absent when the latched LANES strap selects one lane (R3, R24). -/
def State.present (s : State) : Lane → Bool
  | .a => true
  | .b => s.laneCount == .two

def State.tracker (s : State) (lane : Lane) : Tracker := s.lanes.get lane

def State.link (s : State) (lane : Lane) : Link := s.links.get lane

def State.setTracker (s : State) (lane : Lane) (t : Tracker) : State := { s with lanes := s.lanes.set lane t }

def State.setLink (s : State) (lane : Lane) (k : Link) : State := { s with links := s.links.set lane k }

/-- The lane's tracker changed by a function. -/
def State.onTracker (s : State) (lane : Lane) (f : Tracker → Tracker) : State := s.setTracker lane (f (s.tracker lane))

/-- The lane's link changed by a function. -/
def State.onLink (s : State) (lane : Lane) (f : Link → Link) : State := s.setLink lane (f (s.link lane))

/-- A lane that tracks its pieces (R28). -/
def LaneState.tracks : LaneState → Bool
  | .running => true
  | .draining => true
  | _ => false

/-- The lane's track entry with a sequence number. -/
def Tracker.find (t : Tracker) (seq : Nat) : Option TrackEntry := t.queue.find? (fun e => e.seq == seq)

/-- The lane's track entry with a sequence number, changed. -/
def Tracker.onEntry (t : Tracker) (seq : Nat) (f : TrackEntry → TrackEntry) : Tracker :=
  { t with queue := t.queue.map (fun e => if e.seq == seq then f e else e) }

/-- The lane's track entry with a sequence number, changed. -/
def State.onEntry (s : State) (lane : Lane) (seq : Nat) (f : TrackEntry → TrackEntry) : State :=
  s.onTracker lane (fun t => t.onEntry seq f)

/-- A 16-bit count that saturates (R6). -/
def count16 (n : Nat) : Nat := min (n + 1) 65535

/-- A 32-bit count that saturates (R166, R167). -/
def count32 (n : Nat) : Nat := min (n + 1) 4294967295

/-- The bank with role ACTIVE (R90). -/
def Items.activeBank (x : Items) : BankId := if x.banks.one.role = .active then .one else .two

/-- The retained items. -/
def State.items (s : State) : Items := s.store.items

/-! ### Causes and the status block -/

/-- A cause raised (R188). -/
def State.raise (s : State) (c : Cause) : State := { s with notices := s.notices.raise c }

def State.touchPart (s : State) : State := { s with dirty := { s.dirty with part := true } }
def State.touchCalendar (s : State) : State := { s with dirty := { s.dirty with calendar := true } }
def State.touchBanks (s : State) : State := { s with dirty := { s.dirty with banks := true } }
def State.touchFunds (s : State) : State := { s with dirty := { s.dirty with funds := true } }
def State.touchSpoiled (s : State) : State := { s with dirty := { s.dirty with spoiled := true } }

/-- The lane's group is to be rewritten; the fields of an absent lane B stay as START wrote them (R3). -/
def State.touchLane (s : State) : Lane → State
  | .a => { s with dirty := { s.dirty with laneA := true } }
  | .b => { s with dirty := { s.dirty with laneB := s.dirty.laneB || s.laneCount == .two } }

/-- The sum of all holds (R113). -/
def holdsSum (holds : List Hold) : Nat := (holds.map Hold.amount).sum

/-- Available funds: the descending register less the sum of all holds (R113). -/
def State.available (s : State) : Nat := s.items.descending - holdsSum s.holds

/-- The low condition (R128). -/
def State.low (s : State) : Bool := decide (s.available < s.items.alert)

/-- The part group (R5, 11.4). -/
def partFields (s : State) : List Field := [⟨0x02, 1, resetCauseCode s.resetCause⟩, ⟨0x03, 1, partCode s.part⟩]

/-- The calendar group (R5, 11.4). -/
def calendarFields (s : State) : List Field :=
  [⟨0x04, 2, s.calendar.day⟩, ⟨0x06, 2, s.calendar.minute⟩, ⟨0x08, 1, flagCode s.calendar.valid⟩]

/-- The banks group: with no pending bank the absent flag is set and its id and instant read 0 (R5, R91, 11.4). -/
def banksFields (s : State) : List Field :=
  let active := s.items.banks.get s.items.activeBank
  let other := s.items.banks.get s.items.activeBank.other
  let shown := decide (other.role = .pending)
  [⟨0x09, 1, flagCode (!shown)⟩, ⟨0x0A, 2, active.tableId⟩, ⟨0x0C, 2, active.effectiveDay⟩,
    ⟨0x0E, 2, active.effectiveMinute⟩, ⟨0x10, 2, if shown then other.tableId else 0⟩,
    ⟨0x12, 2, if shown then other.effectiveDay else 0⟩, ⟨0x14, 2, if shown then other.effectiveMinute else 0⟩]

/-- The spoiled group (R5, 11.4). -/
def spoiledFields (s : State) : List Field := [⟨0x16, 2, s.items.spoiled.length⟩]

/-- The funds group (R5, R111, 11.4). -/
def fundsFields (s : State) : List Field :=
  [⟨0x18, 6, s.items.descending⟩, ⟨0x1E, 6, s.items.ascending⟩, ⟨0x24, 6, s.available⟩, ⟨0x2A, 4, s.items.pieceCount⟩]

/-- An optional field is written when present; the bytes of an absent field are left as they are (R195). -/
def optionField (address width : Nat) : Option Nat → List Field
  | some value => [⟨address, width, value⟩]
  | none => []

/-- The sequence presence bits of a lane group (11.4); the bits that 11.4 does not name are 0 (log entry 34). -/
def seqPresence (t : Tracker) : Nat := flagBit t.lastAssigned.isSome 0 + flagBit t.lastDone.isSome 1

/-- A lane group at its base (R5, R6, 11.4). -/
def laneFields (base : Nat) (t : Tracker) : List Field :=
  [⟨base, 1, laneStateCode t.state⟩, ⟨base + 0x01, 1, haltCode t.haltCause⟩, ⟨base + 0x02, 2, seqPresence t⟩]
    ++ optionField (base + 0x04) 4 t.lastAssigned ++ optionField (base + 0x08) 4 t.lastDone
    ++ [⟨base + 0x0C, 2, t.overruns⟩, ⟨base + 0x0E, 2, t.strays⟩, ⟨base + 0x10, 2, t.refusals⟩]

/-- The lane's tracker changed, its group to be rewritten when a field of the group has changed (R5). -/
def State.changeLane (s : State) (lane : Lane) (f : Tracker → Tracker) : State :=
  if laneFields 0 (f (s.tracker lane)) = laneFields 0 (s.tracker lane) then s.onTracker lane f
  else (s.onTracker lane f).touchLane lane

/-- The groups waiting to be rewritten, as fields. -/
def dirtyFields (s : State) : List Field :=
  (if s.dirty.part then partFields s else []) ++ (if s.dirty.calendar then calendarFields s else [])
    ++ (if s.dirty.banks then banksFields s else []) ++ (if s.dirty.spoiled then spoiledFields s else [])
    ++ (if s.dirty.funds then fundsFields s else []) ++ (if s.dirty.laneA then laneFields 0x30 s.lanes.a else [])
    ++ (if s.dirty.laneB then laneFields 0x42 s.lanes.b else [])

/-- The generation word after one more increment (R4). -/
def nextGeneration (g : Nat) : Nat := (g + 1) % 65536

/-- The rewrites an event calls for, made as one rewrite framed by the generation word (R4, R5). From a reset event to
START's first complete write the block is marked as being rewritten, and that write shows every change (R7). -/
def State.flush (s : State) : State :=
  if s.dirty = Groups.none then s
  else if s.part = .start then { s with dirty := Groups.none }
  else
    let g := nextGeneration (nextGeneration s.generation)
    { s.writeFields (dirtyFields s ++ [⟨0x00, 2, g⟩]) with generation := g, dirty := Groups.none }

/-- START's first complete write of the status block: every group, 0 in every byte chapter 11 does not name, and the
generation word left at 2 (R7, R195). -/
def State.writeWholeStatus (s : State) : State :=
  { s.writeFields
      ([⟨0x2E, 2, 0⟩, ⟨0x54, 172, 0⟩] ++ partFields s ++ calendarFields s ++ banksFields s ++ spoiledFields s
        ++ fundsFields s ++ laneFields 0x30 s.lanes.a ++ laneFields 0x42 s.lanes.b ++ [⟨0x00, 2, 2⟩]) with
    generation := 2, dirty := Groups.none }

/-! ### The end of an event -/

/-- What every command and event answers: the state after its effect with the status block rewritten. -/
def finish (s : State) : Host.Outcome State Fault Refusal := .next s.flush

/-- An effect that needs the main supply: without it the part does nothing. -/
def powered (f : State → State) (s : State) : Host.Outcome State Fault Refusal :=
  if s.supply then finish (f s) else .next s

end Sys2Proof.Machine
end

