-- ==== Sys2Proof/Machine/Operands.lean ====
section
/-! DEFINITION. Where operands stand: slot addresses and input fields (R9, R11), slot result fields (R12), the command
block (11.5), the staging area. -/

namespace Sys2Proof.Machine

/-! ### Slots -/

/-- The base of the lane's slots (R9). -/
def slotsBase : Lane → Nat
  | .a => 0x0800
  | .b => 0x1000

/-- The slot index of a sequence number (R9). -/
def slotIndex (seq : Nat) : Nat := seq % 32

/-- The address of a slot (R9); its first byte is the slot's state byte. -/
def slotAddress (lane : Lane) (index : Nat) : Nat := slotsBase lane + 64 * index

/-- Whether a slot state byte holds a state's code (R14). -/
def State.slotIs (s : State) (lane : Lane) (index : Nat) (state : SlotState) : Bool :=
  s.readByte (slotAddress lane index) == slotCode state

/-- A slot state byte moved by the part, the last write of its event (R13, R17). -/
def State.setSlot (s : State) (lane : Lane) (index : Nat) (state : SlotState) : State :=
  s.writeByte (slotAddress lane index) (slotCode state)

/-- A field of a slot. -/
def slotField (lane : Lane) (index offset width value : Nat) : Field := ⟨slotAddress lane index + offset, width, value⟩

/-- A slogan index: 32 to 254 read as 255, none (R11). -/
def sloganOf (code : Nat) : Nat := if code < 32 then code else 255

/-- The slot's input fields as the part reads them at RATE (R11, 11.3). -/
def State.inputCopy (s : State) (lane : Lane) (index : Nat) : InputCopy :=
  let at_ := slotAddress lane index
  { weight := s.readField (at_ + 0x0C) 2, status := weightStatusOfCode (s.readField (at_ + 0x16) 1),
    length := s.readField (at_ + 0x0E) 2, width := s.readField (at_ + 0x10) 2, thickness := s.readField (at_ + 0x12) 2,
    cls := s.readField (at_ + 0x17) 1, area := s.readField (at_ + 0x14) 2, services := s.readByte (at_ + 0x18),
    tier := s.readField (at_ + 0x19) 1, handHold := s.readByte (at_ + 0x1A) != 0,
    slogan := sloganOf (s.readField (at_ + 0x1B) 1), offset := signedOf 8 (s.readField (at_ + 0x1C) 1),
    account := s.readField (at_ + 0x1D) 1 }

/-- The identity fields of a slot, and its result presence and condition flags words cleared (R10, R195). -/
def identityFields (lane : Lane) (index seq batchId : Nat) : List Field :=
  [slotField lane index 0x01 1 (laneCode lane), slotField lane index 0x04 4 seq, slotField lane index 0x08 4 batchId,
    slotField lane index 0x02 2 0, slotField lane index 0x20 2 0]

/-- The result presence word, written when an event sets a bit of it (R1, R12). -/
def presenceFields (lane : Lane) (index : Nat) (presence : Half) (bits : List Nat) : List Field :=
  if bits = [] then [] else [slotField lane index 0x02 2 presence.toNat]

/-- Result fields written into an entry's slot, with the presence word that shows them (R12, 11.3). The part keeps that
word in the entry (log entry 20). An entry without a slot has no fields to write. -/
def State.writeResults (s : State) (lane : Lane) (e : TrackEntry) (fields : Nat → List Field) (bits : List Nat) : State :=
  let presence := bits.foldl withBit e.presence
  let s := s.onEntry lane e.seq (fun e => { e with presence := presence })
  match e.slot with
  | none => s
  | some index => s.writeFields (fields index ++ presenceFields lane index presence bits)

/-- The condition flags of a kept rating (11.3). The whole word is written, so bit 9, which the manual has written at DONE, is
written as 0 beside bit 8: the model's choice (log entry 20). -/
def flagsField (lane : Lane) (flags : Half) (index : Nat) : Field := slotField lane index 0x20 2 flags.toNat

/-- The byte of the condition flags word that holds BATCH_OVERFLOW, bit 9, written at DONE (R13, 11.3): bits 0 to 7 are not
written then, and bit 8 beside it is the part's own (log entry 20). -/
def overflowField (order : BusOrder) (lane : Lane) (flags : Half) (overflow : Bool) (index : Nat) : Field :=
  slotField lane index (match order with | .lowFirst => 0x21 | .highFirst => 0x20) 1
    ((if overflow then flags ||| batchOverflowBit else flags).toNat / 256)

/-! ### The command block -/

def commandCodeAddress : Nat := 0x0100
def statusAddress : Nat := 0x0102
def loadReportAddress : Nat := 0x0104
def argumentAddress : Nat := 0x0110

/-- The code of a command (11.5); other events have none. -/
def commandCode : Instr → Option Nat
  | .setDate .. => some 0x01
  | .configureLane .. => some 0x02
  | .closeSetup => some 0x03
  | .installLicence .. => some 0x04
  | .loadRates => some 0x05
  | .applyVoucher .. => some 0x06
  | .setAccount .. => some 0x07
  | .setFundsAlert .. => some 0x08
  | .reportFunds => some 0x09
  | .readAccounts => some 0x0A
  | .openBatch .. => some 0x0B
  | .closeBatch .. => some 0x0C
  | .resumeLane .. => some 0x0D
  | .setPostdate .. => some 0x0E
  | .closePeriod .. => some 0x0F
  | .claimSpoiled .. => some 0x10
  | .restart => some 0x11
  | .park .. => some 0x12
  | .unknownCommand code => some code.toNat
  | _ => none

/-- A field of the argument area. -/
def argumentField (offset width value : Nat) : Field := ⟨argumentAddress + offset, width, value⟩

/-- The argument fields of a command as the line controller lays them out (11.5). -/
def argumentFields : Instr → List Field
  | .setDate day minute second _ =>
    [argumentField 0 2 day.toNat, argumentField 2 2 minute.toNat, argumentField 4 1 second.toNat]
  | .configureLane x =>
    [argumentField 0 1 x.lane.toNat, argumentField 1 1 x.edges.toNat, argumentField 2 2 x.entryLimit.toNat,
      argumentField 4 2 x.rateLimit.toNat, argumentField 6 2 x.printLimit.toNat, argumentField 8 1 x.window.toNat,
      argumentField 9 1 x.timer.toNat, argumentField 10 1 x.link.toNat]
  | .installLicence x _ =>
    [argumentField 0 4 x.meterId.toNat, argumentField 4 6 x.maximumFunds.toNat, argumentField 10 4 x.perPieceCap.toNat,
      argumentField 14 2 x.interval.toNat, argumentField 16 4 x.seed.toNat, argumentField 20 4 x.firstSerial.toNat]
  | .applyVoucher x _ =>
    [argumentField 0 4 x.meterId.toNat, argumentField 4 4 x.serial.toNat, argumentField 8 4 x.amount.toNat,
      argumentField 12 2 x.issueDay.toNat, argumentField 14 4 x.check.toNat]
  | .setAccount account state _ => [argumentField 0 1 account.toNat, argumentField 1 1 state.toNat]
  | .setFundsAlert threshold _ => [argumentField 0 6 threshold.toNat]
  | .openBatch lane batchId => [argumentField 0 1 lane.toNat, argumentField 4 4 batchId.toNat]
  | .closeBatch lane => [argumentField 0 1 lane.toNat]
  | .resumeLane lane => [argumentField 0 1 lane.toNat]
  | .setPostdate offset => [argumentField 0 1 offset.toNat]
  | .claimSpoiled limit _ => [argumentField 0 4 limit.toNat]
  | _ => []

/-- The line controller's writes of a command into the command block (R179): its code and its argument fields. -/
def State.layCommand (s : State) (i : Instr) : State :=
  match commandCode i with
  | some code => s.writeFields (⟨commandCodeAddress, 2, code⟩ :: argumentFields i)
  | none => s

/-- A field of the argument area as it lies. -/
def State.argument (s : State) (offset width : Nat) : Nat := s.readField (argumentAddress + offset) width

/-- The command the command block holds, its code and arguments as they lie (R179, R181, 11.5). -/
def State.laidCommand (s : State) : Instr :=
  let code := s.readField commandCodeAddress 2
  match code with
  | 0x01 =>
    .setDate (BitVec.ofNat 16 (s.argument 0 2)) (BitVec.ofNat 16 (s.argument 2 2)) (BitVec.ofNat 8 (s.argument 4 1)) .made
  | 0x02 =>
    .configureLane
      { lane := BitVec.ofNat 8 (s.argument 0 1), edges := BitVec.ofNat 8 (s.argument 1 1),
        entryLimit := BitVec.ofNat 16 (s.argument 2 2), rateLimit := BitVec.ofNat 16 (s.argument 4 2),
        printLimit := BitVec.ofNat 16 (s.argument 6 2), window := BitVec.ofNat 8 (s.argument 8 1),
        timer := BitVec.ofNat 8 (s.argument 9 1), link := BitVec.ofNat 8 (s.argument 10 1) }
  | 0x03 => .closeSetup
  | 0x04 =>
    .installLicence
      { meterId := BitVec.ofNat 32 (s.argument 0 4), maximumFunds := BitVec.ofNat 48 (s.argument 4 6),
        perPieceCap := BitVec.ofNat 32 (s.argument 10 4), interval := BitVec.ofNat 16 (s.argument 14 2),
        seed := BitVec.ofNat 32 (s.argument 16 4), firstSerial := BitVec.ofNat 32 (s.argument 20 4) } (.atOnce .made)
  | 0x05 => .loadRates
  | 0x06 =>
    .applyVoucher
      { meterId := BitVec.ofNat 32 (s.argument 0 4), serial := BitVec.ofNat 32 (s.argument 4 4),
        amount := BitVec.ofNat 32 (s.argument 8 4), issueDay := BitVec.ofNat 16 (s.argument 12 2),
        check := BitVec.ofNat 32 (s.argument 14 4) } (.atOnce .made)
  | 0x07 => .setAccount (BitVec.ofNat 8 (s.argument 0 1)) (BitVec.ofNat 8 (s.argument 1 1)) (.atOnce .made)
  | 0x08 => .setFundsAlert (BitVec.ofNat 48 (s.argument 0 6)) (.atOnce .made)
  | 0x09 => .reportFunds
  | 0x0A => .readAccounts
  | 0x0B => .openBatch (BitVec.ofNat 8 (s.argument 0 1)) (BitVec.ofNat 32 (s.argument 4 4))
  | 0x0C => .closeBatch (BitVec.ofNat 8 (s.argument 0 1))
  | 0x0D => .resumeLane (BitVec.ofNat 8 (s.argument 0 1))
  | 0x0E => .setPostdate (BitVec.ofNat 8 (s.argument 0 1))
  | 0x0F => .closePeriod (.atOnce .made)
  | 0x10 => .claimSpoiled (BitVec.ofNat 32 (s.argument 0 4)) (.atOnce .made)
  | 0x11 => .restart
  | 0x12 => .park .made
  | _ => .unknownCommand (BitVec.ofNat 16 code)

/-- The status field written (10.2). -/
def State.writeStatus (s : State) (status : Status) : State := s.writeFields [⟨statusAddress, 2, statusCode status⟩]

/-- The presence byte of a load report (11.5). -/
def LoadReport.presence (r : LoadReport) : Nat :=
  flagBit r.area.isSome 0 + flagBit r.cls.isSome 1 + flagBit r.format.isSome 2 + flagBit r.priceBreak.isSome 3
    + flagBit r.service.isSome 4

/-- A load report with every record field absent. -/
def LoadReport.bare (step : Nat) : LoadReport :=
  { step := step, area := none, cls := none, format := none, priceBreak := none, service := none }

/-- The load report written beside the status (5.3, 11.5); the bits of its presence byte that 11.5 does not name are 0 (log
entry 34). -/
def State.writeLoadReport (s : State) (r : LoadReport) : State :=
  s.writeFields
    ([⟨loadReportAddress, 1, r.step⟩, ⟨loadReportAddress + 1, 1, r.presence⟩, ⟨loadReportAddress + 8, 4, 0⟩]
      ++ optionField (loadReportAddress + 2) 2 r.area ++ optionField (loadReportAddress + 4) 1 r.cls
      ++ optionField (loadReportAddress + 5) 1 r.format ++ optionField (loadReportAddress + 6) 1 r.priceBreak
      ++ optionField (loadReportAddress + 7) 1 r.service)

/-! ### The staging area -/

/-- The first byte of the rate-table staging area and the largest image length (R92). -/
def stagingAddress : Nat := 0x2000
def largestImage : Nat := 57328

/-- The first byte of the register window (R1). -/
def registerWindow : Nat := 0xFFF0

/-- The byte a LOAD RATES reads at an offset of the image: the byte it has read already, or the byte that lies there
(R98). -/
def State.stagingByte (s : State) (copy : List Byte) (offset : Nat) : Byte :=
  match copy[offset]? with
  | some v => v
  | none => s.readByte (stagingAddress + offset)

end Sys2Proof.Machine
end

