-- ==== Sys2Proof/Machine/Funds.lean ====
section
/-! DEFINITION. The funds unit's arithmetic on the retained items, holds, inspection, and the spoiled list (chapters 6
to 8). Each function of `Items` gives the new values of one whole update. -/

namespace Sys2Proof.Machine

/-- The largest value of a money register (6.1). -/
def largestMoney : Nat := 999999999999

/-- The largest serial (R115). -/
def largestSerial : Nat := 4294967295

/-- One account of the list changed. -/
def onAccount (f : Account → Account) : List Account → Nat → List Account
  | [], _ => []
  | x :: xs, 0 => f x :: xs
  | x :: xs, k + 1 => x :: onAccount f xs k

/-- Whether a number names an OPEN account: a number outside 0 to 31 is read as a closed one (R11, R114). -/
def Items.accountOpen (x : Items) (account : Nat) : Bool :=
  match x.accounts[account]? with
  | some record => record.isOpen
  | none => false

/-- The new values of a debit (R118). -/
def Items.debit (x : Items) (lane : Lane) (hold : Hold) (serial day : Nat) : Items :=
  { x with
    descending := x.descending - hold.amount
    ascending := x.ascending + hold.amount
    pieceCount := x.pieceCount + 1
    accounts := onAccount (fun k => { k with usage := k.usage + hold.amount, pieces := k.pieces + 1 }) x.accounts hold.account
    marks := x.marks.set lane (some { serial := serial, amount := hold.amount, account := hold.account, day := day })
    lastImprintDay := max x.lastImprintDay day }

/-- A spoiled entry placed by its serial (R158). -/
def placeSpoiled (entry : SpoiledEntry) : List SpoiledEntry → List SpoiledEntry
  | [] => [entry]
  | x :: xs => if entry.serial < x.serial then entry :: x :: xs else x :: placeSpoiled entry xs

/-- The new values of the settling of an exchange: the lane's mark cleared, and for every result but PRINTED a spoiled
entry of the outstanding imprint (R152, R153). -/
def Items.settle (x : Items) (lane : Lane) (imprint : Imprint) (result : PrintResult) : Items :=
  { x with
    marks := x.marks.set lane none
    spoiled :=
      if result = .printed then x.spoiled
      else
        placeSpoiled
          { serial := imprint.serial, lane := lane, amount := imprint.amount, account := imprint.account,
            day := imprint.day, cause := result } x.spoiled }

/-- The spoiled entry of a present mark with cause UNCONFIRMED (R137). -/
def Mark.unconfirmed (mark : Mark) (lane : Lane) : SpoiledEntry :=
  { serial := mark.serial, lane := lane, amount := mark.amount, account := mark.account, day := mark.day,
    cause := .unconfirmed }

/-- A lane's mark turned into an UNCONFIRMED entry. -/
def placeMark (lane : Lane) (mark : Option Mark) (list : List SpoiledEntry) : List SpoiledEntry :=
  match mark with
  | some mark => placeSpoiled (mark.unconfirmed lane) list
  | none => list

/-- The new values of the conversion of both outstanding marks (R137), which PARK's recording also makes (R157). -/
def Items.convertMarks (x : Items) : Items :=
  { x with marks := { a := none, b := none }, spoiled := placeMark .b x.marks.b (placeMark .a x.marks.a x.spoiled) }

/-- How many outstanding marks are present (R112). -/
def Items.marksPresent (x : Items) : Nat := (if x.marks.a.isSome then 1 else 0) + (if x.marks.b.isSome then 1 else 0)

/-- The serials that a claim takes: those at or below the claim limit (R159). -/
def Items.claimed (x : Items) (limit : Nat) : List Nat :=
  (x.spoiled.map SpoiledEntry.serial).filter (fun serial => decide (serial ≤ limit))

/-- The new values of CLAIM SPOILED: exactly the entries that its report lists as claimed removed (R159). -/
def Items.claim (x : Items) (claimed : List Nat) : Items :=
  { x with spoiled := x.spoiled.filter (fun entry => !claimed.contains entry.serial) }

/-- The new values of a voucher credit (R142). -/
def Items.creditVoucher (x : Items) (amount serial day : Nat) : Items :=
  { x with descending := x.descending + amount, credit := x.credit + amount, voucherSerial := serial, voucherDay := day }

/-- The new values of INSTALL LICENCE (R131, R139). -/
def Items.install (x : Items) (licence : Licence) (day : Nat) : Items :=
  { Items.cleared with
    licence := some licence, voucherSerial := licence.firstSerial - 1, voucherDay := day, banks := x.banks }

/-- The new values of SET ACCOUNT (R122). -/
def Items.setAccount (x : Items) (account : Nat) (isOpen : Bool) : Items :=
  { x with accounts := onAccount (fun k => { k with isOpen := isOpen }) x.accounts account }

/-- The new values of CLOSE PERIOD (R125). -/
def Items.closePeriod (x : Items) : Items :=
  { x with accounts := x.accounts.map (fun k => { k with usage := 0, pieces := 0 }), periodMark := x.ascending }

/-- The new values of a bank switch (R106). -/
def Items.switchBanks (x : Items) : Items :=
  let active := x.activeBank
  { x with
    banks :=
      (x.banks.set active { x.banks.get active with role := .spare }).set active.other
        { x.banks.get active.other with role := .active } }

/-- The new values of a LOAD RATES commit: the built contents in the inactive bank with their role; a bank that becomes
ACTIVE makes the other SPARE (R103). -/
def Items.commitBank (x : Items) (bank : Bank) (active : Bool) : Items :=
  let target := x.activeBank.other
  if active then
    { x with
      banks :=
        (x.banks.set target { bank with role := .active }).set target.other
          { x.banks.get target.other with role := .spare } }
  else { x with banks := x.banks.set target { bank with role := .pending } }

/-! ### Instants, holds and inspection -/

/-- An instant is at or before the calendar's day and minute (4.1 of the manual's opening, R103). -/
def Calendar.reached (c : Calendar) (day minute : Nat) : Bool :=
  decide (day < c.day) || (decide (day = c.day) && decide (minute ≤ c.minute))

/-- The calendar's day and minute with its valid flag. -/
def Calendar.stamp (c : Calendar) : Stamp := { day := c.day, minute := c.minute, valid := c.valid }

/-- The imprint day of a debit made now (R119). -/
def Calendar.imprintDay (c : Calendar) : Nat := min (c.day + c.postdate) 65535

/-- The last voucher day a credit or an install takes: the calendar day, or the given day while the calendar is not
valid (R139, R142). -/
def Calendar.dayOr (c : Calendar) (day : Nat) : Nat := if c.valid then c.day else day

/-- The days since the last voucher, defined while the calendar is valid (R129). -/
def State.daysSince (s : State) : Option Nat :=
  if s.calendar.valid then some (s.calendar.day - s.items.voucherDay) else none

/-- Check 2 of a hold request passes (R114, R129). -/
def State.inspectionPasses (s : State) : Bool :=
  match s.daysSince, s.items.licence with
  | some days, some licence => decide (days < licence.interval)
  | _, _ => true

/-- The notice an evaluation gives (R129). -/
def noticeFor (days interval : Nat) : Notice :=
  if interval ≤ days then .due else if 7 < interval ∧ interval ≤ days + 7 then .warned else .none

/-- The evaluation of the inspection notice (R129). -/
def State.inspect (s : State) : State :=
  match s.daysSince, s.items.licence with
  | some days, some licence =>
    let notice := noticeFor days licence.interval
    let raised : Bool :=
      match notice with
      | .due => decide (s.notice ≠ .due)
      | .warned => decide (s.notice = .none)
      | .none => false
    let s' := { s with notice := notice }
    if raised then s'.raise .inspectionDue else s'
  | _, _ => s

/-- Whether a hold is the lane's for a sequence number. -/
def Hold.isFor (hold : Hold) (lane : Lane) (seq : Nat) : Bool := hold.lane == lane && hold.seq == seq

/-- The hold of a tracked piece (R113). -/
def State.holdOf (s : State) (lane : Lane) (seq : Nat) : Option Hold := s.holds.find? (fun h => h.isFor lane seq)

/-- The holds list without a piece's hold (R117, R118). -/
def withoutHold (holds : List Hold) (lane : Lane) (seq : Nat) : List Hold := holds.filter (fun h => !h.isFor lane seq)

/-- A piece's hold released (R117). -/
def State.releaseHold (s : State) (lane : Lane) (seq : Nat) : State :=
  { s with holds := withoutHold s.holds lane seq }.touchFunds

/-- The cause with which a hold request is refused at the first check that fails (R114, R115). -/
def State.holdRefusal (s : State) (request : Hold) : Option DivertCause :=
  if !s.items.accountOpen request.account then some .accountClosed
  else if !s.inspectionPasses then some .inspectionDue
  else if s.available < request.amount ∨ largestSerial ≤ s.items.pieceCount + s.holds.length then some .noFunds
  else none

end Sys2Proof.Machine
end

