-- ==== Sys2Proof/Machine/Store.lean ====
section
/-! DEFINITION. Whole updates of the retained store: how an event asks for one, how one stands in its steps, and how
events wait for the store (R133, R134). -/

namespace Sys2Proof.Machine

/-- What taking an event comes to: a state, when it asks for no whole update, or the whole update it asks for, its new
values, and the state of the event up to it. -/
inductive Plan where
  | done (s : State)
  | update (work : Work) (values : Items) (s : State)

def Plan.asks : Plan → Bool
  | .done _ => false
  | .update .. => true

/-- The store is making a whole update (R133). -/
def State.busy (s : State) : Bool := s.inStore.isSome

/-- Only the clearing after a store fault sets the battery-good latch (R136). -/
def Work.setsLatch : Work → Bool
  | .startClear => true
  | _ => false

/-- The new values of a whole update with their check word (R133). -/
def Items.newValues (values : Items) (setsLatch : Bool) : NewValues :=
  { items := values, setsLatch := setsLatch, check := values.checkWord }

/-- New values in their places, the update record EMPTY: steps 3 and 4 of R133. -/
def State.place (s : State) (values : NewValues) : State :=
  { s with
    store := { items := values.items, latch := s.store.latch || values.setsLatch, check := values.check, record := .empty }
    inStore := none }

/-- A whole update made within its event. -/
def State.makeUpdate (s : State) (work : Work) (values : Items) : State := s.place (values.newValues work.setsLatch)

/-- A whole update in its steps: the update record holds the new values, and the store still the old (R133). -/
def State.beginUpdate (s : State) (work : Work) (values : Items) (phase : Phase) : State :=
  { s with
    store := { s.store with record := .inSteps phase (values.newValues work.setsLatch) }
    inStore := some work }

/-! ### The blocks events belong to (R133) -/

/-- A lane's tracker, when a lane code names a lane. -/
def trackerBlock (code : Byte) : List Block :=
  match laneOfCode code.toNat with
  | some lane => [.tracker lane]
  | none => []

/-- The blocks whose state an event reaches, for the order among events that wait for the store (log entry 9). -/
def eventBlocks : Instr → List Block
  | .entry lane _ => [.tracker lane]
  | .rate lane _ => [.tracker lane]
  | .print lane _ _ => [.tracker lane]
  | .exit lane _ => [.tracker lane]
  | .encoderCount lane => [.tracker lane]
  | .run lane _ => [.tracker lane]
  | .configureLane x => trackerBlock x.lane
  | .openBatch lane _ => trackerBlock lane
  | .closeBatch lane => trackerBlock lane
  | .resumeLane lane => trackerBlock lane
  | .frameSent lane => [.link lane]
  | .answerReady lane => [.link lane]
  | .answer lane _ _ => [.link lane]
  | .answerTimerExpiry lane _ => [.link lane]
  | .take => [.ratingUnit]
  | .ratingCompletion => [.ratingUnit]
  | .loadRates => [.rateStore]
  | .loadRatesCompletion _ => [.rateStore]
  | .installLicence .. => [.funds]
  | .applyVoucher .. => [.funds]
  | .setAccount .. => [.funds]
  | .setFundsAlert .. => [.funds]
  | .reportFunds => [.funds]
  | .readAccounts => [.funds]
  | .closePeriod _ => [.funds]
  | .claimSpoiled .. => [.funds]
  | .holdRequest => [.funds]
  | .park _ => [.tracker .a, .tracker .b, .link .a, .link .b, .ratingUnit, .funds]
  | _ => []

def HeldEvent.blocks : HeldEvent → List Block
  | .event i => eventBlocks i
  | .switchCheck => [.rateStore]

/-- The blocks of the event whose whole update is in its steps. START's updates keep no block waiting: a command in START
completes at once (R177). -/
def Work.blocks : Work → List Block
  | .debit lane _ _ _ => [.tracker lane]
  | .settle lane _ _ => [.link lane]
  | .park => [.tracker .a, .tracker .b, .link .a, .link .b, .ratingUnit, .funds]
  | .claim _ => [.funds]
  | .credit => [.funds]
  | .install => [.funds]
  | .setAccount => [.funds]
  | .setAlert _ => [.funds]
  | .closePeriod => [.funds]
  | .commit _ => [.rateStore]
  | .bankSwitch => [.rateStore]
  | .setDate .. => [.rateStore]
  | .startClear => []
  | .startConversion _ => []
  | .startSwitch => []

/-- A block with an event of its own waiting for the store (R133). -/
def State.waits (s : State) (block : Block) : Bool :=
  s.inStore.any (fun work => work.blocks.contains block) || s.held.any (fun e => e.blocks.contains block)

/-- An event has to wait: the store is in the steps of an update, and the event asks for one itself or comes to a block
that waits (R133). -/
def State.mustWait (s : State) (e : HeldEvent) (asks : Bool) : Bool := s.busy && (asks || e.blocks.any s.waits)

/-- An event held, with all its effects (R133). -/
def State.hold (s : State) (e : HeldEvent) : State := { s with held := s.held ++ [e] }

end Sys2Proof.Machine
end

