-- ==== Sys2Proof/Machine/Tracker.lean ====
section
/-! DEFINITION. The lane tracker's shared operations: strays, the end of an entry, batches, halting and the emptying of
a lane (chapters 2 and 9). -/

namespace Sys2Proof.Machine

/-- A stray sensor event (R29); a count at its end stays there and rewrites nothing (R5, R6). -/
def State.stray (s : State) (lane : Lane) : State :=
  (s.changeLane lane (fun t => { t with strays := count16 t.strays })).raise .laneIrregular

/-- The place of a photocell in belt order (R28). -/
def Position.rank : Position → Nat
  | .entry => 0
  | .rate => 1
  | .print => 2
  | .exit => 3

/-- The entry a RATE, PRINT or EXIT event applies to: the oldest that has not passed the photocell, if it has passed
the one before it; otherwise the event is a stray (R28). -/
def Tracker.applies (t : Tracker) (photocell : Position) : Option TrackEntry :=
  match t.queue.find? (fun e => decide (e.position.rank < photocell.rank)) with
  | some e => if e.position.rank + 1 = photocell.rank then some e else none
  | none => none

/-- An entry past a photocell, its segment distance count 0 (R28). -/
def TrackEntry.pass (e : TrackEntry) (photocell : Position) : TrackEntry := { e with position := photocell, distance := 0 }

/-- An entry that will not be franked, with its divert cause (R32). -/
def TrackEntry.divert (e : TrackEntry) (cause : DivertCause) : TrackEntry :=
  { e with stage := .notFranked, cause := some cause }

/-! ### Batches (9.1, 9.2) -/

/-- The base of a lane's batch summary (11.7). -/
def summaryAddress : Lane → Nat
  | .a => 0x0200
  | .b => 0x0240

/-- The batch summary, with 0 in the bytes chapter 11 does not name (R168, 11.7). -/
def summaryFields (lane : Lane) (batch : Batch) (closed : Stamp) : List Field :=
  let base := summaryAddress lane
  [⟨base + 0x2B, 1, 0⟩, ⟨base + 0x34, 12, 0⟩, ⟨base, 1, laneCode lane⟩, ⟨base + 0x01, 1, flagCode batch.first.isSome⟩,
    ⟨base + 0x02, 1, flagCode batch.opened.valid⟩, ⟨base + 0x03, 1, flagCode closed.valid⟩, ⟨base + 0x04, 4, batch.id⟩,
    ⟨base + 0x08, 2, batch.opened.day⟩, ⟨base + 0x0A, 2, batch.opened.minute⟩, ⟨base + 0x0C, 2, closed.day⟩,
    ⟨base + 0x0E, 2, closed.minute⟩, ⟨base + 0x10, 4, batch.entered⟩, ⟨base + 0x14, 4, batch.franked⟩,
    ⟨base + 0x18, 4, batch.diverted⟩, ⟨base + 0x1C, 4, batch.spoiled⟩, ⟨base + 0x20, 4, batch.jammed⟩,
    ⟨base + 0x24, 6, batch.postage⟩, ⟨base + 0x2A, 1, flagCode batch.overflow⟩]
    ++ optionField (base + 0x2C) 4 batch.first ++ optionField (base + 0x30) 4 batch.last

/-- A CLOSING batch with nothing in flight ends: its summary is written, BATCH_DONE raised, the record NONE (R168). -/
def State.endBatch (s : State) (lane : Lane) : State :=
  let batch := (s.tracker lane).batch
  if batch.state = .closing ∧ batch.inFlight = 0 then
    ((s.writeFields (summaryFields lane batch s.calendar.stamp)).raise .batchDone).onTracker lane
      (fun t => { t with batch := { t.batch with state := .none } })
  else s

/-- The batch counts moved by a slot going DONE (R167). -/
def Batch.count (batch : Batch) (outcome : PieceOutcome) (amount : Nat) : Batch :=
  let batch := { batch with inFlight := batch.inFlight - 1 }
  match outcome with
  | .franked => { batch with franked := count32 batch.franked, postage := batch.postage + amount }
  | .spoiled => { batch with spoiled := count32 batch.spoiled, postage := batch.postage + amount }
  | .jammedAfterDebit => { batch with jammed := count32 batch.jammed, postage := batch.postage + amount }
  | .diverted => { batch with diverted := count32 batch.diverted }

/-- A piece joins its lane's OPEN batch (R166). -/
def Batch.join (batch : Batch) (seq : Nat) : Batch :=
  { batch with
    entered := count32 batch.entered, inFlight := batch.inFlight + 1, last := some seq
    first := some (batch.first.getD seq) }

/-! ### The end of an entry -/

/-- The divert cause written with an outcome (R12). -/
def divertFields (lane : Lane) (cause : Option DivertCause) (index : Nat) : List Field :=
  match cause with
  | some cause => [slotField lane index 0x33 1 (divertCode cause)]
  | none => []

/-- An entry's slot moves to DONE: the outcome, the divert cause and BATCH_OVERFLOW first, the state byte last, and then
the follow-on effects (R13, R17, R167). -/
def State.slotDone (s : State) (lane : Lane) (e : TrackEntry) (index : Nat) (outcome : PieceOutcome)
    (cause : Option DivertCause) : State :=
  let s := s.writeResults lane e
    (fun index =>
      slotField lane index 0x32 1 (outcomeCode outcome) :: divertFields lane cause index
        ++ [overflowField s.order lane e.flags (s.tracker lane).batch.overflow index])
    (outcomeBit :: (if cause.isSome then [divertBit] else []))
  let s := s.setSlot lane index .done
  let s := s.onTracker lane (fun t =>
    { t with lastDone := some e.seq, batch := t.batch.count outcome (e.held.getD 0) })
  ((s.touchLane lane).raise (slotDoneCause lane)).endBatch lane

/-- The entry removed from the track queue (R33). -/
def Tracker.remove (t : Tracker) (seq : Nat) : Tracker := { t with queue := t.queue.filter (fun e => e.seq != seq) }

/-- An entry leaves the track queue with its outcome; without a slot it leaves with no slot write, no cause and no batch
count (R44). -/
def State.endEntry (s : State) (lane : Lane) (e : TrackEntry) (outcome : PieceOutcome) (cause : Option DivertCause) :
    State :=
  let s :=
    match e.slot with
    | some index => s.slotDone lane e index outcome cause
    | none => s
  s.onTracker lane (fun t => t.remove e.seq)

/-- A DRAINING lane whose queue is empty moves to STOPPED (R26). -/
def State.drainCheck (s : State) (lane : Lane) : State :=
  let t := s.tracker lane
  if t.state = .draining ∧ t.queue = [] then (s.setTracker lane { t with state := .stopped }).touchLane lane else s

/-- How a halt emptying or PARK ends an entry: debited pieces are JAMMED_AFTER_DEBIT, a NOT_FRANKED piece keeps its
cause, any other takes the cause given (R46, R47). -/
def endingOf (e : TrackEntry) (otherwise : DivertCause) : PieceOutcome × Option DivertCause :=
  match e.stage with
  | .dispatched => (.jammedAfterDebit, none)
  | .printed => (.jammedAfterDebit, none)
  | .spoiled => (.jammedAfterDebit, none)
  | .notFranked => (.diverted, some (e.cause.getD otherwise))
  | _ => (.diverted, some otherwise)

/-- Every entry of the lane ended, oldest first (R46, R47). -/
def State.endEntries (s : State) (lane : Lane) (otherwise : DivertCause) : List TrackEntry → State
  | [] => s
  | e :: es => State.endEntries (s.endEntry lane e (endingOf e otherwise).1 (endingOf e otherwise).2) lane otherwise es

/-- A HALTING lane whose link has nothing outstanding empties its queue and moves to HALTED (R46). -/
def State.emptyHalted (s : State) (lane : Lane) : State :=
  let t := s.tracker lane
  if t.state = .halting ∧ (s.link lane).outstanding = none then
    let s := s.endEntries lane .jammed t.queue
    (s.onTracker lane (fun t => { t with state := .halted })).touchLane lane
  else s

/-- What a halt makes of an entry (R45). -/
def TrackEntry.jam (e : TrackEntry) : TrackEntry :=
  match e.stage with
  | .held => e.divert .jammed
  | .queued => e.divert .jammed
  | .rating => e.divert .jammed
  | .waitRate => e.divert .jammed
  | _ => e

/-- The funds group is rewritten after a release (R117): a lane's holds released together. -/
def State.releaseLane (s : State) (lane : Lane) : State :=
  if s.holds.any (fun h => h.lane == lane) then
    { s with holds := s.holds.filter (fun h => h.lane != lane) }.touchFunds
  else s

/-- A RUNNING or DRAINING lane halts (R45), and empties its queue at once when its link has nothing outstanding (R46).
A lane in another state does not take a halt (R24). -/
def State.halt (s : State) (lane : Lane) (cause : HaltCause) : State :=
  let t := s.tracker lane
  if t.state.tracks then
    let s := s.setTracker lane { t with state := .halting, haltCause := some cause, queue := t.queue.map TrackEntry.jam }
    let s := { s with takeQueue := s.takeQueue.filter (fun q => q.lane != lane) }
    (((s.releaseLane lane).touchLane lane).raise (laneHaltCause lane)).emptyHalted lane
  else s

end Sys2Proof.Machine
end

