-- ==== Sys2Proof/Machine/Link.lean ====
section
/-! DEFINITION. The imprint links: frames, the judging of answers and the settling of an exchange (chapter 8). -/

namespace Sys2Proof.Machine

/-- The low 16 bits of a serial (R146). -/
def lowSerial (serial : Nat) : Half := BitVec.ofNat 16 serial

/-- Bytes 3 to 15 of an IMPRINT frame: meter id, serial, imprint day and postage (R147, R196). -/
def imprintCore (licence : Licence) (hold : Hold) (serial day : Nat) : List Byte :=
  highFirstBytes 4 licence.meterId ++ highFirstBytes 4 serial ++ highFirstBytes 2 day ++ highFirstBytes 3 hold.amount

/-- Bytes 0 to 21 of an IMPRINT frame, the imprint mark last (R148, R196). -/
def imprintBody (lane : Lane) (licence : Licence) (hold : Hold) (serial day : Nat) (e : TrackEntry) : List Byte :=
  let core := imprintCore licence hold serial day
  let cls := (e.input.map InputCopy.cls).getD 0
  let slogan := (e.input.map InputCopy.slogan).getD 255
  highFirstBytes 1 imprintLead ++ highFirstBytes 1 imprintKind ++ highFirstBytes 1 (laneCode lane) ++ core
    ++ highFirstBytes 1 cls ++ highFirstBytes 1 (e.format.getD 0) ++ highFirstBytes 1 slogan
    ++ highFirstBytes 1 (unsignedOf 8 (e.offset.getD 0))
    ++ highFirstBytes 2 (crc16 (BitVec.ofNat 16 licence.seed.toNat) core).toNat

/-- The 24 bytes of an IMPRINT frame (R147, R148, R196). -/
def imprintFrame (lane : Lane) (licence : Licence) (hold : Hold) (serial day : Nat) (e : TrackEntry) : List Byte :=
  let body := imprintBody lane licence hold serial day e
  body ++ highFirstBytes 2 (crc16 0xFFFF#16 body).toNat

/-- The imprint handed to the link: an IDLE link starts to send it, a link in a late read keeps it as the held dispatch
(R147). -/
def Link.dispatch (k : Link) (imprint : Imprint) : Link :=
  match k.state with
  | .reading => { k with outstanding := some imprint, heldDispatch := true }
  | _ => { k with outstanding := some imprint, state := .sending }

/-- A link READING a late answer: it has nothing outstanding but a held dispatch (8.1, R155). -/
def Link.lateRead (k : Link) : Bool := k.state == .reading && (k.outstanding.isNone || k.heldDispatch)

/-- How an ANSWER frame is judged (R151). -/
inductive Judgement where
  | settles (result : PrintResult)
  | late
  deriving DecidableEq, Repr

/-- The bytes of an ANSWER frame, first byte first (R196). -/
def answerBytes (frame : BitVec 48) : List Byte := highFirstBytes 6 frame.toNat

/-- An ANSWER frame judged against the outstanding serial and the late serial, in the order of the tests (R151). -/
def judgeAnswer (frame : BitVec 48) (serial : Nat) (late : Option Half) : Judgement :=
  let bytes := answerBytes frame
  if (crc16 0xFFFF#16 (bytes.take 4)).toNat ≠ ofHighFirst (bytes.drop 4) then .settles .badAnswer
  else if ofHighFirst (bytes.take 1) ≠ answerKind then .settles .badAnswer
  else
    let given := BitVec.ofNat 16 (ofHighFirst ((bytes.drop 1).take 2))
    if given ≠ lowSerial serial then (if late = some given then .late else .settles .badAnswer)
    else
      match answerResultOfCode (ofHighFirst ((bytes.drop 3).take 1)) with
      | some result => .settles result
      | none => .settles .badAnswer

/-- The consecutive fault count after a settling (R156). -/
def faultsAfter (faults : Nat) (result : PrintResult) : Nat := if result = .printed then 0 else min (faults + 1) 3

/-- The link after the settling of its exchange (R152, R153); an expiry leaves the late serial of the exchange (R154). -/
def Link.settle (k : Link) (imprint : Imprint) (result : PrintResult) (expired : Bool) : Link :=
  { k with
    state := .idle, outstanding := none, heldDispatch := false, timer := none, expiryHeld := false
    late := if expired then some (lowSerial imprint.serial) else k.late
    faults := faultsAfter k.faults result }

/-- The tracker's part of a settling: the entry's stage and print result; an entry past EXIT leaves the queue (R42). -/
def State.settleEntry (s : State) (lane : Lane) (seq : Nat) (result : PrintResult) : State :=
  match (s.tracker lane).find seq with
  | none => s
  | some e =>
    let stage := if result = .printed then Stage.printed else Stage.spoiled
    let s := s.onEntry lane seq (fun e => { e with stage := stage })
    let s := s.writeResults lane e (fun index => [slotField lane index 0x26 1 (printResultCode result)]) [printResultBit]
    if e.position = .exit then
      match (s.tracker lane).find seq with
      | some e => s.endEntry lane e (if result = .printed then .franked else .spoiled) none
      | none => s
    else s

/-- The rest of a settling once its whole update is made (R152, R153): the link, the entry, and then a halt at the third
consecutive fault (R42, R156), the emptying of a HALTING lane (R46) or the end of draining (R26). -/
def State.afterSettle (s : State) (lane : Lane) (result : PrintResult) (expired : Bool) : State :=
  match (s.link lane).outstanding with
  | none => s
  | some imprint =>
    let s := s.onLink lane (fun k => k.settle imprint result expired)
    let s := if result = .printed then s else s.touchSpoiled
    let s := s.settleEntry lane imprint.seq result
    let s := if result ≠ .printed ∧ (s.link lane).faults = 3 then s.halt lane .printerFault else s
    (s.emptyHalted lane).drainCheck lane

/-- An exchange to be settled: the whole update it asks for (R152 to R154). -/
def State.settlePlan (s : State) (lane : Lane) (result : PrintResult) (expired : Bool) : Plan :=
  match (s.link lane).outstanding with
  | none => .done s
  | some imprint => .update (.settle lane result expired) (s.items.settle lane imprint result) s

/-- An ANSWER frame's last bit arrives (R151, R155): a late read is discarded whatever it holds; a frame of the exchange
is judged, and one found late puts the link back to AWAITING, where a held expiry is then taken (R154). -/
def State.answerPlan (s : State) (lane : Lane) (frame : BitVec 48) : Plan :=
  let k := s.link lane
  match k.state with
  | .reading =>
    match k.outstanding with
    | none => .done (s.setLink lane { k with late := none, state := .idle })
    | some imprint =>
      if k.heldDispatch then .done (s.setLink lane { k with late := none, heldDispatch := false, state := .sending })
      else
        match judgeAnswer frame imprint.serial k.late with
        | .settles result => s.settlePlan lane result false
        | .late =>
          if k.expiryHeld then (s.setLink lane { k with late := none, state := .awaiting }).settlePlan lane .noAnswer true
          else .done (s.setLink lane { k with late := none, state := .awaiting })
  | _ => .done s

/-- The answer timer expires (R154): in AWAITING the exchange is settled NO_ANSWER; in READING the expiry is held; the
timer runs in no other state. -/
def State.expiryPlan (s : State) (lane : Lane) : Plan :=
  let k := s.link lane
  match k.timer with
  | none => .done s
  | some _ =>
    match k.state with
    | .awaiting => s.settlePlan lane .noAnswer true
    | .reading => .done (s.setLink lane { k with timer := none, expiryHeld := true })
    | _ => .done s

/-- The last bit of the IMPRINT frame is sent (R149). -/
def State.frameSent (s : State) (lane : Lane) : State :=
  let k := s.link lane
  match k.state with
  | .sending => s.setLink lane { k with state := .awaiting, timer := some (s.tracker lane).config.timer }
  | _ => s

/-- ANSWER_READY asserts (R150). -/
def State.answerReady (s : State) (lane : Lane) : State :=
  let k := s.link lane
  match k.state with
  | .awaiting => s.setLink lane { k with state := .reading }
  | .idle => if k.late.isSome then s.setLink lane { k with state := .reading } else s
  | _ => s

/-- The link after PARK (R157): the consecutive fault count does not change. -/
def Link.park (k : Link) : Link :=
  { k with state := .idle, outstanding := none, heldDispatch := false, timer := none, expiryHeld := false, late := none }

end Sys2Proof.Machine
end

