-- ==== Sys2Proof/Machine/Reset.lean ====
section
/-! DEFINITION. The reset event, one shared operation for the three kinds of reset (4.5, R21, R22, R49, R64, R130, R162,
R169, R175, R183, R184, R191), and the completion of a command (R181). -/

namespace Sys2Proof.Machine

/-- Every one of the 64 slot state bytes holds the FREE code (R21, R22). -/
def freeSlots (m : Memory) : Memory :=
  (List.range 64).foldl (fun m k => m.write (0x0800 + 64 * (k % 32) + 0x0800 * (k / 32)) (slotCode .free)) m

/-- A command still in progress at a line reset or RESTART has ABORTED written; RESTART itself is not one (R183, R184). -/
def State.abortCommand (s : State) : State :=
  match s.command with
  | none => s
  | some .restart => s
  | some _ => s.writeStatus .aborted

/-- The reset event: every unit takes its state after any reset, the retained store and the calendar go on, and the part
is in START. -/
def State.resetEvent (s : State) (cause : ResetCause) : State :=
  { s with
    warnAtReset := s.powerWarn
    part := .start
    resetCause := cause
    command := none
    heldReset := none
    mem := (freeSlots s.mem).writeFields s.order [⟨0x00, 2, 1⟩]
    generation := 1
    dirty := Groups.none
    notices := Notices.reset
    lanes := { a := Tracker.reset, b := Tracker.reset }
    links := { a := Link.reset, b := Link.reset }
    takeQueue := []
    rating := none
    useCounts := { one := 0, two := 0 }
    load := none
    requests := []
    holds := []
    notice := .none
    calendar := { s.calendar with postdate := 0 }
    inStore := none
    held := []
    unbegun := none }

/-- A power-on reset: the straps are latched, exchange memory holds undefined data, and a calendar whose battery was lost
starts from day 0, minute 0, second 0 (R21, R175, R184). -/
def State.powerOn (s : State) (lanes : LaneCount) (order : BusOrder) : State :=
  { s with
    supply := true, laneCount := lanes, order := order, powerOns := s.powerOns + 1, mem := []
    calendar := if s.calendar.running then s.calendar else Calendar.initial }.resetEvent .powerOn

/-- A line reset at the event at which it takes effect: the straps are latched anew (R184). -/
def State.lineResetNow (s : State) (lanes : LaneCount) (order : BusOrder) : State :=
  ({ s with laneCount := lanes, order := order }.abortCommand).resetEvent .line

/-- A RESTART at the event at which it takes effect: the latched straps are kept (R183). -/
def State.restartNow (s : State) : State := s.abortCommand.resetEvent .restart

/-- A line reset, held behind a whole update that is in its steps (R134); it displaces a held RESTART (R177). -/
def State.lineReset (s : State) (lanes : LaneCount) (order : BusOrder) : State :=
  if s.busy then { s with heldReset := some (.line lanes order) } else s.lineResetNow lanes order

/-- A RESTART, held behind a whole update that is in its steps (R134, R183). -/
def State.restart (s : State) : State :=
  if s.busy then
    { s with
      heldReset := some (s.heldReset.getD .restart)
      command := some (s.command.getD .restart) }
  else s.restartNow

/-- A completion, in the order of R181, any report being written before it: the status, the record empty, COMMAND_DONE. -/
def State.complete (s : State) (status : Status) : State :=
  { s.writeStatus status with command := none }.raise .commandDone

/-- The part state changed, with its group to be rewritten (R176). -/
def State.setPart (s : State) (part : PartState) : State := { s with part := part }.touchPart

end Sys2Proof.Machine
end

