-- ==== Sys2Proof/Machine/Start.lean ====
section
/-! DEFINITION. START's steps (R135 to R137, R108, R129, R7, R177) and the bank switch (R106, R107). -/

namespace Sys2Proof.Machine

/-- A switch is due: the calendar is valid, the other bank PENDING, and its instant at or before the calendar's day and
minute (R107). -/
def State.switchDue (s : State) : Bool :=
  let other := s.items.banks.get s.items.activeBank.other
  s.calendar.valid && decide (other.role = .pending) && s.calendar.reached other.effectiveDay other.effectiveMinute

/-- The rest of a switch once its update is made (R106). -/
def State.afterSwitch (s : State) : State := s.touchBanks.raise .rateSwitch

/-- The rate store's check for a due switch (R107). -/
def State.switchPlan (s : State) : Plan :=
  if s.switchDue then .update .bankSwitch s.items.switchBanks s else .done s

/-- What comes with the clearing of the store at a store fault (R136, R172, R175): the calendar is not valid, one stopped by a
lost battery starts again from day 0, and STORE_FAULT is raised. -/
def State.faultFound (s : State) : State :=
  let calendar := if s.calendar.running then s.calendar else { Calendar.initial with postdate := s.calendar.postdate }
  { s with calendar := { calendar with valid := false } }.raise .storeFault

/-- Step 1: the update record settled. A FILLING record is discarded, a READY one makes its update (R134). One that sets the
battery-good latch is the clearing of a store fault found before the supply was lost, and what comes with a clearing comes
with it here (R136, log entry 33). -/
def State.settleRecord (s : State) : State :=
  match s.store.record with
  | .empty => s
  | .inSteps .filling _ => { s with store := { s.store with record := .empty } }
  | .inSteps .ready values => if values.setsLatch then (s.place values).faultFound else s.place values

/-- Steps 2 and 3: a cleared latch or a check word that differs is a store fault (R135). -/
def State.storeFault (s : State) : Bool := !s.store.latch || s.store.check != s.items.checkWord

/-- The end of START: the first complete write of the status block, and then the part state moves on; a held PARK takes
the part to PARKED (R7, R135, R177). -/
def State.endStart (s : State) : State :=
  let s := s.writeWholeStatus
  match s.command with
  | some (.park _) => (s.complete .done).setPart .parked
  | _ => s.setPart (if s.items.licence.isSome then .setup else .locked)

/-- START goes on to its next steps, unless a RESTART or line reset is held behind the update just made: START then
begins again from its first step (R134, R177). -/
def State.goOn (s : State) (steps : State → State) : State := if s.heldReset.isSome then s else steps s

/-- POWER_WARN asserted at the reset event raises POWER_WARNING in START (R191). -/
def State.warnInStart (s : State) : State :=
  if s.warnAtReset then { s with warnAtReset := false }.raise .powerWarning else s

/-- The rest of step 4 once the store is cleared: no further step is made (R136). -/
def State.afterClear (s : State) : State := s.faultFound.goOn State.endStart

/-- Step 7, the evaluation of the inspection notice, and step 8 (R129, R135). -/
def State.startFrom7 (s : State) : State := s.inspect.endStart

/-- The rest of step 6 once its switch is made (R108). -/
def State.afterStartSwitch (s : State) : State := s.afterSwitch.goOn State.startFrom7

/-- Step 6, the switch at START, with its update made at once or in its steps (R108). -/
def State.startFrom6 (s : State) (stop : Option Phase) : State :=
  if s.switchDue then
    match stop with
    | none => (s.makeUpdate .startSwitch s.items.switchBanks).afterStartSwitch
    | some phase => s.beginUpdate .startSwitch s.items.switchBanks phase
  else s.startFrom7

/-- The phase in which an update of START stands, when the pace names that update. -/
def clearStop : StartPace → Option Phase
  | .atClear phase => some phase
  | _ => none

def conversionStop : StartPace → Option Phase
  | .atConversion phase => some phase
  | .atBoth phase _ => some phase
  | _ => none

def switchStop : StartPace → Option Phase
  | .atSwitch phase => some phase
  | .atBoth _ phase => some phase
  | _ => none

/-- Step 5, the conversion of the outstanding marks, which makes no update when both are clear (R137), and the steps
after it. -/
def State.startFrom5 (s : State) (pace : StartPace) : State :=
  if s.items.marksPresent = 0 then s.startFrom6 (switchStop pace)
  else
    match (conversionStop pace) with
    | none => (s.makeUpdate (.startConversion none) s.items.convertMarks).startFrom6 (switchStop pace)
    | some phase => s.beginUpdate (.startConversion (switchStop pace)) s.items.convertMarks phase

/-- START, from its first step (R135). It is made after a reset event, with no update of its own in its steps. -/
def State.startSteps (s : State) (pace : StartPace) : State :=
  if s.part = .start ∧ s.busy = false then
    let s := s.warnInStart.settleRecord
    if s.storeFault then
      match (clearStop pace) with
      | none => (s.makeUpdate .startClear Items.cleared).afterClear
      | some phase => s.beginUpdate .startClear Items.cleared phase
    else s.startFrom5 pace
  else s

end Sys2Proof.Machine
end

