-- ==== Sys2Proof/Machine/Calendar.lean ====
section
/-! DEFINITION. What follows a whole update when it is made (R133), how an event is taken, held or made in steps, and the
calendar's own events (chapter 9). -/

namespace Sys2Proof.Machine

/-- A dispatch once its debit is made: the hold is gone, the slot shows serial and imprint day, the entry is DISPATCHED
past PRINT and the link has the imprint (R41, R118, R147). -/
def State.afterDebit (s : State) (lane : Lane) (hold : Hold) (serial day : Nat) : State :=
  let s := { s with holds := withoutHold s.holds lane hold.seq }.touchFunds
  match (s.tracker lane).find hold.seq, s.items.licence with
  | some e, some licence =>
    let s := s.writeResults lane e
      (fun index => [slotField lane index 0x2C 4 serial, slotField lane index 0x30 2 day]) [serialBit, dayBit]
    let s := s.onEntry lane hold.seq (fun e => { e.pass .print with stage := .dispatched })
    s.onLink lane (fun k =>
      k.dispatch
        { seq := hold.seq, serial := serial, amount := hold.amount, account := hold.account, day := day
          frame := imprintFrame lane licence hold serial day e })
  | _, _ => s

/-- The rating unit's work abandoned by PARK (R61). -/
def State.abandonRating (s : State) : State :=
  let useCounts :=
    match s.rating with
    | some record => s.useCounts.set record.bank (s.useCounts.get record.bank - 1)
    | none => s.useCounts
  { s with takeQueue := [], rating := none, useCounts := useCounts }

/-- A lane ended by PARK once its imprint is recorded: UNCONFIRMED in the slot of the outstanding imprint, every entry
ended, the lane STOPPED, the link idle (R47, R157). -/
def State.parkLane (s : State) (lane : Lane) : State :=
  let s :=
    match (s.link lane).outstanding with
    | none => s
    | some imprint =>
      match (s.tracker lane).find imprint.seq with
      | none => s
      | some e =>
        s.writeResults lane e (fun index => [slotField lane index 0x26 1 (printResultCode .unconfirmed)]) [printResultBit]
  let s := s.endEntries lane .parked (s.tracker lane).queue
  let s := s.onTracker lane (fun t => { t with state := .stopped, haltCause := none })
  (s.onLink lane Link.park).touchLane lane

/-- PARK's steps once its whole update, if any, is made (R193). -/
def State.afterPark (s : State) : State :=
  let s := { s with holds := [] }
  let s := s.abandonRating
  let s := (s.parkLane .a).parkLane .b
  ((s.touchFunds.touchSpoiled).complete .done).setPart .parked

/-- The rest of SET FUNDS ALERT: FUNDS_LOW when the low condition begins (R127, R128). -/
def State.afterSetAlert (s : State) (before : Nat) : State :=
  let s := if s.low && !decide (s.available < before) then s.raise .fundsLow else s
  s.complete .done

/-- The rest of a commit: the banks group, RATE_SWITCH when the bank became ACTIVE, the load report and DONE (R103). -/
def State.afterCommit (s : State) (active : Bool) : State :=
  let s := { s with load := none }.touchBanks
  let s := if active then s.raise .rateSwitch else s
  (s.writeLoadReport (LoadReport.bare 0)).complete .done

/-- The calendar set to a time and valid (R173). -/
def Calendar.setTo (c : Calendar) (day minute second : Nat) : Calendar :=
  { c with day := day, minute := minute, second := second, cycles := 0, valid := true }

/-- What the completion of a SET DATE does at once: the calendar takes the time, its group is rewritten and the inspection notice
is evaluated (R173). -/
def State.setCalendar (s : State) (day minute second : Nat) : State :=
  { s with calendar := s.calendar.setTo day minute second }.touchCalendar.inspect

/-- The rest of an event once the whole update it asked for is made (R133). -/
def State.after (s : State) : Work → State
  | .debit lane hold serial day => s.afterDebit lane hold serial day
  | .settle lane result expired => s.afterSettle lane result expired
  | .park => s.afterPark
  | .claim removed => (if removed then s.touchSpoiled else s).complete .done
  | .credit => { s with notice := .none }.touchFunds.complete .done
  | .install => ({ s with notice := .none }.touchFunds.touchSpoiled.complete .done).setPart .setup
  | .setAccount => s.complete .done
  | .setAlert before => s.afterSetAlert before
  | .closePeriod => s.complete .done
  | .commit active => s.afterCommit active
  | .bankSwitch => s.afterSwitch
  | .setDate day minute second => ((s.setCalendar day minute second).afterSwitch).complete .done
  | .startClear => s.afterClear
  | .startConversion stop => s.goOn (fun s => s.startFrom6 stop)
  | .startSwitch => s.afterStartSwitch

/-- A plan carried out: its whole update made within the event, or left in its steps (R133). -/
def Plan.carryOut (plan : Plan) (pace : Pace) : State :=
  match plan with
  | .done s => s
  | .update work values s =>
    match pace with
    | .made => (s.makeUpdate work values).after work
    | .inSteps phase => s.beginUpdate work values phase

/-- An event taken, or held when it must wait for the store (R133). Whether it asks for an update is judged on the store as
it reads when the event comes: the model's choice (log entry 36). -/
def State.takeEvent (s : State) (e : HeldEvent) (pace : Pace) (plan : State → Plan) : State :=
  if s.mustWait e (plan s).asks then s.hold e else (plan s).carryOut pace

/-- The rate store's check for a due switch, as an event of the rate store (R107). -/
def State.checkSwitch (s : State) (pace : Pace) : State := s.takeEvent .switchCheck pace State.switchPlan

/-- The calendar's counts after a minute boundary (R170): on day 65,535 the day does not rise further. -/
def Calendar.nextMinute (c : Calendar) : Calendar :=
  if c.minute < 1439 then { c with minute := c.minute + 1, second := 0, cycles := 0 }
  else { c with day := min (c.day + 1) 65535, minute := 0, second := 0, cycles := 0 }

/-- A minute boundary (R171): the calendar advances; with the supply on and START behind it, the calendar group is
rewritten, the switch is checked and the inspection evaluated. A stopped calendar makes none (R175). -/
def State.minuteBoundary (s : State) (pace : Pace) : State :=
  if s.calendar.running then
    let s := { s with calendar := s.calendar.nextMinute }
    if s.supply ∧ s.part ≠ .start then (s.touchCalendar.inspect).checkSwitch pace else s
  else s

/-- The end of a second (R170): after second 59 the minute ends, which is a minute boundary. -/
def State.calendarSecond (s : State) (pace : Pace) : State :=
  if s.calendar.running then
    if s.calendar.second < 59 then
      { s with calendar := { s.calendar with second := s.calendar.second + 1, cycles := 0 } }
    else s.minuteBoundary pace
  else s

end Sys2Proof.Machine
end

