-- ==== Sys2Proof/Machine/Belt.lean ====
section
/-! DEFINITION. The photocells, the encoder and the RUN values of a lane (chapter 2). -/

namespace Sys2Proof.Machine

/-! ### Photocells -/

/-- The leading edge configured for a photocell (2.11). -/
def LaneConfig.edge (c : LaneConfig) : Position → Edge
  | .entry => c.entryEdge
  | .rate => c.rateEdge
  | .print => c.printEdge
  | .exit => c.exitEdge

/-- A transition of a photocell input: a trailing edge is no event, and an absent lane's photocells have no effect; a
leading edge is a stray unless the lane tracks its pieces (R24, R28). -/
def State.sensorPlan (s : State) (lane : Lane) (photocell : Position) (edge : Edge) (tracked : State → Plan) : Plan :=
  let t := s.tracker lane
  if s.present lane = false ∨ edge ≠ t.config.edge photocell then .done s
  else if t.state.tracks then tracked s
  else .done (s.stray lane)

/-- The most entries a track queue holds (R33). -/
def queueLimit : Nat := 12

/-- The first check of R34 that keeps a new entry without a slot. -/
def State.entryRefusal (s : State) (lane : Lane) : Option DivertCause :=
  let t := s.tracker lane
  if t.state = .draining then some .laneNotRunning
  else if t.batch.state ≠ .opened then some .noBatch
  else if s.slotIs lane (slotIndex t.nextSeq) .free then none
  else some .slotOverrun

/-- An entry tracked without a slot (R34). -/
def TrackEntry.slotless (seq : Nat) (cause : DivertCause) : TrackEntry :=
  { seq := seq, slot := none, batchId := none, position := .entry, distance := 0, stage := .notFranked,
    cause := some cause, input := none, held := none, offset := none, format := none, requested := false, presence := 0,
    flags := 0 }

/-- An entry whose slot is opened (R35). -/
def TrackEntry.opened (seq batchId : Nat) : TrackEntry :=
  { seq := seq, slot := some (slotIndex seq), batchId := some batchId, position := .entry, distance := 0,
    stage := .waitRate, cause := none, input := none, held := none, offset := none, format := none, requested := false,
    presence := 0, flags := 0 }

/-- How many sequence numbers there are (R8). -/
def sequenceCount : Nat := 16777216

/-- A new entry at the newest end, with the lane's next sequence number assigned to it (R8, R34). -/
def Tracker.enter (t : Tracker) (e : TrackEntry) : Tracker :=
  { t with queue := t.queue ++ [e], nextSeq := (t.nextSeq + 1) % sequenceCount, lastAssigned := some t.nextSeq }

/-- An ENTRY that opens a slot: the identity fields and the cleared result words first, then the state byte, SLOT_OPEN and
the batch (R13, R35, R166). -/
def State.openSlot (s : State) (lane : Lane) : State :=
  let t := s.tracker lane
  let seq := t.nextSeq
  let index := slotIndex seq
  let s := s.writeFields (identityFields lane index seq t.batch.id)
  let s := (s.setSlot lane index .opened).raise (slotOpenCause lane)
  let e := TrackEntry.opened seq t.batch.id
  (s.onTracker lane (fun t => ({ t.enter e with batch := t.batch.join seq } : Tracker))).touchLane lane

/-- An ENTRY tracked without a slot; a SLOT_OVERRUN is counted and raises LANE_IRREGULAR (R34). -/
def State.enterWithoutSlot (s : State) (lane : Lane) (cause : DivertCause) : State :=
  let s := (s.onTracker lane (fun t => t.enter (TrackEntry.slotless t.nextSeq cause))).touchLane lane
  if cause = .slotOverrun then
    (s.onTracker lane (fun t => { t with overruns := count16 t.overruns })).raise .laneIrregular
  else s

/-- An ENTRY event on a lane that tracks its pieces (R34, R35). -/
def State.enter (s : State) (lane : Lane) : State :=
  if queueLimit ≤ (s.tracker lane).queue.length then s.halt lane .overfill
  else
    match s.entryRefusal lane with
    | some cause => s.enterWithoutSlot lane cause
    | none => s.openSlot lane

/-- The most entries the take queue holds (R50). -/
def takeQueueLimit : Nat := 8

/-- A RATE event on an entry whose slot is FILLED: the copy, TAKEN, and the first of R36's conditions that holds. -/
def State.rateFilled (s : State) (lane : Lane) (e : TrackEntry) (index : Nat) : State :=
  let input := s.inputCopy lane index
  let s := s.setSlot lane index .taken
  let s := s.onEntry lane e.seq (fun e => { e.pass .rate with input := some input })
  if takeQueueLimit ≤ s.takeQueue.length then s.onEntry lane e.seq (fun e => e.divert .rateQueueFull)
  else if s.powerWarn then s.onEntry lane e.seq (fun e => e.divert .powerWarning)
  else
    let s := { s with takeQueue := s.takeQueue ++ [QueueEntry.mk lane e.seq] }
    s.onEntry lane e.seq (fun e => { e with stage := .queued })

/-- A RATE event on an entry whose slot is still OPEN (R18, R36). -/
def State.rateLateFill (s : State) (lane : Lane) (e : TrackEntry) (index : Nat) : State :=
  (s.setSlot lane index .taken).onEntry lane e.seq (fun e => (e.pass .rate).divert .lateFill)

/-- A RATE event on a lane that tracks its pieces (R36, R37). -/
def State.ratePhotocell (s : State) (lane : Lane) : State :=
  match (s.tracker lane).applies .rate with
  | none => s.stray lane
  | some e =>
    match e.stage, e.slot with
    | .waitRate, some index =>
      if s.slotIs lane index .filled then s.rateFilled lane e index else s.rateLateFill lane e index
    | _, _ => s.onEntry lane e.seq (fun e => e.pass .rate)

/-- The most spoiled entries and outstanding imprints there may be (R158). -/
def spoiledLimit : Nat := 64

/-- The first dispatch check that fails (R41). -/
def State.dispatchRefusal (s : State) (lane : Lane) : Option DivertCause :=
  if (s.tracker lane).config.link = false then some .linkOff
  else if (s.link lane).outstanding.isSome then some .linkBusy
  else if spoiledLimit ≤ s.items.spoiled.length + s.items.marksPresent then some .spoiledListFull
  else if s.calendar.valid = false then some .dateInvalid
  else none

/-- A PRINT event on a HELD entry: a release, or the debit whose update the dispatch follows (R41, R118, R119). -/
def State.dispatchPlan (s : State) (lane : Lane) (e : TrackEntry) : Plan :=
  match s.dispatchRefusal lane with
  | some cause => .done ((s.releaseHold lane e.seq).onEntry lane e.seq (fun e => (e.pass .print).divert cause))
  | none =>
    match s.holdOf lane e.seq with
    | none => .done (s.onEntry lane e.seq (fun e => e.pass .print))
    | some hold =>
      let serial := s.items.pieceCount + 1
      let day := s.calendar.imprintDay
      .update (.debit lane hold serial day) (s.items.debit lane hold serial day) s

/-- A piece removed from its place in the take queue (R51). -/
def State.leaveTakeQueue (s : State) (lane : Lane) (seq : Nat) : State :=
  { s with takeQueue := s.takeQueue.filter (fun q => !(q.lane == lane && q.seq == seq)) }

/-- A PRINT event on a lane that tracks its pieces (R40, R41). -/
def State.printPhotocell (s : State) (lane : Lane) : Plan :=
  match (s.tracker lane).applies .print with
  | none => .done (s.stray lane)
  | some e =>
    match e.stage with
    | .held => s.dispatchPlan lane e
    | .queued =>
      .done ((s.leaveTakeQueue lane e.seq).onEntry lane e.seq (fun e => (e.pass .print).divert .rateLate))
    | .rating => .done (s.onEntry lane e.seq (fun e => (e.pass .print).divert .rateLate))
    | _ => .done (s.onEntry lane e.seq (fun e => e.pass .print))

/-- The way the gate sends a piece at EXIT (R43). -/
def gateFor (stage : Stage) : Gate := if stage = .printed then .frankedOutput else .rejectTray

/-- The gate driven at EXIT: DIVERT pulsed for every stage but PRINTED, and the gate field written (R43). -/
def State.driveGate (s : State) (lane : Lane) (e : TrackEntry) : State :=
  let s := s.onTracker lane (fun t => { t with divert := decide (e.stage ≠ .printed) })
  let s := s.writeResults lane e (fun index => [slotField lane index 0x27 1 (gateCode (gateFor e.stage))]) [gateBit]
  s.onEntry lane e.seq (fun e => e.pass .exit)

/-- The entry ended at its EXIT unless it is DISPATCHED (R44). -/
def State.endAtExit (s : State) (lane : Lane) (e : TrackEntry) : State :=
  match e.stage with
  | .dispatched => s
  | .printed => s.endEntry lane e .franked none
  | .spoiled => s.endEntry lane e .spoiled none
  | _ => s.endEntry lane e .diverted e.cause

/-- An EXIT event on a lane that tracks its pieces (R43, R44, R26). -/
def State.exitPhotocell (s : State) (lane : Lane) : State :=
  match (s.tracker lane).applies .exit with
  | none => s.stray lane
  | some e =>
    let s := s.driveGate lane e
    match (s.tracker lane).find e.seq with
    | none => s
    | some e => (s.endAtExit lane e).drainCheck lane

def entryPlan (lane : Lane) (edge : Edge) (s : State) : Plan :=
  s.sensorPlan lane .entry edge (fun s => .done (s.enter lane))

def ratePlan (lane : Lane) (edge : Edge) (s : State) : Plan :=
  s.sensorPlan lane .rate edge (fun s => .done (s.ratePhotocell lane))

def printPlan (lane : Lane) (edge : Edge) (s : State) : Plan :=
  s.sensorPlan lane .print edge (fun s => s.printPhotocell lane)

def exitPlan (lane : Lane) (edge : Edge) (s : State) : Plan :=
  s.sensorPlan lane .exit edge (fun s => .done (s.exitPhotocell lane))

/-! ### The encoder -/

/-- The limit of the segment an entry is in, from its position (R30). -/
def LaneConfig.limit (c : LaneConfig) : Position → Nat
  | .entry => c.entryLimit
  | .rate => c.rateLimit
  | _ => c.printLimit

/-- One encoder count on an entry: an entry past EXIT is in no segment (R30). -/
def TrackEntry.count (e : TrackEntry) : TrackEntry :=
  if e.position = .exit then e else { e with distance := e.distance + 1 }

/-- An entry that a count has just carried past its segment limit (R31). -/
def TrackEntry.pastLimit (c : LaneConfig) (e : TrackEntry) : Bool :=
  decide (e.position ≠ .exit) && decide (e.distance = c.limit e.position + 1)

/-- An encoder count (R30, R31). -/
def State.encoderCount (s : State) (lane : Lane) : State :=
  let t := s.tracker lane
  if s.present lane && t.state.tracks then
    let queue := t.queue.map TrackEntry.count
    let s := s.setTracker lane { t with queue := queue }
    if queue.any (TrackEntry.pastLimit t.config) then s.halt lane .jam else s
  else s

/-! ### RUN -/

/-- The lane moved to another state, with no halt cause. -/
def State.moveLane (s : State) (lane : Lane) (state : LaneState) : State :=
  (s.onTracker lane (fun t => { t with state := state, haltCause := none })).touchLane lane

/-- A RUN value written for a lane (R25, R26, R27); one for an absent lane is ignored (R186). -/
def State.runWrite (s : State) (lane : Lane) (value : Bool) : State :=
  if s.present lane then
    match (s.tracker lane).state, value with
    | .stopped, true => if s.part = .operating then s.moveLane lane .running else s
    | .running, false => (s.moveLane lane .draining).drainCheck lane
    | .draining, true => s.moveLane lane .running
    | .halted, false => s.moveLane lane .stopped
    | _, _ => s
  else s

/-! ### Outputs -/

/-- The BELT_RUN output (R24). -/
def Tracker.beltRun (t : Tracker) : Bool := t.state.tracks

/-- The BELT_STOP output (R24). -/
def Tracker.beltStop (t : Tracker) : Bool := t.state == .halting || t.state == .halted

end Sys2Proof.Machine
end

