-- ==== Sys2Proof/Machine/RateImage.lean ====
section
/-! DEFINITION. The rate-table image and the six validation steps of a LOAD RATES (R92 to R103). -/

namespace Sys2Proof.Machine

/-- The length of the image header (11.6). -/
def headerLength : Nat := 24

/-- How a validation fails: its status and its load report (R102). -/
structure LoadFailure where
  status : Status
  report : LoadReport
  deriving DecidableEq, Repr

/-- A field of the header. -/
def headerField (order : BusOrder) (image : List Byte) (offset width : Nat) : Nat :=
  ofField order ((image.drop offset).take width)

/-- The first n bytes and the rest, when there are so many (R99). -/
def takeBytes (n : Nat) (xs : List Byte) : Option (List Byte × List Byte) :=
  if xs.length < n then none else some (xs.take n, xs.drop n)

/-- The numbers of n successive fields. -/
def fieldsOf (order : BusOrder) (width : Nat) : Nat → List Byte → List Nat
  | 0, _ => []
  | n + 1, xs => ofField order (xs.take width) :: fieldsOf order width n (xs.drop width)

/-- A step 3 failure where the walk meets the image length (R99). -/
def outOfBytes : LoadFailure := { status := .badArgument, report := LoadReport.bare 3 }

/-- The breaks of a format record: a bound of 2 bytes and a price of 4 each (11.6). -/
def breaksOf (order : BusOrder) : Nat → List Byte → List Break
  | 0, _ => []
  | n + 1, xs => { bound := ofField order (xs.take 2), price := ofField order ((xs.drop 2).take 4) } :: breaksOf order n (xs.drop 6)

/-- An optional part of a record: its bytes are there when the presence flag is set (R99). -/
def takeWhen (flag : Bool) (n : Nat) (xs : List Byte) : Option (Option (List Byte) × List Byte) :=
  if flag then
    match takeBytes n xs with
    | some (part, rest) => some (some part, rest)
    | none => none
  else some (none, xs)

/-- One format record walked (R95, R99): the record and the bytes after it. -/
def walkFormat (order : BusOrder) (cls number : Nat) (xs : List Byte) : Except LoadFailure (Format × List Byte) :=
  match takeBytes 9 xs with
  | none => .error outOfBytes
  | some (limits, xs) =>
    match takeWhen (limits[8]?.getD 0 != 0) 4 xs with
    | none => .error outOfBytes
    | some (divisor, xs) =>
      match takeBytes 1 xs with
      | none => .error outOfBytes
      | some (count, xs) =>
        let breaks := ofLowFirst count
        if breaks < 1 ∨ 16 < breaks then
          .error { status := .badArgument,
                   report := { LoadReport.bare 3 with cls := some cls, format := some number } }
        else
          match takeBytes (6 * breaks + 1) xs with
          | none => .error outOfBytes
          | some (list, xs) =>
            match takeWhen (list[6 * breaks]?.getD 0 != 0) 6 xs with
            | none => .error outOfBytes
            | some (extension, xs) =>
              match takeBytes 1 xs with
              | none => .error outOfBytes
              | some (mask, xs) =>
                .ok ({ maxLength := ofField order (limits.take 2)
                       maxWidth := ofField order ((limits.drop 2).take 2)
                       maxThickness := ofField order ((limits.drop 4).take 2)
                       maxWeight := ofField order ((limits.drop 6).take 2)
                       divisor := divisor.map (ofField order)
                       breaks := breaksOf order breaks list
                       extension := extension.map (fun e =>
                         { step := ofField order (e.take 2), price := ofField order (e.drop 2) })
                       services := mask[0]?.getD 0 }, xs)

/-- The format records of a class from a format number on (R99). -/
def walkFormats (order : BusOrder) (cls : Nat) : Nat → Nat → List Byte → Except LoadFailure (List Format × List Byte)
  | 0, _, xs => .ok ([], xs)
  | n + 1, number, xs =>
    match walkFormat order cls number xs with
    | .error failure => .error failure
    | .ok (f, xs) =>
      match walkFormats order cls n (number + 1) xs with
      | .error failure => .error failure
      | .ok (fs, xs) => .ok (f :: fs, xs)

/-- One class record walked (R94, R99). -/
def walkClass (order : BusOrder) (cls : Nat) (xs : List Byte) : Except LoadFailure (ClassRecord × List Byte) :=
  match takeBytes 48 xs with
  | none => .error outOfBytes
  | some (fixed, xs) =>
    let formats := (fixed[47]?.getD 0).toNat
    if formats < 1 ∨ 3 < formats then
      .error { status := .badArgument, report := { LoadReport.bare 3 with cls := some cls } }
    else
      match walkFormats order cls formats 1 xs with
      | .error failure => .error failure
      | .ok (fs, xs) =>
        .ok ({ defined := fixed[0]?.getD 0 != 0
               minimum := ofField order ((fixed.drop 1).take 4)
               defaultZone := (fixed[5]?.getD 0).toNat
               zoneFactors := fieldsOf order 2 16 (fixed.drop 6)
               tierFactors := fieldsOf order 2 4 (fixed.drop 38)
               tierMask := fixed[46]?.getD 0
               formats := fs }, xs)

/-- The class records from a class number on (R99). -/
def walkClasses (order : BusOrder) : Nat → Nat → List Byte → Except LoadFailure (List ClassRecord × List Byte)
  | 0, _, xs => .ok ([], xs)
  | n + 1, cls, xs =>
    match walkClass order cls xs with
    | .error failure => .error failure
    | .ok (c, xs) =>
      match walkClasses order n (cls + 1) xs with
      | .error failure => .error failure
      | .ok (cs, xs) => .ok (c :: cs, xs)

/-- The service records: a flag, a signed amount of 4 bytes and a mask each (R96, 11.6). -/
def servicesOf (order : BusOrder) : Nat → List Byte → List Service
  | 0, _ => []
  | n + 1, xs =>
    { defined := xs[0]?.getD 0 != 0, amount := signedOf 32 (ofField order ((xs.drop 1).take 4)),
      excludes := xs[5]?.getD 0 } :: servicesOf order n (xs.drop 6)

/-- The image as its fields hold it, before their ranges are checked. -/
structure RawImage where
  tableId : Nat
  day : Nat
  minute : Nat
  rounding : Nat
  cap : Nat
  chart : Option (List Nat)
  classes : List ClassRecord
  services : List Service
  deriving DecidableEq, Repr

/-- Step 3, structure: the walk of the image against its length (R99). -/
def walkImage (order : BusOrder) (image : List Byte) : Except LoadFailure RawImage :=
  let count := headerField order image 0x0E 1
  if count < 1 ∨ 16 < count then .error outOfBytes
  else
    match takeWhen (headerField order image 0x14 1 != 0) 1000 (image.drop headerLength) with
    | none => .error outOfBytes
    | some (chart, xs) =>
      match walkClasses order count 0 xs with
      | .error failure => .error failure
      | .ok (classes, xs) =>
        if xs.length = 48 then
          .ok { tableId := headerField order image 0x08 2
                day := headerField order image 0x0A 2
                minute := headerField order image 0x0C 2
                rounding := headerField order image 0x0F 1
                cap := headerField order image 0x10 4
                chart := chart.map (fun zones => zones.map BitVec.toNat)
                classes := classes
                services := servicesOf order 8 xs }
        else .error outOfBytes

/-- The number of the first break whose bound is not above the bound before it (R100). -/
def badBreak : List Break → Nat → Option Nat
  | x :: y :: rest, number => if y.bound ≤ x.bound then some (number + 1) else badBreak (y :: rest) (number + 1)
  | _, _ => none

/-- The first element for which a check fails, with its number from a first number on. -/
def firstBad {α β : Type} (check : α → Option β) : List α → Nat → Option (Nat × β)
  | [], _ => none
  | x :: xs, number =>
    match check x with
    | some failure => some (number, failure)
    | none => firstBad check xs (number + 1)

/-- Step 4, breaks: class, format and break of the first bound out of order (R100). -/
def breakFailure (raw : RawImage) : Option LoadReport :=
  match firstBad (fun c : ClassRecord => firstBad (fun f : Format => badBreak f.breaks 1) c.formats 1) raw.classes 0 with
  | some (cls, format, number) =>
    some { LoadReport.bare 4 with cls := some cls, format := some format, priceBreak := some number }
  | none => none

/-- A format record with a field out of range (R100). -/
def formatOutOfRange (f : Format) : Bool := f.divisor == some 0 || f.extension.any (fun x => x.step == 0)

/-- A class record's own fields out of range (R100). -/
def classOutOfRange (c : ClassRecord) : Bool :=
  decide (999999 < c.minimum) || decide (15 < c.defaultZone) || c.tierFactors.any (fun x => decide (4096 < x))

/-- The class record that fails its ranges, in image order, with the format where it is one (R100). -/
def classFailure (c : ClassRecord) : Option (Option Nat) :=
  if classOutOfRange c then some none
  else
    match firstBad (fun f => if formatOutOfRange f then some () else none) c.formats 1 with
    | some (format, _) => some (some format)
    | none => none

/-- Step 5, ranges, every field in image order (R100). -/
def rangeFailure (raw : RawImage) : Option LoadReport :=
  let report := LoadReport.bare 5
  if raw.tableId = 0 ∨ 1439 < raw.minute ∨ (roundingOfCode raw.rounding).isNone ∨ raw.cap = 0 ∨ 999999 < raw.cap then
    some report
  else
    match firstBad (fun zone => if 15 < zone ∧ zone ≠ 255 then some () else none) (raw.chart.getD []) 0 with
    | some (area, _) => some { report with area := some area }
    | none =>
      match firstBad classFailure raw.classes 0 with
      | some (cls, format) => some { report with cls := some cls, format := format }
      | none =>
        match firstBad (fun x : Service => if x.amount < -1000000 ∨ 99999999 < x.amount then some () else none)
            raw.services 0 with
        | some (service, _) => some { report with service := some service }
        | none => none

/-- Step 6, the cap against the minima of the defined classes (R101). -/
def capFailure (raw : RawImage) : Option LoadReport :=
  match firstBad (fun c : ClassRecord => if c.defined && decide (raw.cap < c.minimum) then some () else none)
      raw.classes 0 with
  | some (cls, _) => some { LoadReport.bare 6 with cls := some cls }
  | none => none

/-- The bank built from an image that passed: classes beyond the class count are not defined (R92). Its role is set at
the commit. -/
def RawImage.bank (raw : RawImage) : Bank :=
  { role := .spare, tableId := raw.tableId, effectiveDay := raw.day, effectiveMinute := raw.minute,
    rounding := (roundingOfCode raw.rounding).getD .up, cap := raw.cap, chart := raw.chart,
    classes := raw.classes ++ List.replicate (16 - raw.classes.length) ClassRecord.undefined, services := raw.services }

/-- A failed check of step 4, 5 or 6. -/
def failAt (report : LoadReport) : Except LoadFailure Bank := .error { status := .badArgument, report := report }

/-- Steps 3 to 6 on the bytes as read (R99 to R101). -/
def validateRecords (order : BusOrder) (image : List Byte) : Except LoadFailure Bank :=
  match walkImage order image with
  | .error failure => .error failure
  | .ok raw =>
    match breakFailure raw with
    | some report => failAt report
    | none =>
      match rangeFailure raw with
      | some report => failAt report
      | none =>
        match capFailure raw with
        | some report => failAt report
        | none => .ok raw.bank

/-- The image length as the header gives it, read before anything else (R98). -/
def State.imageLength (s : State) (copy : List Byte) : Nat :=
  ofField s.order [s.stagingByte copy 0, s.stagingByte copy 1, s.stagingByte copy 2, s.stagingByte copy 3]

/-- How many bytes of the staging area the validation reads: the image length first, and the whole image when the length is in
its range (R98). -/
def State.imageEnd (s : State) (copy : List Byte) : Nat :=
  let length := s.imageLength copy
  if length < headerLength ∨ largestImage < length then 4 else length

/-- At the end of a validation every byte it reads has been read (R98): what waits for the store after it works on the bytes as
they were read. -/
def State.readImage (s : State) : State :=
  match s.load with
  | none => s
  | some load =>
    let unread := s.readBytes (stagingAddress + load.copy.length) (s.imageEnd load.copy - load.copy.length)
    { s with load := some { copy := load.copy ++ unread } }

/-- The six validation steps on the staging area (R98 to R101): the built contents, or the first failure. -/
def State.validateImage (s : State) (copy : List Byte) : Except LoadFailure Bank :=
  let length := s.imageLength copy
  if length < headerLength ∨ largestImage < length then
    .error { status := .badArgument, report := LoadReport.bare 1 }
  else
    let image := (List.range length).map (s.stagingByte copy)
    if (crc32 (image.drop 8)).toNat = headerField s.order image 0x04 4 then validateRecords s.order image
    else .error { status := .checkFailed, report := LoadReport.bare 2 }

end Sys2Proof.Machine
end

