-- ==== Sys2Proof/Machine/Reports.lean ====
section
/-! DEFINITION. The three reports of the report area (R124, R126, R160, 11.8), with 0 in every byte of a record that
chapter 11 does not name (R195). -/

namespace Sys2Proof.Machine

def fundsReportAddress : Nat := 0x0300
def accountsReportAddress : Nat := 0x0380
def spoiledReportAddress : Nat := 0x04E0

/-- An outstanding mark of the funds report (11.8). -/
def markFields (base : Nat) : Option Mark → List Field
  | none => [⟨base, 1, 0⟩]
  | some mark =>
    [⟨base, 1, 1⟩, ⟨base + 1, 1, mark.account⟩, ⟨base + 2, 4, mark.serial⟩, ⟨base + 6, 4, mark.amount⟩,
      ⟨base + 10, 2, mark.day⟩]

/-- The licence fields of the funds report (R126). -/
def licenceFields (base : Nat) : Option Licence → List Field
  | none => [⟨base, 1, 0⟩]
  | some licence =>
    [⟨base, 1, 1⟩, ⟨base + 0x02, 4, licence.meterId⟩, ⟨base + 0x06, 6, licence.maximumFunds⟩,
      ⟨base + 0x0C, 4, licence.perPieceCap⟩, ⟨base + 0x10, 2, licence.interval⟩]

/-- The sum of the spoiled entries' amounts (R126). -/
def spoiledSum (list : List SpoiledEntry) : Nat := (list.map SpoiledEntry.amount).sum

/-- The serials left (R115). -/
def State.serialsLeft (s : State) : Nat := largestSerial - s.items.pieceCount - s.holds.length

/-- The funds report (R126, 11.8). -/
def fundsReport (s : State) : List Field :=
  let base := fundsReportAddress
  let x := s.items
  [⟨base + 0x6C, 20, 0⟩] ++ licenceFields base x.licence
    ++ [⟨base + 0x01, 1, flagCode s.daysSince.isSome⟩, ⟨base + 0x12, 6, x.descending⟩, ⟨base + 0x18, 6, x.ascending⟩,
      ⟨base + 0x1E, 6, x.credit⟩, ⟨base + 0x24, 4, x.pieceCount⟩, ⟨base + 0x28, 6, x.periodMark⟩,
      ⟨base + 0x2E, 6, s.available⟩, ⟨base + 0x34, 2, s.holds.length⟩, ⟨base + 0x36, 4, holdsSum s.holds⟩,
      ⟨base + 0x3A, 4, s.serialsLeft⟩, ⟨base + 0x3E, 4, x.voucherSerial⟩, ⟨base + 0x42, 2, x.voucherDay⟩]
    ++ optionField (base + 0x44) 2 s.daysSince
    ++ [⟨base + 0x46, 1, noticeCode s.notice⟩, ⟨base + 0x47, 1, flagCode s.low⟩, ⟨base + 0x48, 6, x.alert⟩]
    ++ markFields (base + 0x4E) x.marks.a ++ markFields (base + 0x5A) x.marks.b
    ++ [⟨base + 0x66, 2, x.spoiled.length⟩, ⟨base + 0x68, 4, spoiledSum x.spoiled⟩]

/-- The kind of an accounts report (R124, 11.8). -/
inductive ReportKind where
  | read
  | close
  deriving DecidableEq, Repr

def ReportKind.code : ReportKind → Nat
  | .read => 1
  | .close => 2

/-- The account states as bits: bit n is set for account n OPEN (11.8). -/
def openBits : List Account → Nat → Nat
  | [], _ => 0
  | x :: xs, n => flagBit x.isOpen n + openBits xs (n + 1)

/-- The entries of the accounts report from an account on: usage total 6 and piece count 4 (11.8). -/
def accountFields (base : Nat) : List Account → List Field
  | [] => []
  | x :: xs => ⟨base, 6, x.usage⟩ :: ⟨base + 6, 4, x.pieces⟩ :: accountFields (base + 10) xs

/-- The accounts report (R124, 11.8). -/
def accountsReport (s : State) (kind : ReportKind) : List Field :=
  let base := accountsReportAddress
  let x := s.items
  [⟨base, 1, kind.code⟩, ⟨base + 1, 1, flagCode s.calendar.valid⟩, ⟨base + 2, 2, s.calendar.day⟩,
    ⟨base + 4, 2, s.calendar.minute⟩, ⟨base + 6, 6, x.ascending⟩, ⟨base + 12, 6, x.periodMark⟩,
    ⟨base + 18, 4, x.pieceCount - (x.accounts.map Account.pieces).sum⟩, ⟨base + 22, 4, openBits x.accounts 0⟩,
    ⟨base + 26, 2, 0⟩] ++ accountFields (base + 28) x.accounts

/-- A spoiled entry of the spoiled report: at +11 the lane in bit 7 and the cause in bits 3 to 0 (11.8), bits 6 to 4 written
0: the chapter names no value for them, and 0 is the model's choice (log entry 34). -/
def spoiledEntryFields (base : Nat) : List SpoiledEntry → List Field
  | [] => []
  | x :: xs =>
    ⟨base, 4, x.serial⟩ :: ⟨base + 4, 4, x.amount⟩ :: ⟨base + 8, 2, x.day⟩ :: ⟨base + 10, 1, x.account⟩
      :: ⟨base + 11, 1, 128 * laneCode x.lane + printResultCode x.cause⟩ :: spoiledEntryFields (base + 12) xs

/-- The spoiled report: the claimed entries, then the kept ones, in serial order (R160, 11.8). -/
def spoiledReport (s : State) (limit : Nat) : List Field :=
  let base := spoiledReportAddress
  let claimed := s.items.spoiled.filter (fun entry => decide (entry.serial ≤ limit))
  let kept := s.items.spoiled.filter (fun entry => decide (limit < entry.serial))
  [⟨base, 4, limit⟩, ⟨base + 4, 2, s.calendar.day⟩, ⟨base + 6, 2, s.calendar.minute⟩,
    ⟨base + 8, 1, flagCode s.calendar.valid⟩, ⟨base + 9, 1, claimed.length⟩, ⟨base + 10, 1, kept.length⟩,
    ⟨base + 11, 1, 0⟩] ++ spoiledEntryFields (base + 12) (claimed ++ kept)

end Sys2Proof.Machine
end

