-- ==== Sys2Proof/Machine/Commands.lean ====
section
/-! DEFINITION. What each command of the command block comes to once it is taken (R181, R182), and the post (R179, R180). -/

namespace Sys2Proof.Machine

/-- A command that completes with a status and changes nothing else. -/
def State.answerWith (s : State) (status : Status) : Plan := .done (s.complete status)

/-- The part states in which a command is taken (R177, R182). An unknown code is refused before the part state is looked at,
and PARK checks POWER_WARN in its place. -/
def takenInPart : Instr → PartState → Bool
  | .setDate .., part => part == .setup
  | .configureLane _, part => part == .setup || part == .operating
  | .closeSetup, part => part == .setup
  | .installLicence .., part => part == .locked
  | .loadRates, part => part == .setup || part == .operating
  | .applyVoucher .., part => part == .setup || part == .operating
  | .setAccount .., part => part == .setup || part == .operating
  | .setFundsAlert .., part => part == .setup || part == .operating
  | .reportFunds, part => part == .setup || part == .operating || part == .locked
  | .readAccounts, part => part == .setup || part == .operating
  | .openBatch .., part => part == .operating
  | .closeBatch _, part => part == .operating
  | .resumeLane _, part => part == .operating
  | .setPostdate _, part => part == .operating
  | .closePeriod _, part => part == .operating
  | .claimSpoiled .., part => part == .operating
  | .restart, part => part != .parked
  | _, _ => true

/-- The lane a command names: none when the code names no lane (11.5) or names the absent lane B. -/
def State.namedLane (s : State) (code : Byte) : Option Lane :=
  match laneOfCode code.toNat with
  | some lane => if s.present lane then some lane else none
  | none => none

/-- SET DATE (R173). A switch that is due at the new time is a whole update of the command: it is made first, and the
calendar, the checks and the completion follow with it as one event (R107, R133, R181, log entry 11). -/
def setDatePlan (day minute second : Nat) (s : State) : Plan :=
  if 1439 < minute ∨ 59 < second ∨ day < s.items.lastImprintDay then s.answerWith .badArgument
  else if { s with calendar := s.calendar.setTo day minute second }.switchDue then
    .update (.setDate day minute second) s.items.switchBanks s
  else .done ((s.setCalendar day minute second).complete .done)

/-- The edge a bit of the edges argument selects (11.5). -/
def edgeOf (edges : Byte) (position : Nat) : Edge := if edges.getLsbD position then .falling else .rising

/-- Every item of a CONFIGURE LANE is in its range (2.11, 11.5). -/
def LaneArguments.inRange (x : LaneArguments) : Bool :=
  x.entryLimit != 0 && x.rateLimit != 0 && x.printLimit != 0 && decide (x.window.toNat ≤ 127) && x.timer != 0
    && decide (x.link.toNat ≤ 1)

/-- The configuration a CONFIGURE LANE gives (R48). -/
def configOf (x : LaneArguments) : LaneConfig :=
  { entryEdge := edgeOf x.edges 0, rateEdge := edgeOf x.edges 1, printEdge := edgeOf x.edges 2,
    exitEdge := edgeOf x.edges 3, entryLimit := x.entryLimit.toNat, rateLimit := x.rateLimit.toNat,
    printLimit := x.printLimit.toNat, window := x.window.toNat, timer := x.timer.toNat, link := x.link == 1 }

/-- CONFIGURE LANE (R48). -/
def configureLanePlan (x : LaneArguments) (s : State) : Plan :=
  match laneOfCode x.lane.toNat with
  | none => s.answerWith .badArgument
  | some lane =>
    if s.part = .operating ∧ (s.tracker lane).state ≠ .stopped then s.answerWith .refusedState
    else if s.present lane && LaneArguments.inRange x then
      .done ((s.onTracker lane (fun t => { t with config := configOf x })).complete .done)
    else s.answerWith .badArgument

/-- CLOSE SETUP (R178). -/
def closeSetupPlan (s : State) : Plan := .done ((s.complete .done).setPart .operating)

/-- The licence record of the arguments, when every field is in its range (R138, R139). -/
def licenceOf (x : LicenceArguments) : Option Licence :=
  if x.meterId = 0 ∨ x.maximumFunds = 0 ∨ largestMoney < x.maximumFunds.toNat ∨ x.perPieceCap = 0
      ∨ 999999 < x.perPieceCap.toNat ∨ x.interval = 0 ∨ 365 < x.interval.toNat ∨ x.firstSerial = 0 then none
  else
    some { meterId := x.meterId.toNat, maximumFunds := x.maximumFunds.toNat, perPieceCap := x.perPieceCap.toNat,
           interval := x.interval.toNat, seed := x.seed, firstSerial := x.firstSerial.toNat }

/-- INSTALL LICENCE (R139). -/
def installLicencePlan (x : LicenceArguments) (s : State) : Plan :=
  match licenceOf x with
  | none => s.answerWith .badArgument
  | some licence => .update .install (s.items.install licence (s.calendar.dayOr 0)) s

/-- The use count of the inactive bank (R97). -/
def State.inactiveUse (s : State) : Nat := s.useCounts.get s.items.activeBank.other

/-- LOAD RATES taken (R97): its validation begins, or it is refused at once. -/
def loadRatesPlan (s : State) : Plan :=
  if 0 < s.inactiveUse then .done ((s.writeLoadReport (LoadReport.bare 0)).complete .refusedBusy)
  else .done { s with load := some { copy := [] } }

/-- The end of a LOAD RATES validation: a failure, a refusal of the commit, or the commit (R102, R103). -/
def loadRatesCompletionPlan (s : State) : Plan :=
  match s.load with
  | none => .done s
  | some load =>
    match s.validateImage load.copy with
    | .error failure =>
      .done (({ s with load := none }.writeLoadReport failure.report).complete failure.status)
    | .ok bank =>
      if 0 < s.inactiveUse then
        .done (({ s with load := none }.writeLoadReport (LoadReport.bare 0)).complete .refusedBusy)
      else
        let active := s.calendar.valid && s.calendar.reached bank.effectiveDay bank.effectiveMinute
        .update (.commit active) (s.items.commitBank bank active) s

/-- The voucher message over which the check word is formed (R141). -/
def voucherMessage (x : VoucherArguments) (seed : Word) : List Byte :=
  highFirstBytes 4 x.meterId.toNat ++ highFirstBytes 4 x.serial.toNat ++ highFirstBytes 4 x.amount.toNat
    ++ highFirstBytes 2 x.issueDay.toNat ++ highFirstBytes 4 seed.toNat

/-- The status at the first check of a voucher that fails (R141). -/
def voucherRefusal (items : Items) (licence : Licence) (x : VoucherArguments) : Option Status :=
  if x.meterId.toNat ≠ licence.meterId then some .checkFailed
  else if x.check ≠ crc32 (voucherMessage x licence.seed) then some .checkFailed
  else if x.serial.toNat ≠ items.voucherSerial + 1 then some .serialOutOfOrder
  else if licence.maximumFunds < items.descending + x.amount.toNat ∨ largestMoney < items.credit + x.amount.toNat then
    some .limitExceeded
  else none

/-- APPLY VOUCHER (R141, R142). The part has a licence in every state that takes it. The funds that check 4 reads when the
voucher comes in the steps of a debit are the model's choice: `State.takeUp`, log entry 36. -/
def applyVoucherPlan (x : VoucherArguments) (s : State) : Plan :=
  if x.amount = 0 ∨ 99999999 < x.amount.toNat then s.answerWith .badArgument
  else
    match s.items.licence with
    | none => s.answerWith .checkFailed
    | some licence =>
      match voucherRefusal s.items licence x with
      | some status => s.answerWith status
      | none =>
        .update .credit (s.items.creditVoucher x.amount.toNat x.serial.toNat (s.calendar.dayOr x.issueDay.toNat)) s

/-- SET ACCOUNT (R122). -/
def setAccountPlan (account state : Byte) (s : State) : Plan :=
  if account.toNat < 32 ∧ state.toNat ≤ 1 then
    .update .setAccount (s.items.setAccount account.toNat (state == 1)) s
  else s.answerWith .badArgument

/-- SET FUNDS ALERT (R127). -/
def setFundsAlertPlan (threshold : Nat) (s : State) : Plan :=
  if threshold ≤ largestMoney then .update (.setAlert s.items.alert) { s.items with alert := threshold } s
  else s.answerWith .badArgument

/-- REPORT FUNDS (R126). -/
def reportFundsPlan (s : State) : Plan := .done ((s.writeFields (fundsReport s)).complete .done)

/-- READ ACCOUNTS (R123). -/
def readAccountsPlan (s : State) : Plan := .done ((s.writeFields (accountsReport s .read)).complete .done)

/-- The batch record OPEN BATCH makes (R164). -/
def Batch.begin (id : Nat) (stamp : Stamp) : Batch := { Batch.reset with state := .opened, id := id, opened := stamp }

/-- OPEN BATCH (R164). -/
def openBatchPlan (lane : Byte) (id : Nat) (s : State) : Plan :=
  match s.namedLane lane with
  | none => s.answerWith .badArgument
  | some lane =>
    if (s.tracker lane).batch.state = .none then
      .done ((s.onTracker lane (fun t => { t with batch := Batch.begin id s.calendar.stamp })).complete .done)
    else s.answerWith .refusedState

/-- CLOSE BATCH (R165). -/
def closeBatchPlan (lane : Byte) (s : State) : Plan :=
  match s.namedLane lane with
  | none => s.answerWith .badArgument
  | some lane =>
    if (s.tracker lane).batch.state = .opened then
      .done
        (((s.onTracker lane (fun t => { t with batch := { t.batch with state := .closing } })).endBatch lane).complete .done)
    else s.answerWith .refusedState

/-- RESUME LANE (R27). -/
def resumeLanePlan (lane : Byte) (s : State) : Plan :=
  match s.namedLane lane with
  | none => s.answerWith .badArgument
  | some lane =>
    if (s.tracker lane).state = .halted then
      let s := s.onTracker lane (fun t => { t with state := .running, haltCause := none })
      .done (((s.onLink lane (fun k => { k with faults := 0 })).touchLane lane).complete .done)
    else s.answerWith .refusedState

/-- SET POSTDATE (R174). -/
def setPostdatePlan (offset : Nat) (s : State) : Plan :=
  if 7 < offset then s.answerWith .badArgument
  else .done ({ s with calendar := { s.calendar with postdate := offset } }.complete .done)

/-- CLOSE PERIOD (R125): the report as the whole update finds the accounts, and the whole update. -/
def closePeriodPlan (s : State) : Plan :=
  .update .closePeriod s.items.closePeriod (s.writeFields (accountsReport s .close))

/-- The whole update of CLAIM SPOILED: what its report lists as claimed is removed (R159). -/
def claimPlan (claimed : List Nat) (s : State) : Plan := .update (.claim (!claimed.isEmpty)) (s.items.claim claimed) s

/-- CLAIM SPOILED (R159): the report first, then the whole update. -/
def claimSpoiledPlan (limit : Nat) (s : State) : Plan :=
  claimPlan (s.items.claimed limit) (s.writeFields (spoiledReport s limit))

/-- PARK taken (R193, R177): it is held in START, and changes nothing in PARKED. -/
def parkPlan (s : State) : Plan :=
  match s.part with
  | .start => .done s
  | .parked => s.answerWith .done
  | _ => if s.items.marksPresent = 0 then .done s.afterPark else .update .park s.items.convertMarks s

/-- The work of a command that its part state takes (R181). RESTART is taken by its own rule (R183), and a term that is no
command comes to nothing. -/
def commandWork : Instr → State → Plan
  | .unknownCommand _, s => s.answerWith .badArgument
  | .setDate day minute second _, s => setDatePlan day.toNat minute.toNat second.toNat s
  | .configureLane x, s => configureLanePlan x s
  | .closeSetup, s => closeSetupPlan s
  | .installLicence x _, s => installLicencePlan x s
  | .loadRates, s => loadRatesPlan s
  | .applyVoucher x _, s => applyVoucherPlan x s
  | .setAccount account state _, s => setAccountPlan account state s
  | .setFundsAlert threshold _, s => setFundsAlertPlan threshold.toNat s
  | .reportFunds, s => reportFundsPlan s
  | .readAccounts, s => readAccountsPlan s
  | .openBatch lane id, s => openBatchPlan lane id.toNat s
  | .closeBatch lane, s => closeBatchPlan lane s
  | .resumeLane lane, s => resumeLanePlan lane s
  | .setPostdate offset, s => setPostdatePlan offset.toNat s
  | .closePeriod _, s => closePeriodPlan s
  | .claimSpoiled limit _, s => claimSpoiledPlan limit.toNat s
  | .park _, s => parkPlan s
  | _, s => .done s

/-- What a command comes to, its part state first (R181, R182). -/
def commandPlan (i : Instr) (s : State) : Plan :=
  if takenInPart i s.part then commandWork i s else s.answerWith .refusedState

/-- How a command that is not taken at its post completes: an unknown code, the part state, and for PARK a deasserted
POWER_WARN (R181, R182, R192). What comes later does not change it. -/
def State.refusalAtPost (s : State) : Instr → Option Status
  | .unknownCommand _ => some .badArgument
  | .park _ => if s.powerWarn then none else some .notPowerWarning
  | i => if takenInPart i s.part then none else some .refusedState

/-- The pace of a command's update once it is asked for; one that was held for the store is made whole then. -/
def onceAsked : CommandPace → Pace
  | .atOnce pace => pace
  | .later => .made

/-- The pace an event carries for its whole update. -/
def paceOf : Instr → Pace
  | .print _ _ pace => pace
  | .setDate _ _ _ pace => pace
  | .installLicence _ pace => onceAsked pace
  | .loadRatesCompletion pace => pace
  | .applyVoucher _ pace => onceAsked pace
  | .setAccount _ _ pace => onceAsked pace
  | .setFundsAlert _ pace => onceAsked pace
  | .closePeriod pace => onceAsked pace
  | .claimSpoiled _ pace => onceAsked pace
  | .park pace => pace
  | .answer _ _ pace => pace
  | .answerTimerExpiry _ pace => pace
  | _ => .made

/-- The command's update is found before it is begun (R134, R182). -/
def beginsLater : Instr → Bool
  | .installLicence _ pace => pace == .later
  | .applyVoucher _ pace => pace == .later
  | .setAccount _ _ pace => pace == .later
  | .setFundsAlert _ pace => pace == .later
  | .closePeriod pace => pace == .later
  | .claimSpoiled _ pace => pace == .later
  | _ => false

/-- The events that ask for the whole update of a command (R133, R134). -/
def asksForACommand : Instr → Bool
  | .setDate .. => true
  | .installLicence .. => true
  | .applyVoucher .. => true
  | .setAccount .. => true
  | .setFundsAlert .. => true
  | .closePeriod _ => true
  | .claimSpoiled .. => true
  | .park _ => true
  | .loadRatesCompletion _ => true
  | _ => false

/-- A command comes too late to have its update made: a reset is held already, and the command would have to wait for the
store behind the update that holds it. It stays in progress, and the reset abandons it with ABORTED (R130, R134, R184). -/
def State.tooLate (s : State) (i : Instr) (asks : Bool) : Bool :=
  s.heldReset.isSome && asksForACommand i && s.mustWait (.event i) asks

/-- A command taken with its whole update not yet begun. CLAIM SPOILED has written its report (R159). -/
def State.takeWithoutUpdate (s : State) : Instr → State
  | .claimSpoiled limit _ =>
    { s.writeFields (spoiledReport s limit.toNat) with unbegun := some (s.items.claimed limit.toNat) }
  | _ => { s with unbegun := some [] }

/-- A command past its checks at the post: carried out, or held for the store, or left with its update not yet begun (R133,
R134, R182).

DESIGN CHOICE, unsafe (log entry 36): whether the command asks for an update is judged on the store as it reads at the post,
which within the steps of another update is the value before that update (R133). So an APPLY VOUCHER that comes in the steps
of a debit and fails check 4 on the descending register before the debit is refused LIMIT_EXCEEDED at once, though R143 has
check 4 made against what a debit taken first left. One that passes there waits, and all its checks are made again on the
store as the debit left it. -/
def State.takeUp (s : State) (i : Instr) : State :=
  let asks := (commandPlan i s).asks
  if s.tooLate i asks || (beginsLater i && asks && !s.mustWait (.event i) asks) then s.takeWithoutUpdate i
  else s.takeEvent (.event i) (paceOf i) (commandPlan i)

/-- A command taken: the record holds it, IN_PROGRESS is written, and it completes at once or is taken up (R179, R181). -/
def State.takeCommand (s : State) (i : Instr) : State :=
  let s := { s with command := some i }.writeStatus .inProgress
  match s.refusalAtPost i with
  | some status => s.complete status
  | none => s.takeUp i

/-- The update of a command that was taken before, begun and made: CLAIM SPOILED removes what its report listed, and any other
command computes its new values on the store as it stands now (R133, R159). -/
def State.beginUnbegun (s : State) : State :=
  match s.unbegun, s.command with
  | some claimed, some (.claimSpoiled ..) => (claimPlan claimed { s with unbegun := none }).carryOut .made
  | some _, some i => (commandPlan i { s with unbegun := none }).carryOut .made
  | _, _ => s

/-- A RESTART posted: taken in every state but PARKED, where it completes with REFUSED_STATE (R183). -/
def State.postRestart (s : State) : State :=
  if s.part = .parked then
    ({ s with command := some .restart }.writeStatus .inProgress).complete .refusedState
  else s.restart

/-- A post (R179, R180): with a command in progress every code but RESTART is ignored with COMMAND_OVERRUN. -/
def State.post (s : State) (i : Instr) : State :=
  match i with
  | .restart => s.postRestart
  | _ => if s.command.isSome then s.raise .commandOverrun else s.takeCommand i

/-- The line controller lays a command in the command block and posts it. -/
def State.issue (s : State) (i : Instr) : State := (s.layCommand i).post i

end Sys2Proof.Machine
end

