-- ==== Sys2Proof/Machine/Bus.lean ====
section
/-! DEFINITION. The line controller's bus: exchange memory with its managed bytes, and the register window (chapters 1, 10
and 11.2). -/

namespace Sys2Proof.Machine

/-! ### Slot state bytes -/

/-- A transition the line controller may ask for: OPEN to FILLED and DONE to FREE (R15). -/
def State.mayMove (s : State) (lane : Lane) (index : Nat) (code : Byte) : Bool :=
  (s.slotIs lane index .opened && code == slotCode .filled) || (s.slotIs lane index .done && code == slotCode .free)

/-- A refused slot write (R16); a count at its end stays there and rewrites nothing (R5, R6). -/
def State.refuseSlotWrite (s : State) (lane : Lane) : State :=
  (s.changeLane lane (fun t => { t with refusals := count16 t.refusals })).raise .laneIrregular

/-- A line controller write to a slot state byte (R14, R16); the bytes of an absent lane B are plain (R3). -/
def State.transitionRequest (s : State) (lane : Lane) (index : Nat) (code : Byte) : State :=
  if s.present lane = false ∨ s.mayMove lane index code then s.writeByte (slotAddress lane index) code
  else s.refuseSlotWrite lane

/-- A write to a slot's state byte, and to the byte beside it when both strobes are asserted (R2, R14). -/
def State.slotStateWrite (s : State) (lane : Lane) (index : Nat) (code : Byte) (other : Option Byte) : State :=
  let s := s.transitionRequest lane index code
  match other with
  | some value => s.writeByte (slotAddress lane index + 1) value
  | none => s

/-! ### Exchange memory -/

/-- The slot whose state byte lies at an address. -/
def managedSlot (a : Nat) : Option (Lane × Nat) :=
  if a % 64 ≠ 0 then none
  else if 0x0800 ≤ a ∧ a < 0x1000 then some (.a, (a - 0x0800) / 64)
  else if 0x1000 ≤ a ∧ a < 0x1800 then some (.b, (a - 0x1000) / 64)
  else none

/-- How far a LOAD RATES has read, in whole words (R2), when a write to the staging area meets it (R98): a free value,
never less than before, and never beyond the image. -/
def State.advanceLoad (s : State) : State :=
  match s.load with
  | none => s
  | some load =>
    let reached := max load.copy.length (min (2 * Config.loadReadPoint s.freeCount) (s.imageEnd load.copy))
    let more := s.readBytes (stagingAddress + load.copy.length) (reached - load.copy.length)
    { s with load := some { copy := load.copy ++ more }, freeCount := s.freeCount + 1 }

/-- One byte of exchange memory written by the line controller (R1). -/
def State.hostByte (s : State) (a : Nat) (value : Byte) : State :=
  match managedSlot a with
  | some (lane, index) => s.transitionRequest lane index value
  | none => s.writeByte a value

/-- The address of bits 7 to 0 of the word at an address, under the latched strap (R195). -/
def State.lowByteAddress (s : State) (a : Nat) : Nat :=
  match s.order with
  | .lowFirst => a
  | .highFirst => a + 1

/-- The address of bits 15 to 8. -/
def State.highByteAddress (s : State) (a : Nat) : Nat :=
  match s.order with
  | .lowFirst => a + 1
  | .highFirst => a

/-- A word of exchange memory written under its byte strobes (R2). -/
def State.hostWord (s : State) (a : Nat) (value : Half) (strobes : Strobes) : State :=
  let s := if stagingAddress ≤ a then s.advanceLoad else s
  let s := if strobes.low then s.hostByte (s.lowByteAddress a) (value.setWidth 8) else s
  if strobes.high then s.hostByte (s.highByteAddress a) ((value >>> 8).setWidth 8) else s

/-! ### The register window -/

/-- The bits a write under byte strobes reaches (R186, R195). -/
def strobeBits (strobes : Strobes) : Half :=
  (if strobes.low then 0x00FF#16 else 0#16) ||| (if strobes.high then 0xFF00#16 else 0#16)

/-- A register's value after a write under byte strobes (R189). -/
def strobed (old value : Half) (strobes : Strobes) : Half :=
  (old &&& ~~~(strobeBits strobes)) ||| (value &&& strobeBits strobes)

/-- A write to CAUSE clears the flags whose positions hold 1 (R188). -/
def State.causeWrite (s : State) (value : Half) (strobes : Strobes) : State :=
  { s with notices := { s.notices with cause := s.notices.cause &&& ~~~(value &&& strobeBits strobes) } }

/-- A write to MASK (R189). -/
def State.maskWrite (s : State) (value : Half) (strobes : Strobes) : State :=
  { s with notices := { s.notices with mask := strobed s.notices.mask value strobes } }

/-- A write to GROUP (R189). -/
def State.groupWrite (s : State) (value : Half) (strobes : Strobes) : State :=
  { s with notices := { s.notices with group := strobed s.notices.group value strobes } }

/-- A RUN value as an event of its lane's tracker, which may have to wait for the store (R133). -/
def State.runEvent (s : State) (lane : Lane) (value : Bool) : State :=
  s.takeEvent (.event (.run lane value)) .made (fun s => .done (s.runWrite lane value))

/-- A write to CONTROL: the RUN values first, then POST, each only when its byte is written (R186). -/
def State.controlWrite (s : State) (value : Half) (strobes : Strobes) : State :=
  let s := if strobes.high then (s.runEvent .a (value.getLsbD 8)).runEvent .b (value.getLsbD 9) else s
  if strobes.low && value.getLsbD 0 then s.post s.laidCommand else s

/-- A write to the register window; the read-only registers ignore it (R185). -/
def State.registerWrite (s : State) (a : Nat) (value : Half) (strobes : Strobes) : State :=
  match a with
  | 0xFFF4 => s.controlWrite value strobes
  | 0xFFF6 => s.causeWrite value strobes
  | 0xFFF8 => s.maskWrite value strobes
  | 0xFFFA => s.groupWrite value strobes
  | _ => s

/-- A bus write to the aligned word of an address (R1, R2). -/
def State.busWrite (s : State) (address value : Half) (strobes : Strobes) : State :=
  let a := address.toNat - address.toNat % 2
  if registerWindow ≤ a then s.registerWrite a value strobes else s.hostWord a value strobes

/-! ### What the registers show -/

/-- IDENT: the part code and a revision from 1, which the manual does not give (R185, 11.2). -/
def identRegister : Half := BitVec.ofNat 16 (256 * identPartCode + (1 + Config.revisionStep.val))

/-- STATE (R185, 11.2). -/
def State.stateRegister (s : State) : Half :=
  BitVec.ofNat 16
    (partCode s.part + flagBit s.command.isSome 3 + flagBit s.powerWarn 4 + flagBit (s.laneCount == .one) 5)

/-- CONTROL as read (R186, 11.2). -/
def State.controlRegister (s : State) : Half :=
  BitVec.ofNat 16
    (flagBit s.command.isSome 0 + flagBit ((s.tracker .a).state == .running) 8
      + flagBit (s.present .b && (s.tracker .b).state == .running) 9)

/-- The word a bus read gives at a register's address (R185, 11.2). -/
def State.readRegister (s : State) (a : Nat) : Half :=
  match a with
  | 0xFFF0 => identRegister
  | 0xFFF2 => s.stateRegister
  | 0xFFF4 => s.controlRegister
  | 0xFFF6 => s.notices.cause
  | 0xFFF8 => s.notices.mask
  | 0xFFFA => s.notices.group
  | 0xFFFC => BitVec.ofNat 16 s.notices.vector
  | _ => 0

/-- The word a bus read gives at an aligned address; a read changes nothing (R14, R185, R195). -/
def State.busRead (s : State) (address : Half) : Half :=
  let a := address.toNat - address.toNat % 2
  if registerWindow ≤ a then s.readRegister a
  else (s.readByte (s.highByteAddress a)).setWidth 16 <<< 8 ||| (s.readByte (s.lowByteAddress a)).setWidth 16

end Sys2Proof.Machine
end

