-- ==== Sys2Proof/Machine/Rating.lean ====
section
/-! DEFINITION. The postage computation, stage by stage (chapter 4): exact on whole numbers, a function of the input
copy, the bound bank, the lane's print offset window and the licence per-piece cap (R66). -/

namespace Sys2Proof.Machine

/-- The largest amount a stage can leave, in milli-units (R68). -/
def largestAmount : Nat := 4294967295

/-- An exact amount held in a stage's field: the amount it leaves, and whether it was saturated (R68). -/
def saturate (amount : Nat) : Nat × Bool := (min amount largestAmount, decide (largestAmount < amount))

/-- ⌈x ÷ d⌉ for d above 0. -/
def ceilDiv (x d : Nat) : Nat := (x + d - 1) / d

/-! ### Input (R70 to R78) -/

/-- The class record the piece names, when it is defined: a class outside 0 to 15, a class not defined and every class
of a bank without a table are undefined (R72). -/
def Bank.definedClass (bank : Bank) (cls : Nat) : Option ClassRecord :=
  if bank.tableId = 0 ∨ 16 ≤ cls then none
  else
    match bank.classes[cls]? with
    | some record => if record.defined then some record else none
    | none => none

/-- Length and width after the exchange of R71. -/
def InputCopy.sides (x : InputCopy) : Nat × Nat :=
  if x.length < x.width then (x.width, x.length) else (x.length, x.width)

/-- The zone and whether the class default was taken (R74). -/
def chooseZone (bank : Bank) (record : ClassRecord) (area : Nat) : Nat × Bool :=
  match bank.chart with
  | some zones =>
    if area < 1000 then
      match zones[area]? with
      | some zone => if zone = 255 then (record.defaultZone, true) else (zone, false)
      | none => (record.defaultZone, true)
    else (record.defaultZone, true)
  | none => (record.defaultZone, true)

/-- The service record at an index; an index without one is not defined. -/
def Bank.service (bank : Bank) (index : Nat) : Service := (bank.services[index]?).getD
  { defined := false, amount := 0, excludes := 0 }

/-- The services requested, in ascending index (R75). -/
def requestedServices (mask : Byte) : List Nat := (List.range 8).filter (fun k => mask.getLsbD k)

/-- The requested services the bank defines (R75). -/
def definedServices (bank : Bank) (mask : Byte) : List Nat :=
  (requestedServices mask).filter (fun k => (bank.service k).defined)

/-- Two services exclude each other when either's mask names the other (R76). -/
def exclude (bank : Bank) (j k : Nat) : Bool :=
  (bank.service j).excludes.getLsbD k || (bank.service k).excludes.getLsbD j

/-- The services kept: taken in ascending index, one that excludes none of those already kept is kept (R76). -/
def keepServices (bank : Bank) : List Nat → List Nat → List Nat
  | [], kept => kept
  | k :: ks, kept =>
    if kept.any (fun j => exclude bank j k) then keepServices bank ks kept else keepServices bank ks (kept ++ [k])

/-- The services that are kept of those requested (R75, R76). -/
def keptServices (bank : Bank) (mask : Byte) : List Nat := keepServices bank (definedServices bank mask) []

/-- The tier chosen and whether the requested one was ignored (R77). -/
def chooseTier (record : ClassRecord) (tier : Nat) : Nat × Bool :=
  if tier = 0 then (0, false) else if tier < 4 ∧ record.tierMask.getLsbD tier then (tier, false) else (0, true)

/-- The discount factor of a chosen tier: 0 for tier 0 (R85). -/
def tierFactor (record : ClassRecord) (tier : Nat) : Nat := if tier = 0 then 0 else (record.tierFactors[tier]?).getD 0

/-- The print offset clamped to the window, and whether it was clamped (R78). -/
def clampOffset (window : Nat) (offset : Int) : Int × Bool :=
  if (window : Int) < offset then (window, true)
  else if offset < -(window : Int) then (-(window : Int), true)
  else (offset, false)

/-! ### Format to service admission (R79 to R83) -/

/-- A piece fits a format: length and width after the exchange, thickness and actual weight as given (R71, R79). -/
def Format.fits (f : Format) (x : InputCopy) (w : Working) : Bool :=
  decide (w.length ≤ f.maxLength) && decide (w.width ≤ f.maxWidth) && decide (x.thickness ≤ f.maxThickness)
    && decide (x.weight ≤ f.maxWeight)

/-- The first format the piece fits, with its number (R79). -/
def chooseFormat (x : InputCopy) (w : Working) : List Format → Nat → Option (Nat × Format)
  | [], _ => none
  | f :: fs, number => if f.fits x w then some (number, f) else chooseFormat x w fs (number + 1)

/-- The volumetric weight under a divisor, clamped to the weight scale (R80). -/
def volumetricWeight (x : InputCopy) (w : Working) (divisor : Nat) : Nat :=
  min (ceilDiv (w.length * w.width * x.thickness) divisor) 65535

/-- The chargeable weight, and whether it is the volumetric weight (R80). -/
def chargeableWeight (f : Format) (x : InputCopy) (w : Working) : Nat × Bool :=
  match f.divisor with
  | none => (x.weight, false)
  | some divisor =>
    let volumetric := volumetricWeight x w divisor
    (max x.weight volumetric, decide (x.weight < volumetric))

/-- The last break of a format's list. -/
def Format.lastBreak (f : Format) : Break := (f.breaks.getLast?).getD { bound := 0, price := 0 }

/-- The exact base price, before saturation; none when the piece is over the last bound of a format without extension
(R81, R82). -/
def basePrice (f : Format) (weight : Nat) : Option Nat :=
  match f.breaks.find? (fun k => decide (weight ≤ k.bound)) with
  | some k => some k.price
  | none =>
    match f.extension with
    | none => none
    | some x => some (f.lastBreak.price + ceilDiv (weight - f.lastBreak.bound) x.step * x.price)

/-- Every kept service is allowed for the format (R83). -/
def admitted (f : Format) (kept : List Nat) : Bool := kept.all (fun k => f.services.getLsbD k)

/-! ### Zone to limits (R84 to R88) -/

/-- The exact zoned amount, before saturation (R84). -/
def zonedAmount (base factor : Nat) : Nat := (base * factor + 2048) / 4096

/-- The presort discount, rounded down (R85). -/
def discountAmount (zoned factor : Nat) : Nat := zoned * factor / 4096

/-- The sum of the kept services' signed amounts. -/
def serviceSum (bank : Bank) (kept : List Nat) : Int := (kept.map (fun k => (bank.service k).amount)).sum

/-- The exact total after services; a total below 0 is 0 (R86). -/
def serviceTotal (net : Nat) (sum : Int) : Nat := ((net : Int) + sum).toNat

/-- The postage in minor units (R87). -/
def roundPostage (mode : Rounding) (total : Nat) : Nat :=
  match mode with
  | .up => (total + 999) / 1000
  | .nearest => (total + 500) / 1000
  | .down => total / 1000

/-- The cap: the smaller of the bank cap and the licence per-piece cap (R88). -/
def postageCap (bank : Bank) (licenceCap : Option Nat) : Nat :=
  match licenceCap with
  | some cap => min bank.cap cap
  | none => bank.cap

/-! ### The whole computation (R67, R89) -/

/-- The result of a rating (R89). -/
inductive Rated where
  | priced (postage format zone weight : Nat)
  | refused (cause : DivertCause)
  deriving DecidableEq, Repr

/-- The result with the flags set in the rating and the clamped offset, when the rating reached it (R89). -/
structure RatingResult where
  rated : Rated
  flags : CondFlags
  offset : Option Int
  deriving DecidableEq, Repr

/-- The working values as the take creates them (R66). -/
def Working.created : Working :=
  { refusal := none, flags := CondFlags.clear, length := 0, width := 0, zone := 0, kept := [], tier := 0, factor := 0,
    offset := none, format := 0, weight := 0, base := 0, zoned := 0, discount := 0, net := 0, total := 0, postage := 0 }

/-- A refusal: it ends the computation, and the flags set up to it stay (R67). -/
def Working.refuse (w : Working) (cause : DivertCause) : Working := { w with refusal := some cause }

/-- Stages run in order, each on the values the stage before it left; the first refusal ends them (R67). -/
def Working.through (w : Working) : List (Working → Working) → Working
  | [] => w
  | stage :: stages => if w.refusal.isSome then w else Working.through (stage w) stages

/-- The weight's status (R70). -/
def statusStep (x : InputCopy) (w : Working) : Working := if x.status ≠ .stable then w.refuse .weightUnsettled else w

/-- The dimensions: none may be 0, and the larger of length and width is the length from here on (R71). -/
def sizeStep (x : InputCopy) (w : Working) : Working :=
  if x.length = 0 ∨ x.width = 0 ∨ x.thickness = 0 then w.refuse .dimensionsMissing
  else { w with length := x.sides.1, width := x.sides.2 }

/-- The class (R72). -/
def classStep (bank : Bank) (x : InputCopy) (w : Working) : Working :=
  if (bank.definedClass x.cls).isNone then w.refuse .classUndefined else w

/-- HAND_HOLD (R73). -/
def handHoldStep (x : InputCopy) (w : Working) : Working := if x.handHold then w.refuse .handHold else w

/-- The refusing steps of the input stage, in their order (R70 to R73). -/
def refusingSteps (bank : Bank) (x : InputCopy) : List (Working → Working) :=
  [statusStep x, sizeStep x, classStep bank x, handHoldStep x]

/-- The flags the repairing steps of the input stage set (R74 to R78). -/
def inputFlags (bank : Bank) (record : ClassRecord) (x : InputCopy) (window : Nat) : CondFlags :=
  { CondFlags.clear with
    zoneDefault := (chooseZone bank record x.area).2
    serviceDropped := decide ((keptServices bank x.services).length < (requestedServices x.services).length)
    tierIgnored := (chooseTier record x.tier).2
    offsetClamped := (clampOffset window x.offset).2 }

/-- The repairing steps of the input stage (R74 to R78). -/
def repairingSteps (bank : Bank) (record : ClassRecord) (x : InputCopy) (window : Nat) (w : Working) : Working :=
  { w with
    flags := inputFlags bank record x window
    zone := (chooseZone bank record x.area).1
    kept := keptServices bank x.services
    tier := (chooseTier record x.tier).1
    factor := tierFactor record (chooseTier record x.tier).1
    offset := some (clampOffset window x.offset).1 }

/-- Stage 3, the chargeable weight (R80). -/
def weightStage (f : Format) (x : InputCopy) (w : Working) : Working :=
  let weight := chargeableWeight f x w
  { w with weight := weight.1, flags := { w.flags with volumetric := weight.2 } }

/-- An amount left by a stage, saturated; a saturation sets OVERFLOW, which stays set (R68). -/
def Working.overflowed (w : Working) (amount : Nat) : CondFlags :=
  { w.flags with overflow := w.flags.overflow || (saturate amount).2 }

/-- Stage 4, the base price (R81, R82). -/
def baseStage (f : Format) (w : Working) : Working :=
  match basePrice f w.weight with
  | none => w.refuse .overWeight
  | some exact => { w with base := (saturate exact).1, flags := w.overflowed exact }

/-- Stage 5, service admission (R83). -/
def admissionStage (f : Format) (w : Working) : Working :=
  if admitted f w.kept then w else w.refuse .serviceNotAllowed

/-- Stage 6, the zone (R84). -/
def zoneStage (record : ClassRecord) (w : Working) : Working :=
  let exact := zonedAmount w.base ((record.zoneFactors[w.zone]?).getD 0)
  { w with zoned := (saturate exact).1, flags := w.overflowed exact }

/-- Stage 7, the discount (R85). -/
def discountStage (w : Working) : Working :=
  let discount := discountAmount w.zoned w.factor
  { w with discount := discount, net := w.zoned - discount }

/-- Stage 8, the services (R86). -/
def servicesStage (bank : Bank) (w : Working) : Working :=
  let exact := serviceTotal w.net (serviceSum bank w.kept)
  { w with total := (saturate exact).1, flags := w.overflowed exact }

/-- Stage 9, rounding (R87). -/
def roundingStage (bank : Bank) (w : Working) : Working := { w with postage := roundPostage bank.rounding w.total }

/-- Stages 3 to 9, each on the records of the chosen format (R79 to R87). -/
def pricingStages (bank : Bank) (record : ClassRecord) (f : Format) (x : InputCopy) : List (Working → Working) :=
  [weightStage f x, baseStage f, admissionStage f, zoneStage record, discountStage, servicesStage bank, roundingStage bank]

/-- Stages 2 to 9 on a piece that passed the input stage: the first format it fits, and the stages on it (R79). -/
def formatStages (bank : Bank) (record : ClassRecord) (x : InputCopy) (w : Working) : Working :=
  match chooseFormat x w record.formats 1 with
  | none => w.refuse .outOfFormat
  | some (number, f) => { w with format := number }.through (pricingStages bank record f x)

/-- What follows the refusing steps, on the class record they found (R72, R74 to R87). -/
def stagesOnClass (bank : Bank) (x : InputCopy) (window : Nat) : List (Working → Working) :=
  match bank.definedClass x.cls with
  | none => []
  | some record => [repairingSteps bank record x window, formatStages bank record x]

/-- The working values once stages 1 to 9 have run: all that a rating computes from what the take reads (R66, R67). -/
def worked (bank : Bank) (x : InputCopy) (window : Nat) : Working :=
  Working.created.through (refusingSteps bank x ++ stagesOnClass bank x window)

/-- The limit stage on a postage and the flags so far (R69, R88). -/
def limitStage (bank : Bank) (record : ClassRecord) (licenceCap : Option Nat) (postage : Nat) (flags : CondFlags) :
    Option Nat × CondFlags :=
  if flags.overflow then (none, { flags with aboveCap := true })
  else
    let raised := max postage record.minimum
    let flags := { flags with belowMin := decide (postage < record.minimum) }
    let cap := postageCap bank licenceCap
    if cap < raised then (none, { flags with aboveCap := true })
    else (some raised, { flags with atCap := decide (raised = cap) })

/-- The result with a refusal, its flags and the offset clamped before it (R89). -/
def Working.refused (w : Working) (cause : DivertCause) (flags : CondFlags) : RatingResult :=
  { rated := .refused cause, flags := flags, offset := w.offset }

/-- The end of the computation on the working values: the limit stage, with the licence per-piece cap as it stands, for a piece
that no stage before it refused, and the result (R53, R88, R89). -/
def Working.result (w : Working) (bank : Bank) (x : InputCopy) (licenceCap : Option Nat) : RatingResult :=
  match w.refusal, bank.definedClass x.cls with
  | some cause, _ => w.refused cause w.flags
  | none, none => w.refused .classUndefined w.flags
  | none, some record =>
    match limitStage bank record licenceCap w.postage w.flags with
    | (some postage, flags) =>
      { rated := .priced postage w.format w.zone w.weight, flags := flags, offset := w.offset }
    | (none, flags) => w.refused .overCap flags

/-- The whole computation of one rating (R67). -/
def rate (bank : Bank) (x : InputCopy) (window : Nat) (licenceCap : Option Nat) : RatingResult :=
  (worked bank x window).result bank x licenceCap

end Sys2Proof.Machine
end

