-- ==== Sys2Proof/Machine/RatingUnit.lean ====
section
/-! DEFINITION. The rating unit's take and completion, and the funds unit's taking of a hold request (chapters 3 and 6). -/

namespace Sys2Proof.Machine

/-- The rating unit takes the head of the take queue whenever it is IDLE and the queue is not empty (R52, R53, R54). The working
values are created, and every stage but the limit stage is worked on the bound bank (R66, log entry 32). -/
def State.take (s : State) : State :=
  match s.rating, s.takeQueue with
  | none, q :: rest =>
    let s := { s with takeQueue := rest }
    match ((s.tracker q.lane).find q.seq).bind TrackEntry.input with
    | none => s
    | some input =>
      let bank := s.items.activeBank
      { s.onEntry q.lane q.seq (fun e => { e with stage := .rating }) with
        useCounts := s.useCounts.set bank (s.useCounts.get bank + 1)
        rating := some
          { lane := q.lane, seq := q.seq, bank := bank, window := (s.tracker q.lane).config.window, input := input
            working := worked (s.items.banks.get bank) input (s.tracker q.lane).config.window } }
  | _, _ => s

/-- An entry that awaits the completion of its rating (R55). -/
def TrackEntry.inRating (e : TrackEntry) : Bool := e.stage == .rating && !e.requested

/-- An entry that awaits its hold (R39). -/
def TrackEntry.awaitsHold (e : TrackEntry) : Bool := e.stage == .rating && e.requested

/-- The bank table id a kept result writes; 0 is no table id (R56, R57). -/
def tableFields (lane : Lane) (tableId index : Nat) : List Field :=
  if tableId = 0 then [] else [slotField lane index 0x1E 2 tableId]

def tableBits (tableId : Nat) : List Nat := if tableId = 0 then [] else [tableIdBit]

/-- The fields of a priced piece (R56). -/
def pricedFields (lane : Lane) (postage format zone weight index : Nat) : List Field :=
  [slotField lane index 0x22 1 format, slotField lane index 0x23 1 zone, slotField lane index 0x24 2 weight,
    slotField lane index 0x28 4 postage]

/-- A kept OVERFLOW sets the sticky overflow of the lane's batch (R56, R57). -/
def Tracker.stickyOverflow (t : Tracker) (overflow : Bool) : Tracker :=
  { t with batch := { t.batch with overflow := t.batch.overflow || overflow } }

/-- A kept result that prices the piece (R56). -/
def State.keepPriced (s : State) (record : RatingRecord) (e : TrackEntry) (tableId postage format zone weight : Nat)
    (result : RatingResult) : State :=
  let lane := record.lane
  let s := s.writeResults lane e
    (fun index =>
      tableFields lane tableId index ++ pricedFields lane postage format zone weight index
        ++ [flagsField lane result.flags.word index])
    (tableBits tableId ++ [formatBit, zoneBit, weightBit, postageBit])
  let s := s.onEntry lane e.seq (fun e =>
    { e with offset := result.offset, format := some format, requested := true, flags := result.flags.word })
  let s := s.onTracker lane (fun t => t.stickyOverflow result.flags.overflow)
  { s with requests := s.requests ++ [Hold.mk lane e.seq record.input.account postage] }

/-- A kept result that refuses the piece (R57). -/
def State.keepRefused (s : State) (record : RatingRecord) (e : TrackEntry) (tableId : Nat) (cause : DivertCause)
    (result : RatingResult) : State :=
  let lane := record.lane
  let s := s.writeResults lane e
    (fun index => tableFields lane tableId index ++ [flagsField lane result.flags.word index]) (tableBits tableId)
  let s := s.onEntry lane e.seq (fun e => { e.divert cause with offset := result.offset, flags := result.flags.word })
  s.onTracker lane (fun t => t.stickyOverflow result.flags.overflow)

/-- The entry for which the rating's result is kept, decided at the completion (R55). -/
def State.keptEntry (s : State) (record : RatingRecord) : Option TrackEntry :=
  let t := s.tracker record.lane
  if t.state.tracks then (t.find record.seq).filter TrackEntry.inRating else none

/-- The completion of the rating in progress (R55 to R58): the limit stage on its working values, and their result kept or
discarded. -/
def State.ratingCompletion (s : State) : State :=
  match s.rating with
  | none => s
  | some record =>
    let s := { s with rating := none, useCounts := s.useCounts.set record.bank (s.useCounts.get record.bank - 1) }
    match s.keptEntry record with
    | none => s
    | some e =>
      let bank := s.items.banks.get record.bank
      let result := record.working.result bank record.input (s.items.licence.map Licence.perPieceCap)
      match result.rated with
      | .priced postage format zone weight => s.keepPriced record e bank.tableId postage format zone weight result
      | .refused cause => s.keepRefused record e bank.tableId cause result

/-- A hold placed, with the alert evaluated (R114, R128). -/
def State.placeHold (s : State) (request : Hold) : State :=
  let before := s.low
  let s := { s with holds := s.holds ++ [request] }.touchFunds
  let s := s.onEntry request.lane request.seq (fun e => { e with stage := .held, held := some request.amount })
  if s.low && !before then s.raise .fundsLow else s

/-- A hold request refused; NO_FUNDS raises FUNDS_OUT (R114, R128). -/
def State.refuseHold (s : State) (request : Hold) (cause : DivertCause) : State :=
  let s := s.onEntry request.lane request.seq (fun e => e.divert cause)
  if cause = .noFunds then s.raise .fundsOut else s

/-- The funds unit takes the oldest hold request (R39, R114): void unless its entry awaits the hold. -/
def State.takeRequest (s : State) : State :=
  match s.requests with
  | [] => s
  | request :: rest =>
    let s := { s with requests := rest }
    match ((s.tracker request.lane).find request.seq).filter TrackEntry.awaitsHold with
    | none => s
    | some _ =>
      match s.holdRefusal request with
      | some cause => s.refuseHold request cause
      | none => s.placeHold request

end Sys2Proof.Machine
end

