-- ==== Sys2Proof/Machine/Events.lean ====
section
/-! DEFINITION. The plans of all events the store can hold, the update record becoming EMPTY (R133, R134), and the
supply and its warning (R134, R175, R192). -/

namespace Sys2Proof.Machine

/-- An event of the lane's link; an absent link B has none (8.1). -/
def State.linkPlan (s : State) (lane : Lane) (plan : State → Plan) : Plan :=
  if s.present lane then plan s else .done s

def frameSentPlan (lane : Lane) (s : State) : Plan := s.linkPlan lane (fun s => .done (s.frameSent lane))

def answerReadyPlan (lane : Lane) (s : State) : Plan := s.linkPlan lane (fun s => .done (s.answerReady lane))

def answerFramePlan (lane : Lane) (frame : BitVec 48) (s : State) : Plan :=
  s.linkPlan lane (fun s => s.answerPlan lane frame)

def timerPlan (lane : Lane) (s : State) : Plan := s.linkPlan lane (fun s => s.expiryPlan lane)

/-- What an event that the store may hold comes to when it is taken. -/
def eventPlan : Instr → State → Plan
  | .entry lane edge, s => entryPlan lane edge s
  | .rate lane edge, s => ratePlan lane edge s
  | .print lane edge _, s => printPlan lane edge s
  | .exit lane edge, s => exitPlan lane edge s
  | .encoderCount lane, s => .done (s.encoderCount lane)
  | .run lane value, s => .done (s.runWrite lane value)
  | .loadRatesCompletion _, s => loadRatesCompletionPlan s
  | .take, s => .done s.take
  | .ratingCompletion, s => .done s.ratingCompletion
  | .holdRequest, s => .done s.takeRequest
  | .frameSent lane, s => frameSentPlan lane s
  | .answerReady lane, s => answerReadyPlan lane s
  | .answer lane frame _, s => answerFramePlan lane frame s
  | .answerTimerExpiry lane _, s => timerPlan lane s
  | i, s => commandPlan i s

/-- An event that comes, taken at once or held for the store (R133). -/
def State.occur (s : State) (i : Instr) : State := s.takeEvent (.event i) (paceOf i) (eventPlan i)

/-- A held event taken whole (R133). -/
def State.takeHeld (s : State) : HeldEvent → State
  | .event i => (eventPlan i s).carryOut .made
  | .switchCheck => s.switchPlan.carryOut .made

/-- The held events taken one at a time, in the order they asked (R133). -/
def State.takeAllHeld (s : State) : List HeldEvent → State
  | [] => s
  | e :: es => State.takeAllHeld (s.takeHeld e) es

/-- A reset held behind the update, once no held event waits (R134). A line reset latches the straps as its own event found them,
not as they stand now (R184), and the status rewrites that the update and the held events call for are not made before the reset:
START's whole write shows them (R5, R7). Both are the model's choices (log entry 35). -/
def State.takeHeldReset (s : State) : State :=
  match s.heldReset with
  | none => s
  | some (.line lanes order) => s.lineResetNow lanes order
  | some .restart => s.restartNow

/-- The update record becomes EMPTY: the update's values are in their places, the rest of its event follows, then the
events held for the store, and then a held reset (R133, R134). START's conversion may go on to a switch in its own steps. With
no update in its steps, it is the update of a command taken before that is begun and made. -/
def State.updateRecordEmpty (s : State) : State :=
  match s.inStore, s.store.record with
  | some work, .inSteps _ values =>
    let s := (s.place values).after work
    if s.busy then s else ({ s with held := [] }.takeAllHeld s.held).takeHeldReset
  | some _, .empty => s
  | none, _ => s.beginUnbegun

/-- The end of a validation: every byte of the image is read by now, and the load fails, or its commit asks for the store, which
it does too late once a reset is held (R98, R102, R103, R130). -/
def State.loadRatesCompletion (s : State) (pace : Pace) : State :=
  let s := s.readImage
  let i := Instr.loadRatesCompletion pace
  if s.tooLate i (loadRatesCompletionPlan s).asks then s else s.occur i

/-- Loss of the main supply: the store stands as its update record stands, and nothing that was under way goes on
(R134). -/
def State.supplyLoss (s : State) : State :=
  { s with supply := false, inStore := none, held := [], unbegun := none, heldReset := none }

/-- An update in its steps no longer sets the battery-good latch once the battery is lost. -/
def UpdateRecord.loseLatch : UpdateRecord → UpdateRecord
  | .empty => .empty
  | .inSteps phase values => .inSteps phase { values with setsLatch := false }

/-- The battery falls below its holding level: the calendar stops and the latch clears (R135, R175). -/
def State.batteryLoss (s : State) : State :=
  { s with
    store := { s.store with latch := false, record := s.store.record.loseLatch }
    calendar := { s.calendar with running := false } }

/-- POWER_WARN asserts: POWER_WARNING is raised at the change (R192). -/
def State.powerWarnAssert (s : State) : State :=
  if s.powerWarn then s
  else if s.supply then { s with powerWarn := true }.raise .powerWarning
  else { s with powerWarn := true }

/-- POWER_WARN deasserts (R192). -/
def State.powerWarnDeassert (s : State) : State := { s with powerWarn := false }

end Sys2Proof.Machine
end

