-- ==== Sys2Proof/Machine/CommandBlock.lean ====
section
/-! DEFINITION. The meanings of the commands of the command block: the line controller lays the code and the
arguments in the command block and writes 1 to POST. -/

namespace Sys2Proof.Machine

/-- UNKNOWN_COMMAND: a posted code that names no command (R181). -/
def execUnknownCommand (code : Half) (s : State) : Host.Outcome State Fault Refusal :=
  powered (fun s => s.issue (.unknownCommand code)) s

/-- SET_DATE (R173). -/
def execSetDate (day minute : Half) (second : Byte) (pace : Pace) (s : State) : Host.Outcome State Fault Refusal :=
  powered (fun s => s.issue (.setDate day minute second pace)) s

/-- CONFIGURE_LANE (R48). -/
def execConfigureLane (x : LaneArguments) (s : State) : Host.Outcome State Fault Refusal :=
  powered (fun s => s.issue (.configureLane x)) s

/-- CLOSE_SETUP (R178). -/
def execCloseSetup (s : State) : Host.Outcome State Fault Refusal := powered (fun s => s.issue .closeSetup) s

/-- INSTALL_LICENCE (R139). -/
def execInstallLicence (x : LicenceArguments) (pace : CommandPace) (s : State) : Host.Outcome State Fault Refusal :=
  powered (fun s => s.issue (.installLicence x pace)) s

/-- LOAD_RATES (R97). -/
def execLoadRates (s : State) : Host.Outcome State Fault Refusal := powered (fun s => s.issue .loadRates) s

/-- APPLY_VOUCHER (R141, R142). -/
def execApplyVoucher (x : VoucherArguments) (pace : CommandPace) (s : State) : Host.Outcome State Fault Refusal :=
  powered (fun s => s.issue (.applyVoucher x pace)) s

/-- SET_ACCOUNT (R122). -/
def execSetAccount (account state : Byte) (pace : CommandPace) (s : State) : Host.Outcome State Fault Refusal :=
  powered (fun s => s.issue (.setAccount account state pace)) s

/-- SET_FUNDS_ALERT (R127). -/
def execSetFundsAlert (threshold : BitVec 48) (pace : CommandPace) (s : State) : Host.Outcome State Fault Refusal :=
  powered (fun s => s.issue (.setFundsAlert threshold pace)) s

/-- REPORT_FUNDS (R126). -/
def execReportFunds (s : State) : Host.Outcome State Fault Refusal := powered (fun s => s.issue .reportFunds) s

/-- READ_ACCOUNTS (R123). -/
def execReadAccounts (s : State) : Host.Outcome State Fault Refusal := powered (fun s => s.issue .readAccounts) s

/-- OPEN_BATCH (R164). -/
def execOpenBatch (lane : Byte) (id : BitVec 32) (s : State) : Host.Outcome State Fault Refusal :=
  powered (fun s => s.issue (.openBatch lane id)) s

/-- CLOSE_BATCH (R165). -/
def execCloseBatch (lane : Byte) (s : State) : Host.Outcome State Fault Refusal :=
  powered (fun s => s.issue (.closeBatch lane)) s

/-- RESUME_LANE (R27). -/
def execResumeLane (lane : Byte) (s : State) : Host.Outcome State Fault Refusal :=
  powered (fun s => s.issue (.resumeLane lane)) s

/-- SET_POSTDATE (R174). -/
def execSetPostdate (offset : Byte) (s : State) : Host.Outcome State Fault Refusal :=
  powered (fun s => s.issue (.setPostdate offset)) s

/-- CLOSE_PERIOD (R125). -/
def execClosePeriod (pace : CommandPace) (s : State) : Host.Outcome State Fault Refusal :=
  powered (fun s => s.issue (.closePeriod pace)) s

/-- CLAIM_SPOILED (R159). -/
def execClaimSpoiled (limit : BitVec 32) (pace : CommandPace) (s : State) : Host.Outcome State Fault Refusal :=
  powered (fun s => s.issue (.claimSpoiled limit pace)) s

/-- RESTART (R183). -/
def execRestart (s : State) : Host.Outcome State Fault Refusal := powered (fun s => s.issue .restart) s

/-- PARK (R193). -/
def execPark (pace : Pace) (s : State) : Host.Outcome State Fault Refusal := powered (fun s => s.issue (.park pace)) s

end Sys2Proof.Machine
end

