-- ==== Sys2Proof/Machine/HostAccess.lean ====
section
/-! DEFINITION. The meanings of the line controller's writes. -/

namespace Sys2Proof.Machine

/-- SLOT_STATE_WRITE (R14, R15, R16). -/
def execSlotStateWrite (lane : Lane) (slot : BitVec 5) (code : Byte) (other : Option Byte) (s : State) :
    Host.Outcome State Fault Refusal :=
  powered (fun s => s.slotStateWrite lane slot.toNat code other) s

/-- EXCHANGE_MEMORY_WRITE (R1, R2). -/
def execExchangeMemoryWrite (address value : Half) (strobes : Strobes) (s : State) :
    Host.Outcome State Fault Refusal :=
  powered (fun s => s.busWrite address value strobes) s

/-- CAUSE_WRITE (R188). -/
def execCauseWrite (value : Half) (strobes : Strobes) (s : State) : Host.Outcome State Fault Refusal :=
  powered (fun s => s.causeWrite value strobes) s

/-- MASK_WRITE (R189). -/
def execMaskWrite (value : Half) (strobes : Strobes) (s : State) : Host.Outcome State Fault Refusal :=
  powered (fun s => s.maskWrite value strobes) s

/-- GROUP_WRITE (R189). -/
def execGroupWrite (value : Half) (strobes : Strobes) (s : State) : Host.Outcome State Fault Refusal :=
  powered (fun s => s.groupWrite value strobes) s

/-- REGISTER_WRITE_IGNORED: IDENT, STATE, VECTOR and the eighth word ignore writes (R185). -/
def execRegisterWriteIgnored (_register : ReadOnlyRegister) (_value : Half) (_strobes : Strobes) (s : State) :
    Host.Outcome State Fault Refusal :=
  powered (fun s => s) s

end Sys2Proof.Machine
end

