-- ==== Sys2Proof/Machine/Photocells.lean ====
section
/-! DEFINITION. The meanings of the belt's events and of a RUN value. -/

namespace Sys2Proof.Machine

/-- ENTRY: a transition of the ENTRY photocell (R28, R34, R35). -/
def execEntry (lane : Lane) (edge : Edge) (s : State) : Host.Outcome State Fault Refusal :=
  powered (fun s => s.occur (.entry lane edge)) s

/-- RATE: a transition of the RATE photocell (R28, R36, R37). -/
def execRate (lane : Lane) (edge : Edge) (s : State) : Host.Outcome State Fault Refusal :=
  powered (fun s => s.occur (.rate lane edge)) s

/-- PRINT: a transition of the PRINT photocell (R28, R40, R41). -/
def execPrint (lane : Lane) (edge : Edge) (pace : Pace) (s : State) : Host.Outcome State Fault Refusal :=
  powered (fun s => s.occur (.print lane edge pace)) s

/-- EXIT: a transition of the EXIT photocell (R28, R43, R44). -/
def execExit (lane : Lane) (edge : Edge) (s : State) : Host.Outcome State Fault Refusal :=
  powered (fun s => s.occur (.exit lane edge)) s

/-- ENCODER_COUNT (R30, R31). -/
def execEncoderCount (lane : Lane) (s : State) : Host.Outcome State Fault Refusal :=
  powered (fun s => s.occur (.encoderCount lane)) s

/-- RUN: a RUN value written for one lane (R25). -/
def execRun (lane : Lane) (value : Bool) (s : State) : Host.Outcome State Fault Refusal :=
  powered (fun s => s.runEvent lane value) s

end Sys2Proof.Machine
end

