-- ==== Sys2Proof/Machine/Supply.lean ====
section
/-! DEFINITION. The meanings of resets, START, the supply, the battery, the power warning, the calendar and
the update record. -/

namespace Sys2Proof.Machine

/-- POWER_ON_RESET: supply applied (R21, R184). -/
def execPowerOnReset (lanes : LaneCount) (order : BusOrder) (s : State) : Host.Outcome State Fault Refusal :=
  finish (s.powerOn lanes order)

/-- LINE_RESET asserted (R134, R184). -/
def execLineReset (lanes : LaneCount) (order : BusOrder) (s : State) : Host.Outcome State Fault Refusal :=
  powered (fun s => s.lineReset lanes order) s

/-- SUPPLY_LOSS: the main supply is lost (R134). -/
def execSupplyLoss (s : State) : Host.Outcome State Fault Refusal := finish s.supplyLoss

/-- BATTERY_LOSS: the battery falls below its holding level (R175). -/
def execBatteryLoss (s : State) : Host.Outcome State Fault Refusal := finish s.batteryLoss

/-- START, from its first step (R135). -/
def execStart (pace : StartPace) (s : State) : Host.Outcome State Fault Refusal :=
  powered (fun s => s.startSteps pace) s

/-- UPDATE_RECORD_EMPTY: a whole update completes (R133, R134). -/
def execUpdateRecordEmpty (s : State) : Host.Outcome State Fault Refusal := powered (fun s => s.updateRecordEmpty) s

/-- POWER_WARN_ASSERT (R192). -/
def execPowerWarnAssert (s : State) : Host.Outcome State Fault Refusal := finish s.powerWarnAssert

/-- POWER_WARN_DEASSERT (R192). -/
def execPowerWarnDeassert (s : State) : Host.Outcome State Fault Refusal := finish s.powerWarnDeassert

/-- CALENDAR_SECOND: 32,768 cycles end a second (R170). -/
def execCalendarSecond (pace : Pace) (s : State) : Host.Outcome State Fault Refusal := finish (s.calendarSecond pace)

/-- MINUTE_BOUNDARY (R171). -/
def execMinuteBoundary (pace : Pace) (s : State) : Host.Outcome State Fault Refusal := finish (s.minuteBoundary pace)

end Sys2Proof.Machine
end

