-- ==== Sys2Proof/Machine/Units.lean ====
section
/-! DEFINITION. The meanings of the events of the rating unit, the rate store, the funds unit and the links. -/

namespace Sys2Proof.Machine

/-- LOAD_RATES_COMPLETION: the end of a validation (R102, R103). -/
def execLoadRatesCompletion (pace : Pace) (s : State) : Host.Outcome State Fault Refusal :=
  powered (fun s => s.loadRatesCompletion pace) s

/-- TAKE (R52). -/
def execTake (s : State) : Host.Outcome State Fault Refusal := powered (fun s => s.occur .take) s

/-- RATING_COMPLETION (R55). -/
def execRatingCompletion (s : State) : Host.Outcome State Fault Refusal := powered (fun s => s.occur .ratingCompletion) s

/-- HOLD_REQUEST (R114). -/
def execHoldRequest (s : State) : Host.Outcome State Fault Refusal := powered (fun s => s.occur .holdRequest) s

/-- FRAME_SENT (R149). -/
def execFrameSent (lane : Lane) (s : State) : Host.Outcome State Fault Refusal :=
  powered (fun s => s.occur (.frameSent lane)) s

/-- ANSWER_READY asserts (R150). -/
def execAnswerReady (lane : Lane) (s : State) : Host.Outcome State Fault Refusal :=
  powered (fun s => s.occur (.answerReady lane)) s

/-- ANSWER: the last bit of an ANSWER frame arrives (R151). -/
def execAnswer (lane : Lane) (frame : BitVec 48) (pace : Pace) (s : State) : Host.Outcome State Fault Refusal :=
  powered (fun s => s.occur (.answer lane frame pace)) s

/-- ANSWER_TIMER_EXPIRY (R154). -/
def execAnswerTimerExpiry (lane : Lane) (pace : Pace) (s : State) : Host.Outcome State Fault Refusal :=
  powered (fun s => s.occur (.answerTimerExpiry lane pace)) s

end Sys2Proof.Machine
end

