-- ==== Sys2Proof/Machine/Dispatch.lean ====
section
/-! DEFINITION. Which meaning each command and event has. -/

namespace Sys2Proof.Machine

def exec (i : Instr) (s : State) : Host.Outcome State Fault Refusal :=
  match i with
  | .powerOnReset lanes order => Sys2Proof.Machine.execPowerOnReset lanes order s
  | .lineReset lanes order => Sys2Proof.Machine.execLineReset lanes order s
  | .supplyLoss => Sys2Proof.Machine.execSupplyLoss s
  | .batteryLoss => Sys2Proof.Machine.execBatteryLoss s
  | .start pace => Sys2Proof.Machine.execStart pace s
  | .entry lane edge => Sys2Proof.Machine.execEntry lane edge s
  | .rate lane edge => Sys2Proof.Machine.execRate lane edge s
  | .print lane edge pace => Sys2Proof.Machine.execPrint lane edge pace s
  | .exit lane edge => Sys2Proof.Machine.execExit lane edge s
  | .encoderCount lane => Sys2Proof.Machine.execEncoderCount lane s
  | .slotStateWrite lane slot code other => Sys2Proof.Machine.execSlotStateWrite lane slot code other s
  | .exchangeMemoryWrite address value strobes => Sys2Proof.Machine.execExchangeMemoryWrite address value strobes s
  | .run lane value => Sys2Proof.Machine.execRun lane value s
  | .causeWrite value strobes => Sys2Proof.Machine.execCauseWrite value strobes s
  | .maskWrite value strobes => Sys2Proof.Machine.execMaskWrite value strobes s
  | .groupWrite value strobes => Sys2Proof.Machine.execGroupWrite value strobes s
  | .registerWriteIgnored register value strobes => Sys2Proof.Machine.execRegisterWriteIgnored register value strobes s
  | .unknownCommand code => Sys2Proof.Machine.execUnknownCommand code s
  | .setDate day minute second pace => Sys2Proof.Machine.execSetDate day minute second pace s
  | .configureLane arguments => Sys2Proof.Machine.execConfigureLane arguments s
  | .closeSetup => Sys2Proof.Machine.execCloseSetup s
  | .installLicence arguments pace => Sys2Proof.Machine.execInstallLicence arguments pace s
  | .loadRates => Sys2Proof.Machine.execLoadRates s
  | .loadRatesCompletion pace => Sys2Proof.Machine.execLoadRatesCompletion pace s
  | .applyVoucher arguments pace => Sys2Proof.Machine.execApplyVoucher arguments pace s
  | .setAccount account state pace => Sys2Proof.Machine.execSetAccount account state pace s
  | .setFundsAlert threshold pace => Sys2Proof.Machine.execSetFundsAlert threshold pace s
  | .reportFunds => Sys2Proof.Machine.execReportFunds s
  | .readAccounts => Sys2Proof.Machine.execReadAccounts s
  | .openBatch lane batchId => Sys2Proof.Machine.execOpenBatch lane batchId s
  | .closeBatch lane => Sys2Proof.Machine.execCloseBatch lane s
  | .resumeLane lane => Sys2Proof.Machine.execResumeLane lane s
  | .setPostdate offset => Sys2Proof.Machine.execSetPostdate offset s
  | .closePeriod pace => Sys2Proof.Machine.execClosePeriod pace s
  | .claimSpoiled limit pace => Sys2Proof.Machine.execClaimSpoiled limit pace s
  | .restart => Sys2Proof.Machine.execRestart s
  | .park pace => Sys2Proof.Machine.execPark pace s
  | .take => Sys2Proof.Machine.execTake s
  | .ratingCompletion => Sys2Proof.Machine.execRatingCompletion s
  | .holdRequest => Sys2Proof.Machine.execHoldRequest s
  | .updateRecordEmpty => Sys2Proof.Machine.execUpdateRecordEmpty s
  | .frameSent lane => Sys2Proof.Machine.execFrameSent lane s
  | .answerReady lane => Sys2Proof.Machine.execAnswerReady lane s
  | .answer lane frame pace => Sys2Proof.Machine.execAnswer lane frame pace s
  | .answerTimerExpiry lane pace => Sys2Proof.Machine.execAnswerTimerExpiry lane pace s
  | .powerWarnAssert => Sys2Proof.Machine.execPowerWarnAssert s
  | .powerWarnDeassert => Sys2Proof.Machine.execPowerWarnDeassert s
  | .calendarSecond pace => Sys2Proof.Machine.execCalendarSecond pace s
  | .minuteBoundary pace => Sys2Proof.Machine.execMinuteBoundary pace s

end Sys2Proof.Machine
end

