-- ==== Sys2Proof/Safety.lean ====
section
/-! DEFINITION. The terms in which claims about the OF-220 are made: where memory stays, when the part is at rest between
events, and the laws of the manual that every step must keep. -/

namespace Sys2Proof.Machine

/-! ### Memory -/

/-- An address lies in a range, given by its first address and its length. -/
def Within (range : Nat × Nat) (a : Nat) : Prop := range.1 ≤ a ∧ a < range.1 + range.2

/-- Every byte outside the ranges reads in t as it reads in s. -/
def UnchangedOutside (ranges : List (Nat × Nat)) (s t : State) : Prop :=
  ∀ a, (∀ range ∈ ranges, ¬ Within range a) → t.readByte a = s.readByte a

/-- The status block (1.1). -/
def statusBlock : Nat × Nat := (0x0000, 0x0100)

/-- The code and status fields of the command block (11.5). -/
def codeAndStatus : Nat × Nat := (0x0100, 4)

/-- The first bytes of the argument area (11.5). -/
def argumentsOf (size : Nat) : Nat × Nat := (argumentAddress, size)

/-- The bytes of a load report (11.5). -/
def loadReportBytes : Nat × Nat := (loadReportAddress, 12)

/-- The base of a lane's group in the status block (11.4). -/
def laneGroup : Lane → Nat
  | .a => 0x30
  | .b => 0x42

/-! ### The part between events -/

/-- The supply is on, the retained store is in the steps of no update, and the status block shows every change. -/
def State.Ready (s : State) : Prop := s.supply = true ∧ s.inStore = none ∧ s.dirty = Groups.none

/-- Ready, with an empty command record: a command posted now is taken (R179). -/
def State.TakesCommands (s : State) : Prop := s.Ready ∧ s.command = none

/-- A leading edge of a photocell of a lane that tracks its pieces (R28). -/
def State.Senses (s : State) (lane : Lane) (photocell : Position) (edge : Edge) : Prop :=
  s.present lane = true ∧ edge = (s.tracker lane).config.edge photocell ∧ (s.tracker lane).state.tracks = true

/-- A command that completed in t (R181): its status is in the status field, the record is empty, COMMAND_DONE is set. -/
def State.Completed (t : State) (status : Status) : Prop :=
  t.readField statusAddress 2 = statusCode status ∧ t.command = none ∧ t.notices.flag .commandDone = true

/-- The part states in which a command of the command block is taken (R182); PARK checks POWER_WARN instead, and an
unknown code is refused before the part state is looked at (R181). -/
def takenIn (i : Instr) (part : PartState) : Bool :=
  match i with
  | .setDate .. => part == .setup
  | .configureLane _ => part == .setup || part == .operating
  | .closeSetup => part == .setup
  | .installLicence .. => part == .locked
  | .loadRates => part == .setup || part == .operating
  | .applyVoucher .. => part == .setup || part == .operating
  | .setAccount .. => part == .setup || part == .operating
  | .setFundsAlert .. => part == .setup || part == .operating
  | .reportFunds => part == .setup || part == .operating || part == .locked
  | .readAccounts => part == .setup || part == .operating
  | .openBatch .. => part == .operating
  | .closeBatch _ => part == .operating
  | .resumeLane _ => part == .operating
  | .setPostdate _ => part == .operating
  | .closePeriod _ => part == .operating
  | .claimSpoiled .. => part == .operating
  | .restart => part != .parked
  | _ => true

/-- A command or event whose whole update, if it asks for one, is made within its event. -/
def madeAtOnce : Instr → Instr
  | .print lane edge _ => .print lane edge .made
  | .answer lane frame _ => .answer lane frame .made
  | .answerTimerExpiry lane _ => .answerTimerExpiry lane .made
  | .setDate day minute second _ => .setDate day minute second .made
  | .installLicence x _ => .installLicence x (.atOnce .made)
  | .applyVoucher x _ => .applyVoucher x (.atOnce .made)
  | .setAccount account state _ => .setAccount account state (.atOnce .made)
  | .setFundsAlert threshold _ => .setFundsAlert threshold (.atOnce .made)
  | .closePeriod _ => .closePeriod (.atOnce .made)
  | .claimSpoiled limit _ => .claimSpoiled limit (.atOnce .made)
  | .park _ => .park .made
  | i => i

/-- The events that the store may hold and that no post brings: those of the belt, the rating unit, the funds unit and the
links (R133). -/
def needsNoPost : Instr → Bool
  | .entry .. => true
  | .rate .. => true
  | .print .. => true
  | .exit .. => true
  | .encoderCount _ => true
  | .run .. => true
  | .take => true
  | .ratingCompletion => true
  | .holdRequest => true
  | .frameSent _ => true
  | .answerReady _ => true
  | .answer .. => true
  | .answerTimerExpiry .. => true
  | _ => false

/-- Events taken whole, one after the other, each on the state that the one before it left, come to t. -/
def State.TakesInOrder (s t : State) : List Instr → Prop
  | [] => t = s
  | i :: rest => ∃ u, exec (madeAtOnce i) s = .next u ∧ State.TakesInOrder u t rest

/-- The lane state a RUN value moves a present lane to, when it moves it (R25, R26, R27). -/
def runMoves (state : LaneState) (value : Bool) (part : PartState) (emptyQueue : Bool) : Option LaneState :=
  match state, value with
  | .stopped, true => if part = .operating then some .running else none
  | .running, false => some (if emptyQueue then .stopped else .draining)
  | .draining, true => some .running
  | .halted, false => some .stopped
  | _, _ => none

/-- The 64 slot state bytes (1.5). -/
def slotStateBytes : List (Nat × Nat) :=
  (List.range 32).flatMap (fun k => [(slotAddress .a k, 1), (slotAddress .b k, 1)])

/-- What every reset leaves of the units (R49, R64, R130, R162, R169, R175, R191), of the slots (R21, R22) and of the
generation word (R4); the retained store is kept. -/
def State.AfterReset (s t : State) (cause : ResetCause) : Prop :=
  t.part = .start ∧ t.resetCause = cause ∧ t.command = none ∧ t.notices = Notices.reset
    ∧ t.lanes = { a := Tracker.reset, b := Tracker.reset } ∧ t.links = { a := Link.reset, b := Link.reset }
    ∧ t.takeQueue = [] ∧ t.rating = none ∧ t.useCounts = { one := 0, two := 0 } ∧ t.load = none ∧ t.requests = []
    ∧ t.holds = [] ∧ t.notice = .none ∧ t.store = s.store ∧ (∀ lane index, index < 32 → t.slotIs lane index .free = true) ∧ t.readField 0x00 2 = 1

/-! ### Shapes of an effect -/

/-- The inspection notice evaluated (R129) on a calendar, a last voucher day and a licence: how the notice of s moves, and
when INSPECTION_DUE is raised. -/
def State.NoticeEvaluated (s t : State) (c : Calendar) (voucherDay : Nat) (licence : Option Licence) : Prop :=
  let days := c.day - voucherDay
  let flag := s.notices.flag .inspectionDue
  (c.valid = false ∨ licence = none → t.notice = s.notice ∧ t.notices.flag .inspectionDue = flag)
    ∧ (c.valid = true → ∀ x, licence = some x →
        (x.interval ≤ days → t.notice = .due ∧ t.notices.flag .inspectionDue = (flag || decide (s.notice ≠ .due)))
          ∧ (days < x.interval → 7 < x.interval → x.interval ≤ days + 7 →
              t.notice = .warned ∧ t.notices.flag .inspectionDue = (flag || decide (s.notice = .none)))
          ∧ (days < x.interval → x.interval ≤ 7 ∨ days + 7 < x.interval →
              t.notice = .none ∧ t.notices.flag .inspectionDue = flag))

/-- A batch after one of its pieces with a slot went DONE, its record still as it stood (R167). -/
def Batch.after (b : Batch) (outcome : PieceOutcome) (amount : Nat) : Batch :=
  { b with
    inFlight := b.inFlight - 1
    postage := if outcome = .diverted then b.postage else b.postage + amount
    franked := if outcome = .franked then min (b.franked + 1) 4294967295 else b.franked
    spoiled := if outcome = .spoiled then min (b.spoiled + 1) 4294967295 else b.spoiled
    jammed := if outcome = .jammedAfterDebit then min (b.jammed + 1) 4294967295 else b.jammed
    diverted := if outcome = .diverted then min (b.diverted + 1) 4294967295 else b.diverted }

/-- The batch summary of a lane shows a batch that closed at a stamp (R168, 11.7). -/
def State.ShowsSummary (t : State) (lane : Lane) (b : Batch) (closed : Stamp) : Prop :=
  let at_ := summaryAddress lane
  t.readField at_ 1 = laneCode lane ∧ t.readField (at_ + 0x01) 1 = (if b.first.isSome then 1 else 0)
    ∧ t.readField (at_ + 0x02) 1 = (if b.opened.valid then 1 else 0)
    ∧ t.readField (at_ + 0x03) 1 = (if closed.valid then 1 else 0) ∧ t.readField (at_ + 0x04) 4 = b.id % 256 ^ 4
    ∧ t.readField (at_ + 0x08) 2 = b.opened.day % 256 ^ 2 ∧ t.readField (at_ + 0x0A) 2 = b.opened.minute % 256 ^ 2
    ∧ t.readField (at_ + 0x0C) 2 = closed.day % 256 ^ 2 ∧ t.readField (at_ + 0x0E) 2 = closed.minute % 256 ^ 2
    ∧ t.readField (at_ + 0x10) 4 = b.entered % 256 ^ 4 ∧ t.readField (at_ + 0x14) 4 = b.franked % 256 ^ 4
    ∧ t.readField (at_ + 0x18) 4 = b.diverted % 256 ^ 4 ∧ t.readField (at_ + 0x1C) 4 = b.spoiled % 256 ^ 4
    ∧ t.readField (at_ + 0x20) 4 = b.jammed % 256 ^ 4 ∧ t.readField (at_ + 0x24) 6 = b.postage % 256 ^ 6
    ∧ t.readField (at_ + 0x2A) 1 = (if b.overflow then 1 else 0)
    ∧ (∀ seq, b.first = some seq → t.readField (at_ + 0x2C) 4 = seq % 256 ^ 4)
    ∧ (∀ seq, b.last = some seq → t.readField (at_ + 0x30) 4 = seq % 256 ^ 4)

/-- The address of the byte of a slot's condition flags word that holds bit 9, BATCH_OVERFLOW (11.3). -/
def State.overflowByteAddress (s : State) (lane : Lane) (index : Nat) : Nat :=
  match s.order with
  | .lowFirst => slotAddress lane index + 0x21
  | .highFirst => slotAddress lane index + 0x20

/-- An entry with a slot ends (R13, R17, R44, R167, R168): its slot is DONE and shows the outcome, the divert cause where there
is one and BATCH_OVERFLOW; it has left the queue and is counted in its batch, and the last piece of a CLOSING batch ends the
batch with its summary. `divert` is the DIVERT output after it. -/
def State.EndsEntry (s t : State) (lane : Lane) (e : TrackEntry) (index : Nat) (outcome : PieceOutcome)
    (cause : Option DivertCause) (divert : Bool) : Prop :=
  let r := s.tracker lane
  let at_ := slotAddress lane index
  let b := r.batch.after outcome (e.held.getD 0)
  let rest := r.queue.filter (fun x => x.seq != e.seq)
  let ends := r.batch.state = .closing ∧ b.inFlight = 0
  let last := s.overflowByteAddress lane index
  t.slotIs lane index .done = true ∧ t.readField (at_ + 0x32) 1 = outcomeCode outcome
    ∧ (∀ x, cause = some x → t.readField (at_ + 0x33) 1 = divertCode x)
    ∧ t.readByte last = ((if r.batch.overflow then e.flags ||| 0x0200#16 else e.flags) >>> 8).setWidth 8
    ∧ t.tracker lane =
        { r with
          state := if r.state = .draining ∧ rest = [] then .stopped else r.state
          queue := rest, lastDone := some e.seq, divert := divert
          batch := if ends then { b with state := .none } else b }
    ∧ t.notices =
        (if ends then (s.notices.raise (slotDoneCause lane)).raise .batchDone else s.notices.raise (slotDoneCause lane))
    ∧ (ends → t.ShowsSummary lane b { day := s.calendar.day, minute := s.calendar.minute, valid := s.calendar.valid })

/-- The bytes the end of an entry may write (R13, R44, R168). -/
def State.endingBytes (s : State) (lane : Lane) (index : Nat) : List (Nat × Nat) :=
  let at_ := slotAddress lane index
  [statusBlock, (at_, 1), (at_ + 0x02, 2), (s.overflowByteAddress lane index, 1), (at_ + 0x32, 2)]
    ++ (if (s.tracker lane).batch.state = .closing ∧ (s.tracker lane).batch.inFlight ≤ 1 then [(summaryAddress lane, 64)]
        else [])

/-- Each cause of a list is raised, and nothing else of the notices changes (R188). -/
def Notices.Raised (n m : Notices) (causes : List Cause) : Prop :=
  m.mask = n.mask ∧ m.group = n.group ∧ ∀ c : Cause, m.flag c = (n.flag c || decide (c ∈ causes))

/-- How an entry ends: its outcome and, when it is DIVERTED, its divert cause. -/
structure Ending where
  entry : TrackEntry
  outcome : PieceOutcome
  cause : Option DivertCause

/-- A piece that has been debited (R46, R47). -/
def TrackEntry.debited (e : TrackEntry) : Bool := e.stage == .dispatched || e.stage == .printed || e.stage == .spoiled

/-- How a halt emptying or PARK ends an entry: a debited piece is JAMMED_AFTER_DEBIT, a NOT_FRANKED one is DIVERTED with its
cause, and any other with the cause given (R46, R47). -/
def TrackEntry.endedFor (e : TrackEntry) (cause : DivertCause) : Ending :=
  { entry := e
    outcome := if e.debited then .jammedAfterDebit else .diverted
    cause := if e.debited then none else if e.stage = .notFranked then some (e.cause.getD cause) else some cause }

/-- What a halt makes of an entry: one that is neither debited nor NOT_FRANKED is NOT_FRANKED, JAMMED (R45). -/
def TrackEntry.halted (e : TrackEntry) : TrackEntry :=
  if e.debited ∨ e.stage = .notFranked then e else { e with stage := .notFranked, cause := some .jammed }

/-- A queue in which a piece's print result has just been shown: the part's copy of its presence word has bit 7 set (R12). -/
def Tracker.withPrintResult (r : Tracker) (seq : Nat) : List TrackEntry :=
  let presence := ((r.find seq).map TrackEntry.presence).getD 0
  r.queue.map (fun x => if x.seq == seq then { x with presence := presence ||| 0x0080#16 } else x)

/-- A batch after several entries have ended, oldest first; an entry without a slot is not counted, and a CLOSING batch ends with
its last piece in flight (R44, R167, R168). -/
def Batch.afterAll (b : Batch) : List Ending → Batch
  | [] => b
  | x :: xs =>
    let counted := b.after x.outcome (x.entry.held.getD 0)
    let ended := if counted.state = .closing ∧ counted.inFlight = 0 then { counted with state := .none } else counted
    Batch.afterAll (if x.entry.slot = none then b else ended) xs

/-- The endings that have a slot. -/
def slotted (endings : List Ending) : List Ending := endings.filter (fun x => x.entry.slot.isSome)

/-- The causes that the ends of entries raise: SLOT_DONE of the lane, and BATCH_DONE when its batch ends with them (R17, R168). -/
def endingCauses (lane : Lane) (b : Batch) (endings : List Ending) : List Cause :=
  (if (slotted endings).isEmpty then [] else [slotDoneCause lane])
    ++ (if b.state = .closing ∧ (b.afterAll endings).state = .none then [.batchDone] else [])

/-- The slot of an entry that ended is DONE and shows the outcome, the divert cause where there is one, BATCH_OVERFLOW as the
lane's batch has it in s, and in the presence word that they are there (R12, R13). -/
def State.ShowsEnding (s t : State) (lane : Lane) (x : Ending) : Prop :=
  ∀ index, x.entry.slot = some index →
    let at_ := slotAddress lane index
    t.slotIs lane index .done = true ∧ t.readField (at_ + 0x32) 1 = outcomeCode x.outcome
      ∧ (∀ cause, x.cause = some cause → t.readField (at_ + 0x33) 1 = divertCode cause)
      ∧ t.readField (at_ + 0x02) 2 = (x.entry.presence ||| if x.cause.isSome then 0x0600#16 else 0x0200#16).toNat
      ∧ t.readByte (s.overflowByteAddress lane index)
          = ((if (s.tracker lane).batch.overflow then x.entry.flags ||| 0x0200#16 else x.entry.flags) >>> 8).setWidth 8

/-- A lane's queue emptied, its entries ended as given, oldest first (R46, R47): the lane moves to a state, every entry's slot
shows its end, the batch counts them, and a CLOSING batch whose last piece is among them writes its summary. -/
def State.EndsAll (s t : State) (lane : Lane) (endings : List Ending) (state : LaneState) (haltCause : Option HaltCause) :
    Prop :=
  let r := s.tracker lane
  t.tracker lane =
      { r with
        state := state, haltCause := haltCause, queue := [], batch := r.batch.afterAll endings
        lastDone := (((slotted endings).getLast?).map (fun x => x.entry.seq)).or r.lastDone }
    ∧ (endings.Pairwise (fun x y => x.entry.slot = none ∨ x.entry.slot ≠ y.entry.slot) →
        ∀ x ∈ endings, s.ShowsEnding t lane x)
    ∧ (r.batch.state = .closing → 0 < r.batch.inFlight → r.batch.inFlight = (slotted endings).length →
        t.ShowsSummary lane (r.batch.afterAll endings)
          { day := s.calendar.day, minute := s.calendar.minute, valid := s.calendar.valid })

/-- The bytes that the ends of several entries may write (R13, R44, R168). -/
def State.allEndingBytes (s : State) (lane : Lane) (endings : List Ending) : List (Nat × Nat) :=
  statusBlock
    :: endings.flatMap (fun x =>
        match x.entry.slot with
        | none => []
        | some index =>
          let at_ := slotAddress lane index
          [(at_, 1), (at_ + 0x02, 2), (s.overflowByteAddress lane index, 1), (at_ + 0x32, 2)])
    ++ (if (s.tracker lane).batch.state = .closing then [(summaryAddress lane, 64)] else [])

/-- The print result byte of the piece whose imprint the lane's link has outstanding (R47). -/
def State.printResultByte (s : State) (lane : Lane) : List (Nat × Nat) :=
  match ((s.link lane).outstanding.bind (fun x => (s.tracker lane).find x.seq)).bind TrackEntry.slot with
  | some index => [(slotAddress lane index + 0x26, 1)]
  | none => []

/-- How PARK ends the entries of a lane, the one whose imprint is outstanding with its print result shown (R47). -/
def State.parkEndings (s : State) (lane : Lane) : List Ending :=
  let queue :=
    match (s.link lane).outstanding with
    | some imprint => (s.tracker lane).withPrintResult imprint.seq
    | none => (s.tracker lane).queue
  queue.map (fun e => e.endedFor .parked)

/-- A lane that tracked its pieces halts on a queue (R45, R46): with an imprint outstanding it waits in HALTING with the same
entries, each undebited one NOT_FRANKED; without one every entry is ended and it is HALTED. The other lane, the store, the
links and the rating in progress are unchanged. -/
def State.HaltsLane (s t : State) (lane : Lane) (cause : HaltCause) (queue : List TrackEntry) : Prop :=
  let r := s.tracker lane
  let halted := queue.map TrackEntry.halted
  let endings := halted.map (fun e => e.endedFor .jammed)
  (t.tracker lane).beltRun = false ∧ (t.tracker lane).beltStop = true ∧ t.notices.flag (laneHaltCause lane) = true
    ∧ t.holds = s.holds.filter (fun h => h.lane != lane) ∧ t.takeQueue = s.takeQueue.filter (fun q => q.lane != lane)
    ∧ t = { s with mem := t.mem, generation := t.generation, notices := t.notices, holds := t.holds
                   takeQueue := t.takeQueue, lanes := s.lanes.set lane (t.tracker lane) }
    ∧ ((s.link lane).outstanding ≠ none →
        t.tracker lane = { r with state := .halting, haltCause := some cause, queue := halted }
          ∧ s.notices.Raised t.notices [laneHaltCause lane] ∧ UnchangedOutside [statusBlock] s t)
    ∧ ((s.link lane).outstanding = none →
        s.EndsAll t lane endings .halted (some cause)
          ∧ s.notices.Raised t.notices (laneHaltCause lane :: endingCauses lane r.batch endings)
          ∧ UnchangedOutside (s.allEndingBytes lane endings) s t)

/-- An exchange settled with a result (R42, R152, R153, R156): the mark is cleared, every result but PRINTED makes a spoiled
entry, the link is IDLE with its fault count moved, and the piece takes the result: before EXIT it is PRINTED or SPOILED and
stays, past EXIT it ends. A third consecutive fault halts a lane that tracks its pieces, and a HALTING lane is emptied: then the
piece, when it is past EXIT, ends with its own outcome, and every other entry as R46 gives. -/
def State.SettlesExchange (s t : State) (lane : Lane) (imprint : Imprint) (result : PrintResult) (late : Option Half) : Prop :=
  let r := s.tracker lane
  let fault := result ≠ .printed
  let halts := fault ∧ 2 ≤ (s.link lane).faults ∧ r.state.tracks = true
  let stage := if result = .printed then Stage.printed else .spoiled
  t.items = { s.items with
      marks := s.items.marks.set lane none
      spoiled := if result = .printed then s.items.spoiled
        else placeSpoiled
          { serial := imprint.serial, lane := lane, amount := imprint.amount, account := imprint.account
            day := imprint.day, cause := result } s.items.spoiled }
    ∧ t.store.check = t.items.checkWord
    ∧ t.link lane = { s.link lane with
        state := .idle, outstanding := none, heldDispatch := false, timer := none, expiryHeld := false, late := late
        faults := if result = .printed then 0 else min ((s.link lane).faults + 1) 3 }
    ∧ t = { s with mem := t.mem, generation := t.generation, notices := t.notices, store := t.store, holds := t.holds
                   takeQueue := t.takeQueue, lanes := s.lanes.set lane (t.tracker lane)
                   links := s.links.set lane (t.link lane) }
    ∧ ((∀ x ∈ r.queue, ∀ index, x.slot = some index → index < 32) →
        UnchangedOutside [statusBlock, (slotsBase lane, 2048), (summaryAddress lane, 64)] s t)
    ∧ (halts → (t.tracker lane).haltCause = some .printerFault ∧ (t.tracker lane).state = .halted
        ∧ (t.tracker lane).queue = [] ∧ t.notices.flag (laneHaltCause lane) = true
        ∧ t.holds = s.holds.filter (fun h => h.lane != lane) ∧ t.takeQueue = s.takeQueue.filter (fun q => q.lane != lane))
    ∧ (r.state = .halting → (t.tracker lane).haltCause = r.haltCause ∧ (t.tracker lane).state = .halted
        ∧ (t.tracker lane).queue = [])
    ∧ (¬ halts → t.holds = s.holds ∧ t.takeQueue = s.takeQueue)
    ∧ ∀ e index, r.find imprint.seq = some e → e.slot = some index →
        let at_ := slotAddress lane index
        let queue := (r.withPrintResult imprint.seq).map (fun x => if x.seq == imprint.seq then { x with stage := stage } else x)
        let kept := if e.position = .exit then queue.filter (fun x => x.seq != imprint.seq) else queue
        let own : List Ending :=
          if e.position = .exit then
            [{ entry := { e with stage := stage, presence := e.presence ||| 0x0080#16 }
               outcome := if result = .printed then .franked else .spoiled, cause := none }]
          else []
        let endings := own ++ kept.map (fun x => (if halts then x.halted else x).endedFor .jammed)
        (r.state.tracks = true → ¬ halts → e.position ≠ .exit →
            t.tracker lane = { r with queue := queue }
              ∧ t.readField (at_ + 0x26) 1 = printResultCode result
              ∧ t.readField (at_ + 0x02) 2 = (e.presence ||| 0x0080#16).toNat ∧ t.notices = s.notices
              ∧ UnchangedOutside ((at_ + 0x02, 2) :: (at_ + 0x26, 1) :: (if result = .printed then [] else [statusBlock])) s t)
          ∧ (r.state.tracks = true → ¬ halts → e.position = .exit → r.batch.state ≠ .none →
              s.EndsEntry t lane e index (if result = .printed then .franked else .spoiled) none r.divert
                ∧ t.readField (at_ + 0x26) 1 = printResultCode result
                ∧ t.readField (at_ + 0x02) 2 = (e.presence ||| 0x0280#16).toNat
                ∧ UnchangedOutside ((at_ + 0x26, 1) :: s.endingBytes lane index) s t)
          ∧ (halts ∨ r.state = .halting →
              s.EndsAll t lane endings .halted (if halts then some .printerFault else r.haltCause)
                ∧ t.readField (at_ + 0x26) 1 = printResultCode result
                ∧ s.notices.Raised t.notices
                    ((if halts then [laneHaltCause lane] else []) ++ endingCauses lane r.batch endings)
                ∧ UnchangedOutside ((at_ + 0x26, 1) :: s.allEndingBytes lane endings) s t)

/-! ### The postage, in the terms of chapter 4 -/

/-- The class record of a piece is the bank's, and defined (R72). -/
def Bank.Defines (bank : Bank) (cls : Nat) (record : ClassRecord) : Prop :=
  bank.tableId ≠ 0 ∧ cls ≤ 15 ∧ bank.classes[cls]? = some record ∧ record.defined = true

/-- A service that the piece requests and the bank defines (R75). -/
def Bank.Offers (bank : Bank) (x : InputCopy) (k : Nat) : Prop :=
  x.services.getLsbD k = true ∧ ∃ service, bank.services[k]? = some service ∧ service.defined = true

/-- Two services exclude each other: the exclusion mask of either names the other (R76). -/
def Bank.Excludes (bank : Bank) (j k : Nat) : Prop :=
  (∃ service, bank.services[j]? = some service ∧ service.excludes.getLsbD k = true)
    ∨ ∃ service, bank.services[k]? = some service ∧ service.excludes.getLsbD j = true

/-- The services kept, in ascending index: those offered that exclude no service kept before them (R75, R76). -/
def Bank.Keeps (bank : Bank) (x : InputCopy) (kept : List Nat) : Prop :=
  kept.Pairwise (fun j k => j < k)
    ∧ ∀ k, k ∈ kept ↔ bank.Offers x k ∧ ∀ j ∈ kept, j < k → ¬ bank.Excludes j k

/-- The zone chosen, and whether it is the class default (R74). -/
def Bank.Zones (bank : Bank) (record : ClassRecord) (area zone : Nat) (byDefault : Bool) : Prop :=
  (bank.chart = none ∨ 1000 ≤ area → zone = record.defaultZone ∧ byDefault = true)
    ∧ ∀ zones entry, bank.chart = some zones → area ≤ 999 → zones[area]? = some entry →
        (entry = 255 → zone = record.defaultZone ∧ byDefault = true) ∧ (entry ≠ 255 → zone = entry ∧ byDefault = false)

/-- What the input stage leaves of a piece that passed its checks (R71, R74 to R78). -/
def Working.Repaired (w : Working) (bank : Bank) (record : ClassRecord) (x : InputCopy) (window : Nat) : Prop :=
  let given := 1 ≤ x.tier ∧ x.tier ≤ 3 ∧ record.tierMask.getLsbD x.tier = true
  let clamped := max (-(window : Int)) (min (window : Int) x.offset)
  w.length = max x.length x.width ∧ w.width = min x.length x.width
    ∧ bank.Zones record x.area w.zone w.flags.zoneDefault
    ∧ bank.Keeps x w.kept ∧ (w.flags.serviceDropped = true ↔ ∃ k, x.services.getLsbD k = true ∧ k ∉ w.kept)
    ∧ (given → w.tier = x.tier ∧ ∀ d, record.tierFactors[x.tier]? = some d → w.factor = d)
    ∧ (¬ given → w.tier = 0 ∧ w.factor = 0) ∧ (w.flags.tierIgnored = true ↔ x.tier ≠ 0 ∧ ¬ given)
    ∧ w.offset = some clamped ∧ (w.flags.offsetClamped = true ↔ clamped ≠ x.offset)

/-- A piece fits a format (R71, R79). -/
def Format.Admits (f : Format) (x : InputCopy) : Prop :=
  max x.length x.width ≤ f.maxLength ∧ min x.length x.width ≤ f.maxWidth ∧ x.thickness ≤ f.maxThickness
    ∧ x.weight ≤ f.maxWeight

/-- The first format of a class that a piece fits, the formats numbered from 1 (R79). -/
def ClassRecord.FirstFit (record : ClassRecord) (x : InputCopy) (number : Nat) (f : Format) : Prop :=
  1 ≤ number ∧ record.formats[number - 1]? = some f ∧ f.Admits x
    ∧ ∀ (k : Nat) g, k + 1 < number → record.formats[k]? = some g → ¬ g.Admits x

/-- The chargeable weight, and whether it is the volumetric weight (R80). -/
def Format.Weighs (f : Format) (x : InputCopy) (weight : Nat) (volumetric : Bool) : Prop :=
  (f.divisor = none → weight = x.weight ∧ volumetric = false)
    ∧ ∀ d, f.divisor = some d →
        let byVolume := min ((x.length * x.width * x.thickness + (d - 1)) / d) 65535
        weight = max x.weight byVolume ∧ (volumetric = true ↔ x.weight < byVolume)

/-- The exact base price of a chargeable weight: that of the first break whose bound is not less, or above the last bound the
last price and the extension's price for each step begun (R81, R82). -/
def Format.Prices (f : Format) (weight base : Nat) : Prop :=
  (∃ (k : Nat) (b : Break), f.breaks[k]? = some b ∧ weight ≤ b.bound
      ∧ (∀ (j : Nat) c, j < k → f.breaks[j]? = some c → c.bound < weight) ∧ base = b.price)
    ∨ ∃ last extension, f.breaks.getLast? = some last ∧ f.extension = some extension ∧ (∀ b ∈ f.breaks, b.bound < weight)
        ∧ base = last.price + (weight - last.bound + (extension.step - 1)) / extension.step * extension.price

/-- What the stages from the zone to the rounding leave of an exact base price, when every kept service is allowed (R68, R84 to
R87). -/
def Working.Totals (w : Working) (bank : Bank) (factor base : Nat) : Prop :=
  let zoned := (w.base * factor + 2048) / 4096
  let total := (w.net : Int) + (w.kept.map (fun k => ((bank.services[k]?).map Service.amount).getD 0)).sum
  w.zoned = min zoned 4294967295 ∧ w.discount = w.zoned * w.factor / 4096 ∧ w.net = w.zoned - w.discount
    ∧ (total ≤ 0 → w.total = 0) ∧ (0 ≤ total → w.total = min total.toNat 4294967295)
    ∧ w.postage
        = (match bank.rounding with
          | .up => (w.total + 999) / 1000
          | .nearest => (w.total + 500) / 1000
          | .down => w.total / 1000)
    ∧ (w.flags.overflow = true ↔ 4294967295 < base ∨ 4294967295 < zoned ∨ 4294967295 < total)

/-! ### The bytes of a frame -/

/-- The 24 bytes of an IMPRINT frame, each multi-byte field with its most significant byte first: the imprint mark over bytes 3 to
15 begins at the low 16 bits of the seed, the link check over bytes 0 to 21 at 0xFFFF (R147, R148, R196). -/
def imprintBytes (lane : Lane) (licence : Licence) (serial day postage cls format slogan : Nat) (offset : Int) : List Byte :=
  let byte := fun (value power : Nat) => BitVec.ofNat 8 (value / 256 ^ power)
  let marked :=
    [byte licence.meterId 3, byte licence.meterId 2, byte licence.meterId 1, byte licence.meterId 0, byte serial 3,
      byte serial 2, byte serial 1, byte serial 0, byte day 1, byte day 0, byte postage 2, byte postage 1, byte postage 0]
  let mark := (crc16 (licence.seed.setWidth 16) marked).toNat
  let checked := [0xA5, 0x31, if lane = .a then 0 else 1] ++ marked
    ++ [byte cls 0, byte format 0, byte slogan 0, BitVec.ofInt 8 offset, byte mark 1, byte mark 0]
  let check := (crc16 0xFFFF#16 checked).toNat
  checked ++ [byte check 1, byte check 0]

/-! ### Reports and images -/

/-- An outstanding mark of the funds report, at its offset (11.8). -/
def State.ShowsMark (t : State) (at_ : Nat) (mark : Option Mark) : Prop :=
  t.readField at_ 1 = (if mark.isSome then 1 else 0)
    ∧ ∀ x, mark = some x → t.readField (at_ + 1) 1 = x.account % 256 ∧ t.readField (at_ + 2) 4 = x.serial % 256 ^ 4
        ∧ t.readField (at_ + 6) 4 = x.amount % 256 ^ 4 ∧ t.readField (at_ + 10) 2 = x.day % 256 ^ 2

/-- The accounts report of a kind shows the accounts of s (R124, 11.8). -/
def State.ShowsAccounts (s t : State) (kind : Nat) : Prop :=
  t.readField 0x0380 1 = kind ∧ t.readField 0x0381 1 = (if s.calendar.valid then 1 else 0)
    ∧ t.readField 0x0382 2 = s.calendar.day % 256 ^ 2 ∧ t.readField 0x0384 2 = s.calendar.minute % 256 ^ 2
    ∧ t.readField 0x0386 6 = s.items.ascending % 256 ^ 6 ∧ t.readField 0x038C 6 = s.items.periodMark % 256 ^ 6
    ∧ t.readField 0x0392 4 = (s.items.pieceCount - (s.items.accounts.map Account.pieces).sum) % 256 ^ 4
    ∧ ∀ n x, s.items.accounts[n]? = some x →
        t.readField (0x039C + 10 * n) 6 = x.usage % 256 ^ 6 ∧ t.readField (0x039C + 10 * n + 6) 4 = x.pieces % 256 ^ 4
          ∧ (BitVec.ofNat 32 (t.readField 0x0396 4)).getLsbD n = x.isOpen

/-- The spoiled report of a claim limit shows the spoiled list of s, the claimed entries first (R160, 11.8). -/
def State.ShowsSpoiled (s t : State) (limit : Nat) : Prop :=
  let claimed := s.items.spoiled.filter (fun x => decide (x.serial ≤ limit))
  let kept := s.items.spoiled.filter (fun x => decide (limit < x.serial))
  t.readField 0x04E0 4 = limit % 256 ^ 4 ∧ t.readField 0x04E4 2 = s.calendar.day % 256 ^ 2
    ∧ t.readField 0x04E6 2 = s.calendar.minute % 256 ^ 2 ∧ t.readField 0x04E8 1 = (if s.calendar.valid then 1 else 0)
    ∧ t.readField 0x04E9 1 = claimed.length % 256 ∧ t.readField 0x04EA 1 = kept.length % 256
    ∧ ∀ n x, (claimed ++ kept)[n]? = some x →
        let at_ := 0x04EC + 12 * n
        t.readField at_ 4 = x.serial % 256 ^ 4 ∧ t.readField (at_ + 4) 4 = x.amount % 256 ^ 4
          ∧ t.readField (at_ + 8) 2 = x.day % 256 ^ 2 ∧ t.readField (at_ + 10) 1 = x.account % 256
          ∧ t.readField (at_ + 11) 1 = (if x.lane = .a then 0 else 128) + printResultCode x.cause

/-- A flag byte: any value but 0 is set (R195). -/
def FlagByte (flag : Bool) (byte : Byte) : Prop := byte ≠ 0 ↔ flag = true

/-- The bytes of a list of records, each encoded in its turn. -/
def EncodesEach {α : Type} (encodes : α → List Byte → Prop) : List α → List Byte → Prop
  | [], bytes => bytes = []
  | x :: xs, bytes => ∃ first rest, bytes = first ++ rest ∧ encodes x first ∧ EncodesEach encodes xs rest

/-- The bytes of a format record as 11.6 lays them out, its two flag bytes at any value that reads so. -/
def EncodesFormat (order : BusOrder) (f : Format) (bytes : List Byte) : Prop :=
  let n := fieldBytes order
  ∃ divided extended, FlagByte f.divisor.isSome divided ∧ FlagByte f.extension.isSome extended
    ∧ bytes = n 2 f.maxLength ++ n 2 f.maxWidth ++ n 2 f.maxThickness ++ n 2 f.maxWeight
      ++ [divided] ++ (match f.divisor with | some divisor => n 4 divisor | none => [])
      ++ n 1 f.breaks.length ++ f.breaks.flatMap (fun x => n 2 x.bound ++ n 4 x.price)
      ++ [extended] ++ (match f.extension with | some x => n 2 x.step ++ n 4 x.price | none => []) ++ [f.services]

/-- The bytes of a class record with its format records (11.6). -/
def EncodesClass (order : BusOrder) (c : ClassRecord) (bytes : List Byte) : Prop :=
  let n := fieldBytes order
  ∃ defined formats, FlagByte c.defined defined ∧ EncodesEach (EncodesFormat order) c.formats formats
    ∧ bytes = [defined] ++ n 4 c.minimum ++ n 1 c.defaultZone ++ c.zoneFactors.flatMap (n 2) ++ c.tierFactors.flatMap (n 2)
      ++ [c.tierMask] ++ n 1 c.formats.length ++ formats

/-- The bytes of a service record (11.6). -/
def EncodesService (order : BusOrder) (k : Service) (bytes : List Byte) : Prop :=
  ∃ defined, FlagByte k.defined defined ∧ bytes = [defined] ++ fieldBytes order 4 (unsignedOf 32 k.amount) ++ [k.excludes]

/-- The records of a table after the header: the chart, the class records and the service records (11.6). -/
def EncodesRecords (order : BusOrder) (x : RawImage) (bytes : List Byte) : Prop :=
  ∃ classes services, EncodesEach (EncodesClass order) x.classes classes ∧ EncodesEach (EncodesService order) x.services services
    ∧ bytes = ((x.chart.map (fun zones => zones.flatMap (fieldBytes order 1))).getD []) ++ classes ++ services

/-- The header of an image after its check field; its last three bytes are not read (11.6). -/
def EncodesHeader (order : BusOrder) (x : RawImage) (bytes : List Byte) : Prop :=
  let n := fieldBytes order
  ∃ charted unread, FlagByte x.chart.isSome charted ∧ unread.length = 3
    ∧ bytes = n 2 x.tableId ++ n 2 x.day ++ n 2 x.minute ++ n 1 x.classes.length ++ n 1 x.rounding ++ n 4 x.cap
      ++ [charted] ++ unread

/-- The first n bytes of an image as a LOAD RATES takes them: those it has read already, and the rest as the staging area holds
them (R98). -/
def State.staged (s : State) (copy : List Byte) (n : Nat) : List Byte := (copy ++ s.readBytes (0x2000 + copy.length) n).take n

/-- The bytes read and the staging area hold an image: its length, a check word, and the bytes that the check word covers (11.6). -/
def State.Stages (s : State) (copy : List Byte) (covered : List Byte) (check : Nat) : Prop :=
  covered.length + 8 ≤ 57328
    ∧ s.staged copy (covered.length + 8)
        = fieldBytes s.order 4 (covered.length + 8) ++ fieldBytes s.order 4 check ++ covered

/-- Every field of a table fits its bytes in the image, and each record has its fixed number of fields (11.6). -/
def RawImage.Fits (x : RawImage) : Prop :=
  x.tableId < 256 ^ 2 ∧ x.day < 256 ^ 2 ∧ x.minute < 256 ^ 2 ∧ x.rounding < 256 ∧ x.cap < 256 ^ 4 ∧ x.classes.length < 256
    ∧ (∀ zones, x.chart = some zones → zones.length = 1000 ∧ ∀ zone ∈ zones, zone < 256)
    ∧ x.services.length = 8 ∧ (∀ k ∈ x.services, -2147483648 ≤ k.amount ∧ k.amount < 2147483648)
    ∧ ∀ c ∈ x.classes, c.minimum < 256 ^ 4 ∧ c.defaultZone < 256 ∧ c.zoneFactors.length = 16 ∧ c.tierFactors.length = 4
        ∧ (∀ k ∈ c.zoneFactors ++ c.tierFactors, k < 256 ^ 2) ∧ c.formats.length < 256
        ∧ ∀ f ∈ c.formats, f.maxLength < 256 ^ 2 ∧ f.maxWidth < 256 ^ 2 ∧ f.maxThickness < 256 ^ 2 ∧ f.maxWeight < 256 ^ 2
            ∧ (∀ divisor, f.divisor = some divisor → divisor < 256 ^ 4) ∧ f.breaks.length < 256
            ∧ (∀ k ∈ f.breaks, k.bound < 256 ^ 2 ∧ k.price < 256 ^ 4)
            ∧ ∀ k, f.extension = some k → k.step < 256 ^ 2 ∧ k.price < 256 ^ 4

/-- One check of a validation: the load report its failure gives, and whether it passes. -/
abbrev LoadCheck := LoadReport × Bool

/-- The checks that each format record of each class adds, in image order, after those of the class itself. The classes are
numbered from 0 and the formats from 1. -/
def recordChecks (x : RawImage) (step : Nat) (ofClass : ClassRecord → List Bool) (ofFormat : Format → List (Option Nat × Bool)) :
    List LoadCheck :=
  x.classes.zipIdx.flatMap (fun (c, cls) =>
    let report := { LoadReport.bare step with cls := some cls }
    (ofClass c).map (fun passes => (report, passes))
      ++ c.formats.zipIdx.flatMap (fun (f, k) =>
          (ofFormat f).map (fun (number, passes) =>
            ({ report with format := some (k + 1), priceBreak := number }, passes))))

/-- Step 3: the counts of the walk, in image order (R99). -/
def countChecks (x : RawImage) : List LoadCheck :=
  (LoadReport.bare 3, decide (1 ≤ x.classes.length ∧ x.classes.length ≤ 16))
    :: recordChecks x 3 (fun c => [decide (1 ≤ c.formats.length ∧ c.formats.length ≤ 3)])
        (fun f => [(none, decide (1 ≤ f.breaks.length ∧ f.breaks.length ≤ 16))])

/-- Step 4: each break bound against the bound before it; the breaks are numbered from 1 (R100). -/
def breakChecks (x : RawImage) : List LoadCheck :=
  recordChecks x 4 (fun _ => [])
    (fun f => (f.breaks.zip (f.breaks.drop 1)).zipIdx.map (fun (pair, k) => (some (k + 2), decide (pair.1.bound < pair.2.bound))))

/-- Step 5: every field in its range, in image order (R100). -/
def rangeChecks (x : RawImage) : List LoadCheck :=
  [(LoadReport.bare 5, decide (x.tableId ≠ 0)), (LoadReport.bare 5, decide (x.minute ≤ 1439)),
    (LoadReport.bare 5, decide (1 ≤ x.rounding ∧ x.rounding ≤ 3)),
    (LoadReport.bare 5, decide (1 ≤ x.cap ∧ x.cap ≤ 999999))]
    ++ (x.chart.getD []).zipIdx.map (fun (zone, area) =>
        ({ LoadReport.bare 5 with area := some area }, decide (zone ≤ 15 ∨ zone = 255)))
    ++ recordChecks x 5
        (fun c => [decide (c.minimum ≤ 999999), decide (c.defaultZone ≤ 15), c.tierFactors.all (fun k => decide (k ≤ 4096))])
        (fun f => [(none, decide (f.divisor ≠ some 0)), (none, f.extension.all (fun k => decide (k.step ≠ 0)))])
    ++ x.services.zipIdx.map (fun (k, index) =>
        ({ LoadReport.bare 5 with service := some index }, decide (-1000000 ≤ k.amount ∧ k.amount ≤ 99999999)))

/-- Step 6: the cap against the minimum of each defined class (R101). -/
def capChecks (x : RawImage) : List LoadCheck :=
  recordChecks x 6 (fun c => [decide (c.defined = true → c.minimum ≤ x.cap)]) (fun _ => [])

/-- The first check that fails, in order. -/
def firstFailed (checks : List LoadCheck) : Option LoadReport := (checks.find? (fun check => !check.2)).map Prod.fst

/-! ### Laws of the manual -/

/-- No group of the status block waits to be rewritten (R5). -/
def State.Settled (s : State) : Prop := s.dirty = Groups.none

/-- The fields of the status block: the generation word, and every group but that of an absent lane B (R4, R5, 11.4). -/
def statusFields (s : State) : List Field :=
  ⟨0x00, 2, s.generation⟩ :: partFields s ++ calendarFields s ++ banksFields s ++ spoiledFields s ++ fundsFields s
    ++ laneFields 0x30 s.lanes.a ++ (if s.laneCount = .two then laneFields 0x42 s.lanes.b else [])

/-- A field of exchange memory shows its value. -/
def State.Shows (s : State) (f : Field) : Prop := s.readField f.address f.width = f.value % 256 ^ f.width

/-- The groups of retained items that the rest of a whole update rewrites (R5); what START updates is shown by its first
complete write (R7). -/
def Work.rewrites : Work → Groups
  | .debit .. => { Groups.none with funds := true }
  | .settle _ result _ => { Groups.none with spoiled := decide (result ≠ .printed) }
  | .park => { Groups.none with funds := true, spoiled := true }
  | .claim removed => { Groups.none with spoiled := removed }
  | .credit => { Groups.none with funds := true }
  | .install => { Groups.none with funds := true, spoiled := true }
  | .setAccount => Groups.none
  | .setAlert _ => Groups.none
  | .closePeriod => Groups.none
  | .commit _ => { Groups.none with banks := true }
  | .bankSwitch => { Groups.none with banks := true }
  | .setDate .. => { Groups.none with banks := true }
  | .startClear => { Groups.none with funds := true, spoiled := true, banks := true }
  | .startConversion _ => { Groups.none with funds := true, spoiled := true, banks := true }
  | .startSwitch => { Groups.none with funds := true, spoiled := true, banks := true }

/-- An update that START makes (R135). -/
def Work.ofStart : Work → Bool
  | .startClear => true
  | .startConversion _ => true
  | .startSwitch => true
  | _ => false

/-- An update in its steps changes no shown item but those that the rest of its event rewrites; START's updates stand only in
START, PARK's and INSTALL LICENCE's only outside it, and an exchange to be settled is outstanding. -/
def State.UpdateIsShown (s : State) (work : Work) (values : Items) : Prop :=
  (work.rewrites.funds = false → values.descending = s.items.descending ∧ values.ascending = s.items.ascending
      ∧ values.pieceCount = s.items.pieceCount)
    ∧ (work.rewrites.banks = false → values.banks = s.items.banks)
    ∧ (work.rewrites.spoiled = false → values.spoiled.length = s.items.spoiled.length)
    ∧ (work.ofStart = true → s.part = .start) ∧ (work = .install ∨ work = .park → s.part ≠ .start)
    ∧ ∀ lane result expired, work = .settle lane result expired → (s.link lane).outstanding ≠ none

/-- The status block shows the state (R4, R5, R7): from START's first complete write on, while the main supply is on, every
field reads as the state has it. -/
def State.LawfulStatus (s : State) : Prop :=
  s.Settled ∧ (s.supply = true → s.part ≠ .start → ∀ f ∈ statusFields s, s.Shows f)
    ∧ ∀ phase values work, s.store.record = .inSteps phase values → s.inStore = some work →
        s.UpdateIsShown work values.items

/-- The exchange memory is in its canonical form. -/
def State.CanonicalMemory (s : State) : Prop := s.mem.wf = true

/-- The laws of a lane's track queue: at most 12 entries (R33), and none while the lane is STOPPED or HALTED (R24). -/
def Tracker.Lawful (t : Tracker) : Prop :=
  t.queue.length ≤ queueLimit ∧ (t.state = .stopped ∨ t.state = .halted → t.queue = [])

/-- The laws of the three queues (R24, R33, R50). -/
def State.LawfulQueues (s : State) : Prop :=
  s.lanes.a.Lawful ∧ s.lanes.b.Lawful ∧ s.takeQueue.length ≤ takeQueueLimit

/-- Ascending plus descending equals cumulative credit (R111). -/
def Items.Balanced (x : Items) : Prop := x.ascending + x.descending = x.credit

/-- Outside OPERATING no lane runs, no piece is tracked and no money is held (R176, R113). -/
def State.QuietOutsideOperating (s : State) : Prop :=
  s.part ≠ .operating →
    (s.lanes.a.state = .stopped ∧ s.lanes.a.queue = []) ∧ (s.lanes.b.state = .stopped ∧ s.lanes.b.queue = []) ∧ s.holds = []

/-- What an update in its steps will leave of the funds: a debit takes its hold's amount, and the hold is still in the
list; the install and START's updates are made where no money can be held; any other update leaves the descending
register no lower (R118, R131, R136, R142). -/
def State.LawfulUpdate (s : State) (work : Work) (values : Items) : Prop :=
  match work with
  | .debit lane hold _ _ => hold ∈ s.holds ∧ hold.lane = lane ∧ values.descending + hold.amount = s.items.descending
  | .install => s.part = .locked
  | .startClear => s.part = .start
  | .startConversion _ => s.part = .start
  | .startSwitch => s.part = .start
  | _ => s.items.descending ≤ values.descending

/-- The laws of the funds (R111, R113): the registers balance, now and as an update in its steps will leave them, and the
sum of all holds does not exceed the descending register. -/
def State.LawfulFunds (s : State) : Prop :=
  s.items.Balanced ∧ holdsSum s.holds ≤ s.items.descending ∧ s.QuietOutsideOperating
    ∧ ∀ phase values, s.store.record = .inSteps phase values →
        values.items.Balanced ∧ ∀ work, s.inStore = some work → s.LawfulUpdate work values.items

/-- The laws of the accounts and of the banks (R121, R90): the usage totals of the 32 accounts sum to the ascending register less
the period mark, their piece counts to no more than the piece count, and exactly one bank is ACTIVE. -/
def Items.LawfulBooks (x : Items) : Prop :=
  x.accounts.length = 32 ∧ (x.accounts.map Account.usage).sum + x.periodMark = x.ascending
    ∧ (x.accounts.map Account.pieces).sum ≤ x.pieceCount
    ∧ (x.banks.one.role = .active ↔ x.banks.two.role ≠ .active)

/-- The laws of the accounts and of the banks, now and as an update in its steps will leave them; every hold is for one of the
32 accounts (R113). -/
def State.LawfulBooks (s : State) : Prop :=
  s.items.LawfulBooks ∧ (∀ h ∈ s.holds, h.account < 32)
    ∧ ∀ phase values, s.store.record = .inSteps phase values → values.items.LawfulBooks

/-- The laws of the spoiled list and the outstanding marks (R119, R158): entries in strictly rising order of serial, entries and
marks together at most 64, every serial one that a debit has given, and no two of the same serial. -/
def Items.LawfulSpoiled (x : Items) : Prop :=
  x.spoiled.Pairwise (fun k l => k.serial < l.serial) ∧ x.spoiled.length + x.marksPresent ≤ 64
    ∧ (∀ k ∈ x.spoiled, k.serial ≤ x.pieceCount)
    ∧ (∀ lane mark, x.marks.get lane = some mark →
        mark.serial ≤ x.pieceCount ∧ ∀ k ∈ x.spoiled, k.serial ≠ mark.serial)
    ∧ ∀ k l, x.marks.a = some k → x.marks.b = some l → k.serial ≠ l.serial

/-- A lane's mark and its link's outstanding imprint describe the same imprint (R146). -/
def SameImprint (mark : Option Mark) (outstanding : Option Imprint) : Prop :=
  mark = outstanding.map (fun x => { serial := x.serial, amount := x.amount, account := x.account, day := x.day })

/-- What an update in its steps will leave of the marks: a debit its own lane's, for a piece that its link will take; a settling
clears its lane's; an install, PARK and START's updates leave none; any other update leaves both as they are. -/
def State.UpdateMarks (s : State) (work : Work) (values : Items) : Prop :=
  match work with
  | .debit lane hold serial day =>
    values.marks = s.items.marks.set lane (some { serial := serial, amount := hold.amount, account := hold.account, day := day })
      ∧ (s.link lane).outstanding = none ∧ (s.tracker lane).find hold.seq ≠ none ∧ s.part = .operating
  | .settle lane _ _ => values.marks = s.items.marks.set lane none ∧ (s.link lane).outstanding ≠ none
  | .claim _ => values.marks = s.items.marks
  | .credit => values.marks = s.items.marks
  | .setAccount => values.marks = s.items.marks
  | .setAlert _ => values.marks = s.items.marks
  | .closePeriod => values.marks = s.items.marks
  | .commit _ => values.marks = s.items.marks
  | .bankSwitch => values.marks = s.items.marks
  | .setDate .. => values.marks = s.items.marks
  | .install => values.marks = { a := none, b := none } ∧ values.licence ≠ none
  | .park => values.marks = { a := none, b := none }
  | .startClear => values.marks = { a := none, b := none }
  | .startConversion _ => values.marks = { a := none, b := none }
  | .startSwitch => values.marks = { a := none, b := none }

/-- The laws of the imprints (R112, R146, R158): outside START a lane's mark is present exactly while its link has that imprint
outstanding, no link has one outside OPERATING, and the spoiled list is lawful, now and as an update in its steps will leave
it. -/
def State.LawfulImprints (s : State) : Prop :=
  s.items.LawfulSpoiled ∧ (s.part ≠ .start → ∀ lane, SameImprint (s.items.marks.get lane) (s.link lane).outstanding)
    ∧ (s.part ≠ .operating → ∀ lane, (s.link lane).outstanding = none)
    ∧ (s.part = .setup ∨ s.part = .operating → s.items.licence ≠ none)
    ∧ ∀ phase values, s.store.record = .inSteps phase values → values.items.LawfulSpoiled
        ∧ ∀ work, s.inStore = some work → s.UpdateMarks work values.items
            ∧ (s.part = .setup ∨ s.part = .operating → values.items.licence ≠ none)

end Sys2Proof.Machine
end

