-- ==== Sys2Proof/Certificates/Slice0/Obligations.lean ====
section
/-! DEFINITION. What is claimed of the OF-220: the laws every step keeps, what each command and event does to the state and
what it leaves, and how updates, resets and the command block fit together. Where a next state is written as the state before
with some fields replaced, every other field is unchanged; `UnchangedOutside` says the same of memory. -/

section Claims

open Sys2Proof Sys2Proof.Machine

/-! ### The machine and its laws -/

/-- A step takes the command or event at the front of the queue, with the queue's rest; on an empty queue it idles (the
queue and the idling are the model's own: log entry 2). -/
def Obligations.StepTakesTheFrontCommand : Prop :=
  (∀ (i : Instr) (s : State), step { s with pending := i :: s.pending } = exec i s)
    ∧ ∀ s : State, s.pending = [] → step s = .next s

/-- The laws that every step keeps hold after reset. What State.reset holds where a reset keeps it, the retained store, the
calendar, the straps and the levels, is the model's choice (log entry 1). -/
def Obligations.LawsHoldAtReset : Prop :=
  State.reset.CanonicalMemory ∧ State.reset.LawfulStatus ∧ State.reset.LawfulQueues ∧ State.reset.LawfulFunds
    ∧ State.reset.LawfulBooks ∧ State.reset.LawfulImprints

/-- Every step keeps the canonical form of exchange memory. -/
def Obligations.EveryStepKeepsMemoryCanonical : Prop :=
  ∀ s t : State, s.CanonicalMemory → step s = .next t → t.CanonicalMemory

/-- R24, R33, R50: every step keeps at most 12 entries in each track queue, none in a STOPPED or HALTED lane, and at most 8
in the take queue. -/
def Obligations.EveryStepKeepsTheQueueLaws : Prop :=
  ∀ s t : State, s.LawfulQueues → step s = .next t → t.LawfulQueues

/-- R111, R113: every step keeps ascending plus descending equal to cumulative credit, and the sum of all holds within the
descending register. R90, R121: every step keeps the sum of the accounts' usage totals equal to ascending less the period mark,
and exactly one bank ACTIVE. -/
def Obligations.EveryStepKeepsTheFundsLaws : Prop :=
  (∀ s t : State, s.LawfulFunds → step s = .next t → t.LawfulFunds)
    ∧ ∀ s t : State, s.LawfulBooks → step s = .next t → t.LawfulBooks

/-- R4, R5, R7: outside START, with the main supply on, the status block shows the state after every step that is no line
controller write into the block itself: every field of every group, and the generation word, reads as the state has it (that
it does so by the end of each step is the model's choice: log entry 12). -/
def Obligations.EveryStepKeepsTheStatusBlockTrue : Prop :=
  ∀ s t : State, s.LawfulStatus →
    (∀ address value strobes rest, s.pending = .exchangeMemoryWrite address value strobes :: rest → 0x0100 ≤ address.toNat) →
    step s = .next t → t.LawfulStatus

/-- R4: a rewrite of the status block adds one to the generation word before it and one after it, leaves it even, and writes
nowhere else. That the part counts on its own count and not on the bytes, that one rewrite shows every group an event changed, and
that both increments fall within one step are the model's choices (log entries 29, 12 and 30). -/
def Obligations.StatusRewriteIsFramed : Prop :=
  ∀ s : State, s.dirty ≠ Groups.none → s.part ≠ .start → s.generation < 65536 → s.generation % 2 = 0 →
    s.flush.readField 0x00 2 = (s.generation + 2) % 65536 ∧ s.flush.generation = (s.generation + 2) % 65536
      ∧ s.flush.generation % 2 = 0
      ∧ s.flush = { s with mem := s.flush.mem, generation := s.flush.generation, dirty := Groups.none }
      ∧ UnchangedOutside [statusBlock] s s.flush

/-! ### Resets, the supply and START -/

/-- R21, R184 and the rules each unit's reset state has: a power-on reset latches the straps, loses exchange memory but for
the slot state bytes and the generation word, and enters START. -/
def Obligations.PowerOnResetLeaves : Prop :=
  ∀ (lanes : LaneCount) (order : BusOrder) (s : State),
    ∃ t, exec (.powerOnReset lanes order) s = .next t ∧ s.AfterReset t .powerOn ∧ t.supply = true ∧ t.laneCount = lanes
      ∧ t.order = order
      ∧ (s.calendar.running = true → t.calendar = { s.calendar with postdate := 0 })
      ∧ (s.calendar.running = false → t.calendar.day = 0 ∧ t.calendar.minute = 0 ∧ t.calendar.second = 0)
      ∧ ∀ a, (∀ range ∈ (0x00, 2) :: slotStateBytes, ¬ Within range a) → t.mem.read a = none

/-- R22, R183, R184: outside a whole update, a line reset, and a RESTART in any state but PARKED, put every unit in its reset
state, write ABORTED for a command in progress and keep the rest of exchange memory and the counts of the calendar; the line
reset latches the straps anew and the RESTART keeps them. That ABORTED and the generation word are written in the order latched
anew is the model's reading (log entry 15). -/
def Obligations.LineResetAndRestartLeave : Prop :=
  (∀ (lanes : LaneCount) (order : BusOrder) (s : State), s.supply = true → s.inStore = none →
    ∃ t, exec (.lineReset lanes order) s = .next t ∧ s.AfterReset t .line ∧ t.laneCount = lanes ∧ t.order = order
      ∧ t.calendar = { s.calendar with postdate := 0 }
      ∧ (∀ i, s.command = some i → i ≠ .restart → t.readField statusAddress 2 = statusCode .aborted)
      ∧ UnchangedOutside ((0x00, 2) :: (if s.command.isSome then [(statusAddress, 2)] else []) ++ slotStateBytes) s t)
  ∧ (∀ s : State, s.supply = true → s.inStore = none → s.part ≠ .parked →
    ∃ t, exec .restart s = .next t ∧ s.AfterReset t .restart ∧ t.laneCount = s.laneCount ∧ t.order = s.order
      ∧ t.calendar = { s.calendar with postdate := 0 }
      ∧ (∀ i, s.command = some i → i ≠ .restart → t.readField statusAddress 2 = statusCode .aborted)
      ∧ UnchangedOutside ((0x00, 2) :: (0x100, 2) :: (if s.command.isSome then [(statusAddress, 2)] else [])
          ++ slotStateBytes) s t)

/-- R133: when SET ACCOUNT's update record becomes EMPTY the new values and their check word stand in the store, and the
command completes. R134: a line reset that meets SET ACCOUNT's whole update is held, and the command completes before it: its
account is set, and the part then stands in START with every cause flag clear. R134, R143, R159: a line reset that meets a
command taken with its update not yet begun takes effect at once; the store is left whole, the command ABORTED, and a report
it has written stays. R130, R134: SET ACCOUNT posted while a line reset is held behind the update of another event makes no
update and is ABORTED by that reset: it counts as one that has not yet asked for its update (the model's reading: log entry
16). R133: events held for the store are taken whole when the update record becomes EMPTY, in the order they asked, each on
the state the one before it left, and a held SET ACCOUNT is made on the store as the update left it; a held line reset follows
the update and every held event, and an update of START then goes on to no further step (log entry 10). R134, R183: a RESTART
posted while an update is in its steps is held, as the command when no other is in progress, and takes effect after it: a SET
ACCOUNT completes first (log entry 16). How far a command stands when the next event comes is its pace operand (log entry 8),
that the straps of a held line reset are those its own event found is log entry 35's choice, and that bits 6 to 4 of a spoiled
entry's last byte are 0 log entry 34's. -/
def Obligations.UpdateCompletesBeforeTheHeldReset : Prop :=
  (∀ (phase : Phase) (values : NewValues) (s : State), s.supply = true → s.Settled → s.inStore = some .setAccount →
    s.store.record = .inSteps phase values → s.held = [] → s.heldReset = none →
    ∃ t, exec .updateRecordEmpty s = .next t ∧ t.readField statusAddress 2 = statusCode .done
      ∧ t = { s with
                mem := t.mem, inStore := none, command := none, notices := s.notices.raise .commandDone
                store := { items := values.items, latch := s.store.latch || values.setsLatch, check := values.check,
                           record := .empty } }
      ∧ UnchangedOutside [(statusAddress, 2)] s t)
  ∧ (∀ (account state : Byte) (phase : Phase) (lanes : LaneCount) (order : BusOrder) (s : State),
    s.TakesCommands → s.held = [] → s.heldReset = none → s.part = .setup → account.toNat < 32 → state.toNat ≤ 1 →
    ∃ r u t, exec (.setAccount account state (.atOnce (.inSteps phase))) s = .next r
      ∧ exec (.lineReset lanes order) r = .next u
      ∧ u = { r with heldReset := some (.line lanes order) } ∧ u.items = s.items ∧ exec .updateRecordEmpty u = .next t
      ∧ t.items = s.items.setAccount account.toNat (state == 1) ∧ t.part = .start ∧ t.resetCause = .line
      ∧ t.notices = Notices.reset ∧ t.command = none
      ∧ (order = s.order → t.readField statusAddress 2 = statusCode .done))
  ∧ (∀ (i : Instr) (lanes : LaneCount) (s : State), s.TakesCommands → s.unbegun = none →
    ((∃ x, i = .installLicence x .later) ∨ (∃ x, i = .applyVoucher x .later) ∨ (∃ a b, i = .setAccount a b .later)
      ∨ (∃ a, i = .setFundsAlert a .later) ∨ i = .closePeriod .later ∨ ∃ a, i = .claimSpoiled a .later) →
    ∃ r t, exec i s = .next r ∧ exec (.lineReset lanes s.order) r = .next t ∧ t.part = .start ∧ t.command = none
      ∧ t.store = s.store
      ∧ (r.unbegun ≠ none → t.readField statusAddress 2 = statusCode .aborted
          ∧ UnchangedOutside ((0x00, 2) :: (statusAddress, 2) :: slotStateBytes) r t)
      ∧ (∀ limit, i = .claimSpoiled limit .later → s.part = .operating → s.items.spoiled.length ≤ 64 →
          r.unbegun ≠ none ∧ s.ShowsSpoiled t limit.toNat))
  ∧ (∀ (account state : Byte) (pace : CommandPace) (lanes : LaneCount) (values : NewValues) (phase : Phase) (s : State),
    s.supply = true → s.Settled → s.command = none → s.part = .setup → account.toNat < 32 → state.toNat ≤ 1 →
    s.inStore = some .bankSwitch → s.store.record = .inSteps phase values → s.held = [] →
    s.heldReset = some (.line lanes s.order) →
    ∃ r t, exec (.setAccount account state pace) s = .next r ∧ exec .updateRecordEmpty r = .next t
      ∧ t.items = values.items ∧ t.part = .start ∧ t.command = none ∧ t.readField statusAddress 2 = statusCode .aborted)
  ∧ (∀ (events : List Instr) (work : Work) (phase : Phase) (values : NewValues) (s : State), s.supply = true → s.Settled →
    s.inStore = some work → s.store.record = .inSteps phase values → s.heldReset = none →
    s.held = events.map HeldEvent.event → (∀ i ∈ events, needsNoPost i = true) →
    ∃ r, exec .updateRecordEmpty { s with held := [] } = .next r
      ∧ (r.inStore = none → ∃ t u, exec .updateRecordEmpty s = .next t ∧ r.TakesInOrder u events
          ∧ t = { u with mem := t.mem, generation := t.generation } ∧ UnchangedOutside [statusBlock] u t)
      ∧ (r.inStore ≠ none → exec .updateRecordEmpty s = .next { r with held := s.held }))
  ∧ (∀ (account state : Byte) (pace : CommandPace) (phase : Phase) (values : NewValues) (s : State), s.supply = true →
    s.Settled → s.command = none → s.part = .setup → account.toNat < 32 → state.toNat ≤ 1 → s.inStore = some .bankSwitch →
    s.store.record = .inSteps phase values → s.held = [] → s.heldReset = none →
    let i := Instr.setAccount account state pace
    ∃ r t, exec i s = .next r ∧ r = { s with mem := r.mem, command := some i, held := [.event i] }
      ∧ r.readField statusAddress 2 = statusCode .inProgress ∧ exec .updateRecordEmpty r = .next t
      ∧ t.items = values.items.setAccount account.toNat (state == 1) ∧ t.Completed .done)
  ∧ (∀ (lanes : LaneCount) (order : BusOrder) (work : Work) (phase : Phase) (values : NewValues) (s : State),
    s.supply = true → s.Settled → s.inStore = some work → s.store.record = .inSteps phase values →
    s.heldReset = some (.line lanes order) →
    ∃ t, exec .updateRecordEmpty s = .next t
      ∧ (work.ofStart = false → ∃ r u, exec .updateRecordEmpty { s with heldReset := none } = .next r
          ∧ exec (.lineReset lanes order) r = .next u ∧ t = { u with mem := t.mem } ∧ UnchangedOutside [statusBlock] u t)
      ∧ (work.ofStart = true → t.AfterReset t .line ∧ t.laneCount = lanes ∧ t.order = order
          ∧ (s.held = [] → t.items = values.items)))
  ∧ (∀ (account state : Byte) (phase : Phase) (s : State), s.TakesCommands → s.held = [] → s.heldReset = none →
    s.part = .setup → account.toNat < 32 → state.toNat ≤ 1 →
    ∃ r u t, exec (.setAccount account state (.atOnce (.inSteps phase))) s = .next r ∧ exec .restart r = .next u
      ∧ u = { r with mem := u.mem, heldReset := some .restart } ∧ exec .updateRecordEmpty u = .next t
      ∧ t.items = s.items.setAccount account.toNat (state == 1) ∧ t.AfterReset t .restart ∧ t.laneCount = s.laneCount
      ∧ t.order = s.order ∧ t.readField statusAddress 2 = statusCode .done)
  ∧ (∀ (work : Work) (phase : Phase) (values : NewValues) (s : State), s.supply = true → s.Settled → s.inStore = some work →
    s.store.record = .inSteps phase values → s.heldReset = none → s.command = none → s.part ≠ .parked →
    ∃ u t, exec .restart s = .next u
      ∧ u = { s with mem := u.mem, command := some .restart, heldReset := some .restart }
      ∧ exec .updateRecordEmpty u = .next t
      ∧ t.AfterReset t .restart ∧ t.laneCount = s.laneCount ∧ t.order = s.order ∧ (s.held = [] → t.items = values.items))

/-- R133: a whole update left in its steps and then completed comes to the same state as one made within its event, for every
event that asks for one: exactly so for PRINT, the commands, SET DATE with its switch among them, the commit of a LOAD RATES,
PARK, the settling of an exchange and each update of START, and up to the generation word for a switch at the end of a second
or at a minute boundary, which then makes a rewrite of the status block of its own. A command whose update begins later comes
to the same state again. How far an update stands when the next event comes is the pace operand (log entry 8); that an event
makes one rewrite of the status block is the model's choice (log entry 12), and that at a boundary the calendar acts before a
switch's update, at SET DATE with it, its reading (log entry 11). -/
def Obligations.UpdateInStepsComesToTheSame : Prop :=
  (∀ (phase : Phase) (s : State) (f : Pace → Instr),
    ((∃ lane edge, f = Instr.print lane edge) ∨ (∃ x, f = fun pace => Instr.installLicence x (.atOnce pace))
      ∨ (∃ x, f = fun pace => Instr.applyVoucher x (.atOnce pace))
      ∨ (∃ a b, f = fun pace => Instr.setAccount a b (.atOnce pace))
      ∨ (∃ a, f = fun pace => Instr.setFundsAlert a (.atOnce pace)) ∨ (f = fun pace => Instr.closePeriod (.atOnce pace))
      ∨ (∃ a, f = fun pace => Instr.claimSpoiled a (.atOnce pace)) ∨ f = Instr.loadRatesCompletion ∨ f = Instr.park
      ∨ (∃ lane frame, f = Instr.answer lane frame) ∨ (∃ lane, f = Instr.answerTimerExpiry lane)
      ∨ ∃ day minute second, f = Instr.setDate day minute second) →
    s.Ready → s.held = [] → s.heldReset = none →
    ∃ t u, exec (f (.inSteps phase)) s = .next t ∧ exec (f .made) s = .next u
      ∧ (t.inStore ≠ none → exec .updateRecordEmpty t = .next u) ∧ (t.inStore = none → s.part ≠ .start → t = u))
  ∧ (∀ (phase : Phase) (s : State) (f : Pace → Instr),
    f = Instr.calendarSecond ∨ f = Instr.minuteBoundary →
    s.Ready → s.held = [] → s.heldReset = none →
    ∃ t u, exec (f (.inSteps phase)) s = .next t ∧ exec (f .made) s = .next u
      ∧ (t.inStore ≠ none → ∃ v, exec .updateRecordEmpty t = .next v
          ∧ v = { u with mem := v.mem, generation := v.generation } ∧ UnchangedOutside [(0x00, 2)] u v)
      ∧ (t.inStore = none → t = u))
  ∧ (∀ (pace : StartPace) (s : State), s.Ready → s.held = [] → s.heldReset = none →
    ∃ t u, exec (.start pace) s = .next t ∧ exec (.start .made) s = .next u
      ∧ (t.inStore = none → t = u)
      ∧ (t.inStore ≠ none → ∃ v, exec .updateRecordEmpty t = .next v ∧ (v.inStore = none → v = u)
          ∧ (v.inStore ≠ none → exec .updateRecordEmpty v = .next u)))
  ∧ (∀ (s : State) (f : CommandPace → Instr),
    ((∃ x, f = Instr.installLicence x) ∨ (∃ x, f = Instr.applyVoucher x) ∨ (∃ a b, f = Instr.setAccount a b)
      ∨ (∃ a, f = Instr.setFundsAlert a) ∨ f = Instr.closePeriod ∨ ∃ a, f = Instr.claimSpoiled a) →
    s.TakesCommands → s.unbegun = none →
    ∃ t u, exec (f .later) s = .next t ∧ exec (f (.atOnce .made)) s = .next u ∧ t.store = s.store
      ∧ (t.unbegun ≠ none → exec .updateRecordEmpty t = .next u) ∧ (t.unbegun = none → t = u))

/-- R134, R175, R192: losing the main supply leaves the retained store and the calendar as they stand; losing the battery clears
the battery-good latch and stops the calendar; an assertion of POWER_WARN raises POWER_WARNING, which asserts INT whatever the
mask, and a deassertion changes only the level. That the supply loss drops the update's event, the held events, a held reset and
an update not yet begun, and keeps all other state, is the model's reading (log entries 22 and 23), and that the stopped
calendar's counts and the retained items stay in the state until the next START or power-on reset is too (log entry 24). -/
def Obligations.SupplyBatteryAndWarning : Prop :=
  (∀ s : State, s.Settled →
    exec .supplyLoss s
        = .next { s with supply := false, inStore := none, held := [], unbegun := none, heldReset := none }
      ∧ ∃ t, exec .batteryLoss s = .next t ∧ t.store.latch = false ∧ t.items = s.items ∧ t.calendar.running = false
        ∧ t = { s with store := t.store, calendar := { s.calendar with running := false } })
  ∧ (∀ s : State, s.Ready →
    (s.powerWarn = false → exec .powerWarnAssert s
        = .next { s with powerWarn := true, notices := { s.notices with cause := s.notices.cause ||| 2#16 } }
      ∧ ({ s.notices with cause := s.notices.cause ||| 2#16 } : Notices).int = true)
      ∧ (s.powerWarn = true → exec .powerWarnAssert s = .next s)
      ∧ exec .powerWarnDeassert s = .next { s with powerWarn := false })

/-- R134, R135: START settles the update record first: a READY update is made and a FILLING one discarded. R137, R108, R129, R176:
on the store so settled, when its latch is set and its check word agrees, START converts both outstanding marks into UNCONFIRMED
spoiled entries, makes the switch of a due pending bank, evaluates the inspection notice, writes the status block, and goes to
SETUP with a licence and to LOCKED without. R177: with a PARK held it goes to PARKED instead, and PARK completes with DONE. -/
def Obligations.StartOnAGoodStore : Prop :=
  ∀ (s : State) (x : Items) (check : Word) (latch : Bool), s.Ready → s.part = .start → s.heldReset = none →
    (s.command = none ∨ ∃ pace, s.command = some (.park pace)) →
    (s.store.record = .empty ∧ x = s.items ∧ check = s.store.check ∧ latch = s.store.latch
      ∨ (∃ values, s.store.record = .inSteps .filling values) ∧ x = s.items ∧ check = s.store.check ∧ latch = s.store.latch
      ∨ ∃ values, s.store.record = .inSteps .ready values ∧ values.setsLatch = false ∧ x = values.items
          ∧ check = values.check ∧ latch = s.store.latch) →
    latch = true → check = x.checkWord →
    let parks := s.command ≠ none
    let other := x.banks.get x.activeBank.other
    let due := s.calendar.valid = true ∧ other.role = .pending ∧ (other.effectiveDay < s.calendar.day
      ∨ other.effectiveDay = s.calendar.day ∧ other.effectiveMinute ≤ s.calendar.minute)
    ∃ t, exec (.start .made) s = .next t
      ∧ t.part = (if parks then .parked else if x.licence.isSome then .setup else .locked)
      ∧ t.store.record = .empty ∧ t.store.check = t.items.checkWord ∧ t.store.latch = true
      ∧ (¬ due → t.items = { x with marks := { a := none, b := none }, spoiled := t.items.spoiled })
      ∧ (due → t.items = { x with
            marks := { a := none, b := none }, spoiled := t.items.spoiled
            banks := (x.banks.set x.activeBank { x.banks.get x.activeBank with role := .spare }).set x.activeBank.other
              { other with role := .active } })
      ∧ (∀ entry, entry ∈ t.items.spoiled ↔ entry ∈ x.spoiled ∨ ∃ lane mark, x.marks.get lane = some mark
          ∧ entry = { serial := mark.serial, lane := lane, amount := mark.amount, account := mark.account,
                      day := mark.day, cause := .unconfirmed })
      ∧ s.NoticeEvaluated t s.calendar x.voucherDay x.licence
      ∧ t.notices.flag .rateSwitch = (s.notices.flag .rateSwitch || decide due)
      ∧ t.notices.flag .powerWarning = (s.notices.flag .powerWarning || s.warnAtReset)
      ∧ t.notices.flag .commandDone = (s.notices.flag .commandDone || decide parks)
      ∧ t.notices.flag .storeFault = s.notices.flag .storeFault
      ∧ t.readField 0x02 1 = resetCauseCode s.resetCause ∧ t.readField 0x03 1 = partCode t.part
      ∧ t.readField 0x16 2 = t.items.spoiled.length % 65536 ∧ t.readField 0x18 6 = x.descending % 256 ^ 6
      ∧ t.readField 0x0A 2 = (t.items.banks.get t.items.activeBank).tableId % 256 ^ 2
      ∧ t.readField 0x00 2 % 2 = 0 ∧ (parks → t.readField statusAddress 2 = statusCode .done)
      ∧ t = { s with mem := t.mem, generation := t.generation, part := t.part, store := t.store, notices := t.notices,
                     notice := t.notice, warnAtReset := false, command := none }
      ∧ UnchangedOutside (statusBlock :: if parks then [(statusAddress, 2)] else []) s t

/-- R134, R135: START settles the update record first: a READY update is made and a FILLING one discarded. R136, R172, R175,
R191: on a store so settled whose battery-good latch is cleared or whose check word differs, START clears the store, makes the
calendar not valid, raises STORE_FAULT, and POWER_WARNING when the warning stood at the reset event, asserts INT and goes to
LOCKED, or to PARKED with a PARK held (R177). That this clearing starts a calendar again from day 0 that a battery loss had
stopped is the model's reading: R175 has it start at the power-on (log entry 24). A READY clearing of a store fault that a
supply loss had cut short comes to the same (the model's reading: log entry 33). What the cleared store holds for a bank,
class and service that is not defined is the model's choice (log entry 4). -/
def Obligations.StartOnAStoreFault : Prop :=
  ∀ s : State, s.Ready → s.part = .start → s.command = none ∨ (∃ pace, s.command = some (.park pace)) →
    s.heldReset = none →
    ((s.store.record = .empty ∨ ∃ values, s.store.record = .inSteps .filling values)
        ∧ (s.store.latch = false ∨ s.store.check ≠ s.items.checkWord)
      ∨ (∃ values, s.store.record = .inSteps .ready values ∧ values.setsLatch = false
          ∧ (s.store.latch = false ∨ values.check ≠ values.items.checkWord))
      ∨ s.store.record = .inSteps .ready (Items.cleared.newValues true)) →
    let parks := s.command ≠ none
    let counting := if s.calendar.running then s.calendar
      else { day := 0, minute := 0, second := 0, cycles := 0, valid := false, running := true, postdate := s.calendar.postdate }
    ∃ t, exec (.start .made) s = .next t ∧ t.notices.int = true
      ∧ s.notices.Raised t.notices
          ((.storeFault :: if s.warnAtReset then [.powerWarning] else []) ++ if parks then [.commandDone] else [])
      ∧ (parks → t.readField statusAddress 2 = statusCode .done)
      ∧ t.readField 0x02 1 = resetCauseCode s.resetCause ∧ t.readField 0x03 1 = partCode t.part
      ∧ t.readField 0x04 2 = counting.day % 256 ^ 2 ∧ t.readField 0x06 2 = counting.minute % 256 ^ 2
      ∧ t.readField 0x08 1 = 0 ∧ t.readField 0x0A 2 = 0 ∧ t.readField 0x16 2 = 0
      ∧ t.readField 0x18 6 = 0 ∧ t.readField 0x1E 6 = 0 ∧ t.readField 0x2A 4 = 0
      ∧ t = { s with mem := t.mem, generation := t.generation, part := if parks then .parked else .locked
                     store := Store.cleared, notices := t.notices, calendar := { counting with valid := false }
                     warnAtReset := false, command := none }
      ∧ UnchangedOutside (statusBlock :: if parks then [(statusAddress, 2)] else []) s t

/-! ### The belt -/

/-- R10, R34, R35, R166: an ENTRY on a RUNNING lane with an OPEN batch, room in the queue and a FREE slot opens the slot for
the lane's next sequence number, raises SLOT_OPEN, and joins the batch. -/
def Obligations.EntryOpensASlot : Prop :=
  ∀ (lane : Lane) (edge : Edge) (s : State), s.Ready → s.Senses lane .entry edge →
    let r := s.tracker lane
    let at_ := slotAddress lane (r.nextSeq % 32)
    r.state = .running → r.batch.state = .opened → r.queue.length < 12 → s.slotIs lane (r.nextSeq % 32) .free = true →
    ∃ t, exec (.entry lane edge) s = .next t
      ∧ t = { s with
                mem := t.mem, generation := t.generation, notices := s.notices.raise (slotOpenCause lane)
                lanes := s.lanes.set lane
                  { r with
                    queue := r.queue ++ [TrackEntry.opened r.nextSeq r.batch.id]
                    nextSeq := (r.nextSeq + 1) % 16777216
                    lastAssigned := some r.nextSeq
                    batch := { r.batch with
                      entered := min (r.batch.entered + 1) 4294967295, inFlight := r.batch.inFlight + 1
                      first := some (r.batch.first.getD r.nextSeq), last := some r.nextSeq } } }
      ∧ t.slotIs lane (r.nextSeq % 32) .opened = true ∧ t.readField (at_ + 0x01) 1 = laneCode lane
      ∧ t.readField (at_ + 0x04) 4 = r.nextSeq % 256 ^ 4 ∧ t.readField (at_ + 0x08) 4 = r.batch.id % 256 ^ 4
      ∧ t.readField (at_ + 0x02) 2 = 0 ∧ t.readField (at_ + 0x20) 2 = 0
      ∧ (s.part ≠ .start → t.readField (laneGroup lane + 0x04) 4 = r.nextSeq % 256 ^ 4)
      ∧ UnchangedOutside [statusBlock, (at_, 12), (at_ + 0x20, 2)] s t

/-- R34: an ENTRY on a lane that is DRAINING, whose batch is not OPEN, or whose slot is not FREE is tracked without a slot, in
the first of these cases that holds, and no slot is touched. R34, R45, R46: an ENTRY that finds 12 entries in the queue adds none
and halts the lane with OVERFILL. The bytes that an ended piece's slot shows come from the part's own copy of its words (log entry
20). -/
def Obligations.EntryWithoutASlot : Prop :=
  (∀ (lane : Lane) (edge : Edge) (s : State), s.Ready → s.Senses lane .entry edge →
    let r := s.tracker lane
    r.queue.length < 12 →
    ∀ cause,
      (r.state = .draining ∧ cause = .laneNotRunning
        ∨ r.state ≠ .draining ∧ r.batch.state ≠ .opened ∧ cause = .noBatch
        ∨ r.state ≠ .draining ∧ r.batch.state = .opened ∧ s.slotIs lane (r.nextSeq % 32) .free = false
          ∧ cause = .slotOverrun) →
      ∃ t, exec (.entry lane edge) s = .next t
        ∧ t = { s with
                  mem := t.mem, generation := t.generation
                  notices := if cause = .slotOverrun then s.notices.raise .laneIrregular else s.notices
                  lanes := s.lanes.set lane
                    { r with
                      queue := r.queue ++ [TrackEntry.slotless r.nextSeq cause]
                      nextSeq := (r.nextSeq + 1) % 16777216
                      lastAssigned := some r.nextSeq
                      overruns := if cause = .slotOverrun then min (r.overruns + 1) 65535 else r.overruns } }
        ∧ UnchangedOutside [statusBlock] s t)
  ∧ (∀ (lane : Lane) (edge : Edge) (s : State), s.Ready → s.Senses lane .entry edge →
    12 ≤ (s.tracker lane).queue.length →
    ∃ t, exec (.entry lane edge) s = .next t ∧ s.HaltsLane t lane .overfill (s.tracker lane).queue
      ∧ (t.tracker lane).nextSeq = (s.tracker lane).nextSeq ∧ (t.tracker lane).lastAssigned = (s.tracker lane).lastAssigned)

/-- R28, R29: a leading edge on a lane that does not track its pieces, and one whose photocell the oldest entry not past it
cannot have reached, is a stray: its count rises, LANE_IRREGULAR is raised, and nothing else changes; at a count of 65,535 no
byte changes either (R5, R6). Every reset leaves the count 0. R24, R28: a trailing edge, and every photocell, encoder and link event
of an absent lane, has no effect. -/
def Obligations.StraySensorEvent : Prop :=
  (∀ (lane : Lane) (photocell : Position) (edge : Edge) (pace : Pace) (i : Instr) (s : State), s.Ready →
    s.present lane = true → edge = (s.tracker lane).config.edge photocell →
    (photocell = .entry ∧ i = .entry lane edge ∨ photocell = .rate ∧ i = .rate lane edge
      ∨ photocell = .print ∧ i = .print lane edge pace ∨ photocell = .exit ∧ i = .exit lane edge) →
    ((s.tracker lane).state.tracks = false
      ∨ photocell ≠ .entry ∧ ∀ e, (s.tracker lane).queue.find? (fun x => x.position.rank < photocell.rank) = some e →
          e.position.rank + 1 ≠ photocell.rank) →
    ∃ t, exec i s = .next t
      ∧ t = { s with
                mem := t.mem, generation := t.generation, notices := s.notices.raise .laneIrregular
                lanes := s.lanes.set lane
                  { s.tracker lane with strays := min ((s.tracker lane).strays + 1) 65535 } }
      ∧ ((s.tracker lane).strays = 65535 → t.mem = s.mem ∧ t.generation = s.generation)
      ∧ UnchangedOutside [statusBlock] s t)
  ∧ (∀ (lanes : LaneCount) (order : BusOrder) (lane : Lane) (s : State),
    (∃ t, exec (.powerOnReset lanes order) s = .next t ∧ (t.tracker lane).strays = 0)
      ∧ (s.supply = true → s.inStore = none →
          (∃ t, exec (.lineReset lanes order) s = .next t ∧ (t.tracker lane).strays = 0)
            ∧ (s.part ≠ .parked → ∃ t, exec .restart s = .next t ∧ (t.tracker lane).strays = 0)))
  ∧ (∀ (lane : Lane) (photocell : Position) (edge : Edge) (pace : Pace) (frame : BitVec 48) (i : Instr) (s : State), s.Ready →
    ((photocell = .entry ∧ i = .entry lane edge ∨ photocell = .rate ∧ i = .rate lane edge
        ∨ photocell = .print ∧ i = .print lane edge pace ∨ photocell = .exit ∧ i = .exit lane edge)
        ∧ (s.present lane = false ∨ edge ≠ (s.tracker lane).config.edge photocell)
      ∨ (i = .encoderCount lane ∨ i = .frameSent lane ∨ i = .answerReady lane ∨ i = .answer lane frame pace
          ∨ i = .answerTimerExpiry lane pace) ∧ s.present lane = false) →
    exec i s = .next s)

/-- R11, R18, R36, R37, R50: a RATE event on a WAIT_RATE entry moves its slot to TAKEN. A FILLED slot's input fields are
copied first, each from its offset of 11.3 and read as R11 gives: a weight status of another code as NONE, any non-zero
HAND_HOLD as set, a slogan of 32 to 254 as 255, the print offset in two's complement; with 8 pieces in the take queue the
piece is RATE_QUEUE_FULL, with POWER_WARN asserted POWER_WARNING, and otherwise it joins the take queue at its newest end. A
slot still OPEN makes the piece LATE_FILL. On a NOT_FRANKED entry the event only records the photocell. -/
def Obligations.RateTakesTheSlot : Prop :=
  (∀ (lane : Lane) (edge : Edge) (s : State) (e : TrackEntry) (index : Nat), s.Ready → s.Senses lane .rate edge →
    (s.tracker lane).applies .rate = some e → e.stage = .waitRate → e.slot = some index →
    s.slotIs lane index .filled = true →
    let full := decide (8 ≤ s.takeQueue.length)
    let joined := !full && !s.powerWarn
    let at_ := slotAddress lane index
    let status := s.readField (at_ + 0x16) 1
    let slogan := s.readField (at_ + 0x1B) 1
    let offset := s.readField (at_ + 0x1C) 1
    let input : InputCopy :=
      { weight := s.readField (at_ + 0x0C) 2, length := s.readField (at_ + 0x0E) 2, width := s.readField (at_ + 0x10) 2
        thickness := s.readField (at_ + 0x12) 2, area := s.readField (at_ + 0x14) 2
        status := if status = 1 then .stable else if status = 2 then .unstable else .none
        cls := s.readField (at_ + 0x17) 1, services := s.readByte (at_ + 0x18), tier := s.readField (at_ + 0x19) 1
        handHold := decide (s.readField (at_ + 0x1A) 1 ≠ 0), slogan := if slogan ≤ 31 then slogan else 255
        offset := if offset ≤ 127 then (offset : Int) else (offset : Int) - 256, account := s.readField (at_ + 0x1D) 1 }
    ∃ t, exec (.rate lane edge) s = .next t
      ∧ t = { s with
                mem := s.mem.write (slotAddress lane index) (slotCode .taken)
                takeQueue := if joined then s.takeQueue ++ [{ lane := lane, seq := e.seq }] else s.takeQueue
                lanes := s.lanes.set lane ((s.tracker lane).onEntry e.seq (fun x =>
                  { x with
                    position := .rate, distance := 0, input := some input
                    stage := if joined then .queued else .notFranked
                    cause := if full then some .rateQueueFull else if s.powerWarn then some .powerWarning else x.cause })) })
  ∧ (∀ (lane : Lane) (edge : Edge) (s : State) (e : TrackEntry) (index : Nat), s.Ready → s.Senses lane .rate edge →
    (s.tracker lane).applies .rate = some e → e.stage = .waitRate → e.slot = some index →
    s.slotIs lane index .opened = true →
    exec (.rate lane edge) s = .next
      { s with
        mem := s.mem.write (slotAddress lane index) (slotCode .taken)
        lanes := s.lanes.set lane ((s.tracker lane).onEntry e.seq (fun x =>
          { x with position := .rate, distance := 0, stage := .notFranked, cause := some .lateFill })) })
  ∧ (∀ (lane : Lane) (edge : Edge) (s : State) (e : TrackEntry), s.Ready → s.Senses lane .rate edge →
    (s.tracker lane).applies .rate = some e → e.stage = .notFranked →
    exec (.rate lane edge) s = .next
      { s with
        lanes := s.lanes.set lane ((s.tracker lane).onEntry e.seq (fun x => { x with position := .rate, distance := 0 })) })

/-- R12, R41, R118, R119, R147, R148, R196: a PRINT event on a HELD entry that passes the four dispatch checks debits its hold
in one whole update, with the piece count after it as serial and the calendar day with the postdate offset as imprint day,
makes the piece DISPATCHED, and hands the imprint to the link: an IDLE link starts to send it, and one in a late read keeps it
as the held dispatch. The imprint carries the 24 bytes of its IMPRINT frame, and the slot shows the serial and the imprint day
with their presence bits; the other bits of that word are the part's own copy (log entry 20). -/
def Obligations.PrintDebitsAHeldPiece : Prop :=
  ∀ (lane : Lane) (edge : Edge) (s : State) (e : TrackEntry) (index : Nat) (hold : Hold) (licence : Licence),
    s.Ready → s.Senses lane .print edge → (s.tracker lane).applies .print = some e →
    (s.tracker lane).find e.seq = some e → e.slot = some index → e.stage = .held → s.holdOf lane e.seq = some hold →
    s.items.licence = some licence → (s.tracker lane).config.link = true → (s.link lane).outstanding = none →
    s.items.spoiled.length + s.items.marksPresent < 64 → s.calendar.valid = true →
    let serial := s.items.pieceCount + 1
    let day := min (s.calendar.day + s.calendar.postdate) 65535
    let at_ := slotAddress lane index
    let imprint : Imprint :=
      { seq := e.seq, serial := serial, amount := hold.amount, account := hold.account, day := day
        frame := imprintFrame lane licence hold serial day e }
    ∃ t, exec (.print lane edge .made) s = .next t
      ∧ t.items = { s.items with
          descending := s.items.descending - hold.amount, ascending := s.items.ascending + hold.amount
          pieceCount := serial, lastImprintDay := max s.items.lastImprintDay day
          accounts := onAccount (fun x => { x with usage := x.usage + hold.amount, pieces := x.pieces + 1 })
            s.items.accounts hold.account
          marks := s.items.marks.set lane (some
            { serial := serial, amount := hold.amount, account := hold.account, day := day }) }
      ∧ t.store.check = t.items.checkWord
      ∧ t.holds = s.holds.filter (fun h => !(h.lane == lane && h.seq == e.seq))
      ∧ (t.link lane).outstanding = some imprint
      ∧ (∀ input format offset, e.input = some input → e.format = some format → e.offset = some offset →
          imprint.frame = imprintBytes lane licence serial day hold.amount input.cls format input.slogan offset)
      ∧ ((s.link lane).state = .idle → t.link lane = { s.link lane with outstanding := some imprint, state := .sending })
      ∧ ((s.link lane).state = .reading →
          t.link lane = { s.link lane with outstanding := some imprint, heldDispatch := true })
      ∧ (t.tracker lane).find e.seq = some
          { e with position := .print, distance := 0, stage := .dispatched
                   presence := e.presence ||| 0x0060#16 }
      ∧ t.readField (at_ + 0x02) 2 = (e.presence ||| 0x0060#16).toNat
      ∧ t.readField (at_ + 0x2C) 4 = serial % 256 ^ 4 ∧ t.readField (at_ + 0x30) 2 = day
      ∧ t = { s with mem := t.mem, generation := t.generation, store := t.store, holds := t.holds
                     links := s.links.set lane (t.link lane), lanes := s.lanes.set lane (t.tracker lane) }
      ∧ UnchangedOutside [statusBlock, (at_ + 0x02, 2), (at_ + 0x2C, 6)] s t

/-- R40, R41, R117: at the first dispatch check that fails, the hold of a HELD piece is released, the piece becomes NOT_FRANKED
with the check's cause, and no register changes. A QUEUED or RATING piece becomes RATE_LATE, and a QUEUED one leaves the take
queue. A NOT_FRANKED piece is only recorded as past PRINT. -/
def Obligations.PrintRefusesAPiece : Prop :=
  (∀ (lane : Lane) (edge : Edge) (pace : Pace) (s : State) (e : TrackEntry) (cause : DivertCause),
    s.Ready → s.Senses lane .print edge → (s.tracker lane).applies .print = some e → e.stage = .held →
    let linkOn := (s.tracker lane).config.link
    let free := (s.link lane).outstanding = none
    let room := s.items.spoiled.length + s.items.marksPresent < 64
    (linkOn = false ∧ cause = .linkOff ∨ linkOn = true ∧ ¬free ∧ cause = .linkBusy
      ∨ linkOn = true ∧ free ∧ ¬room ∧ cause = .spoiledListFull
      ∨ linkOn = true ∧ free ∧ room ∧ s.calendar.valid = false ∧ cause = .dateInvalid) →
    ∃ t, exec (.print lane edge pace) s = .next t
      ∧ t = { s with
                mem := t.mem, generation := t.generation
                holds := s.holds.filter (fun h => !(h.lane == lane && h.seq == e.seq))
                lanes := s.lanes.set lane ((s.tracker lane).onEntry e.seq (fun x =>
                  { x with position := .print, distance := 0, stage := .notFranked, cause := some cause })) }
      ∧ UnchangedOutside [statusBlock] s t)
  ∧ (∀ (lane : Lane) (edge : Edge) (pace : Pace) (s : State) (e : TrackEntry),
    s.Ready → s.Senses lane .print edge → (s.tracker lane).applies .print = some e →
    e.stage = .queued ∨ e.stage = .rating →
    exec (.print lane edge pace) s = .next
      { s with
        takeQueue := if e.stage = .queued then s.takeQueue.filter (fun q => !(q.lane == lane && q.seq == e.seq))
          else s.takeQueue
        lanes := s.lanes.set lane ((s.tracker lane).onEntry e.seq (fun x =>
          { x with position := .print, distance := 0, stage := .notFranked, cause := some .rateLate })) })
  ∧ (∀ (lane : Lane) (edge : Edge) (pace : Pace) (s : State) (e : TrackEntry),
    s.Ready → s.Senses lane .print edge → (s.tracker lane).applies .print = some e → e.stage = .notFranked →
    exec (.print lane edge pace) s = .next
      { s with
        lanes := s.lanes.set lane ((s.tracker lane).onEntry e.seq (fun x => { x with position := .print, distance := 0 })) })

/-- R12, R13, R17, R26, R43, R44, R167, R168: the EXIT of a PRINTED, SPOILED or NOT_FRANKED piece with a slot drives the gate,
writes the gate field, ends the entry with its outcome, and stops a DRAINING lane whose queue it empties. A DISPATCHED piece is
diverted to the reject tray and stays, past EXIT, with no outcome. A NOT_FRANKED piece without a slot is diverted and leaves the
queue with no slot write, no cause and no batch count. The slot's words come from the part's own copy of them, bit 8 of the
condition flags word's upper byte among it, and DIVERT is held as what the lane's last EXIT made it: the model's choices (log
entries 20 and 21). -/
def Obligations.ExitEndsAPiece : Prop :=
  (∀ (lane : Lane) (edge : Edge) (s : State) (e : TrackEntry) (index : Nat),
    s.Ready → s.Senses lane .exit edge → (s.tracker lane).applies .exit = some e →
    (s.tracker lane).find e.seq = some e → e.slot = some index →
    e.stage = .printed ∨ e.stage = .spoiled ∨ e.stage = .notFranked ∧ e.cause ≠ none →
    (s.tracker lane).batch.state ≠ .none →
    let outcome : PieceOutcome :=
      if e.stage = .printed then .franked else if e.stage = .spoiled then .spoiled else .diverted
    let cause := if e.stage = .notFranked then e.cause else none
    let at_ := slotAddress lane index
    ∃ t, exec (.exit lane edge) s = .next t
      ∧ s.EndsEntry t lane e index outcome cause (decide (e.stage ≠ .printed))
      ∧ t.readField (at_ + 0x27) 1 = (if e.stage = .printed then gateCode .frankedOutput else gateCode .rejectTray)
      ∧ t.readField (at_ + 0x02) 2 = (e.presence ||| if cause = none then 0x0300#16 else 0x0700#16).toNat
      ∧ t = { s with mem := t.mem, generation := t.generation, notices := t.notices, lanes := s.lanes.set lane (t.tracker lane) }
      ∧ UnchangedOutside ((at_ + 0x27, 1) :: s.endingBytes lane index) s t)
  ∧ (∀ (lane : Lane) (edge : Edge) (s : State) (e : TrackEntry) (index : Nat),
    s.Ready → s.Senses lane .exit edge → (s.tracker lane).applies .exit = some e →
    (s.tracker lane).find e.seq = some e → e.slot = some index → e.stage = .dispatched →
    let at_ := slotAddress lane index
    ∃ t, exec (.exit lane edge) s = .next t ∧ t.readField (at_ + 0x27) 1 = gateCode .rejectTray
      ∧ t.readField (at_ + 0x02) 2 = (e.presence ||| 0x0100#16).toNat
      ∧ t = { s with
                mem := t.mem
                lanes := s.lanes.set lane
                  { (s.tracker lane).onEntry e.seq (fun x =>
                      { x with position := .exit, distance := 0, presence := e.presence ||| 0x0100#16 }) with
                    divert := true } }
      ∧ UnchangedOutside [(at_ + 0x02, 2), (at_ + 0x27, 1)] s t)
  ∧ (∀ (lane : Lane) (edge : Edge) (s : State) (e : TrackEntry),
    s.Ready → s.Senses lane .exit edge → (s.tracker lane).applies .exit = some e →
    (s.tracker lane).find e.seq = some e → e.slot = none → e.stage = .notFranked →
    let r := s.tracker lane
    let rest := r.queue.filter (fun x => x.seq != e.seq)
    ∃ t, exec (.exit lane edge) s = .next t
      ∧ t = { s with
                mem := t.mem, generation := t.generation
                lanes := s.lanes.set lane
                  { r with
                    state := if r.state = .draining ∧ rest = [] then .stopped else r.state, queue := rest, divert := true } }
      ∧ UnchangedOutside [statusBlock] s t)

/-- R30: an encoder count on a RUNNING or DRAINING lane that carries no entry past its segment limit adds one to the distance
of every entry before EXIT, and changes nothing else; on a lane in another state it is ignored. R31, R45, R46: the count that
carries an entry one past its segment limit halts the lane with JAM. The bytes that an ended piece's slot shows come from the part's
own copy of its words (log entry 20). -/
def Obligations.EncoderCountsDistanceOrJams : Prop :=
  (∀ (lane : Lane) (s : State), s.Ready → s.present lane = true →
    ((s.tracker lane).state.tracks = true →
      (∀ e ∈ (s.tracker lane).queue, e.position ≠ .exit → e.distance < (s.tracker lane).config.limit e.position) →
      exec (.encoderCount lane) s = .next
        { s with
          lanes := s.lanes.set lane
            { s.tracker lane with
              queue := (s.tracker lane).queue.map (fun e =>
                if e.position = .exit then e else { e with distance := e.distance + 1 }) } })
    ∧ ((s.tracker lane).state.tracks = false → exec (.encoderCount lane) s = .next s))
  ∧ (∀ (lane : Lane) (s : State) (e : TrackEntry), s.Ready → s.present lane = true →
    (s.tracker lane).state.tracks = true → e ∈ (s.tracker lane).queue → e.position ≠ .exit →
    e.distance = (s.tracker lane).config.limit e.position →
    ∃ t, exec (.encoderCount lane) s = .next t ∧ s.HaltsLane t lane .jam
      ((s.tracker lane).queue.map (fun e => if e.position = .exit then e else { e with distance := e.distance + 1 })))

/-- R25, R26, R27: what a RUN value does in each lane state; one written for an absent lane, and every other pair of state and
value, changes nothing. -/
def Obligations.RunMovesTheLane : Prop :=
  ∀ (lane : Lane) (value : Bool) (s : State), s.Ready →
    let r := s.tracker lane
    let moved := runMoves r.state value s.part r.queue.isEmpty
    (s.present lane = true → ∀ state, moved = some state →
      ∃ t, exec (.run lane value) s = .next t
        ∧ t = { s with mem := t.mem, generation := t.generation
                       lanes := s.lanes.set lane { r with state := state, haltCause := none } }
        ∧ (s.part ≠ .start → t.readField (laneGroup lane) 1 = laneStateCode state)
        ∧ UnchangedOutside [statusBlock] s t)
    ∧ (s.present lane = false ∨ moved = none → exec (.run lane value) s = .next s)

/-! ### The line controller's writes -/

/-- R2, R14, R15, R16: OPEN to FILLED and DONE to FREE are taken: the state byte takes the code and nothing else changes. Every
other write leaves the byte, counts a refusal and raises LANE_IRREGULAR; at a count of 65,535 no byte of the status block changes (R5,
R6). The byte beside it is stored whenever it is written. R3: the state bytes of an absent lane B are plain bytes. -/
def Obligations.SlotStateWriteIsARequest : Prop :=
  (∀ (lane : Lane) (slot : BitVec 5) (code : Byte) (other : Option Byte) (s : State), s.Ready → s.present lane = true →
    (s.slotIs lane slot.toNat .opened = true ∧ code = slotCode .filled
      ∨ s.slotIs lane slot.toNat .done = true ∧ code = slotCode .free) →
    let at_ := slotAddress lane slot.toNat
    ∃ t, exec (.slotStateWrite lane slot code other) s = .next t ∧ t = { s with mem := t.mem }
      ∧ t.readByte at_ = code ∧ (∀ value, other = some value → t.readByte (at_ + 1) = value)
      ∧ UnchangedOutside (if other.isSome then [(at_, 2)] else [(at_, 1)]) s t)
  ∧ (∀ (lane : Lane) (slot : BitVec 5) (code : Byte) (other : Option Byte) (s : State), s.Ready → s.present lane = true →
    ¬ (s.slotIs lane slot.toNat .opened = true ∧ code = slotCode .filled) →
    ¬ (s.slotIs lane slot.toNat .done = true ∧ code = slotCode .free) →
    let at_ := slotAddress lane slot.toNat
    ∃ t, exec (.slotStateWrite lane slot code other) s = .next t
      ∧ t = { s with
                mem := t.mem, generation := t.generation, notices := s.notices.raise .laneIrregular
                lanes := s.lanes.set lane
                  { s.tracker lane with refusals := min ((s.tracker lane).refusals + 1) 65535 } }
      ∧ ((s.tracker lane).refusals = 65535 → other = none → t.mem = s.mem ∧ t.generation = s.generation)
      ∧ t.readByte at_ = s.readByte at_ ∧ (∀ value, other = some value → t.readByte (at_ + 1) = value)
      ∧ UnchangedOutside (statusBlock :: if other.isSome then [(at_ + 1, 1)] else []) s t)
  ∧ (∀ (lane : Lane) (slot : BitVec 5) (code : Byte) (other : Option Byte) (s : State), s.Ready → s.present lane = false →
    let at_ := slotAddress lane slot.toNat
    ∃ t, exec (.slotStateWrite lane slot code other) s = .next t ∧ t = { s with mem := t.mem }
      ∧ t.readByte at_ = code ∧ (∀ value, other = some value → t.readByte (at_ + 1) = value)
      ∧ UnchangedOutside (if other.isSome then [(at_, 2)] else [(at_, 1)]) s t)

/-- R1, R2, R3, R195: a bus write to a word of exchange memory that holds no slot state byte of a present lane stores the
strobed bytes, each where the latched strap puts it, and changes nothing else. R98: in the staging area, while a LOAD RATES is
in progress, it is the same for memory, and the load has by then read some bytes more, in address order, which it keeps as
they were before the write: how many is a free value, never more than the image, and the load reads whole words (the model's
choice: log entry 6). R1, R2, R14: to a word that holds a slot state byte of a present lane, a write that strobes the state
byte is the transition request that SLOT_STATE_WRITE is, with the byte beside it when that is strobed too, and one that
strobes only the byte beside it stores that byte. -/
def Obligations.ExchangeMemoryWriteStores : Prop :=
  (∀ (address value : Half) (strobes : Strobes) (s : State), s.Ready → s.load = none ∨ address.toNat < 0x2000 →
    (Instr.exchangeMemoryWrite address value strobes).wf = true → address.toNat < 0xFFF0 →
    (∀ lane index, managedSlot address.toNat = some (lane, index) → s.present lane = false) →
    let a := address.toNat
    let lowAt := if s.order = .lowFirst then a else a + 1
    let highAt := if s.order = .lowFirst then a + 1 else a
    ∃ t, exec (.exchangeMemoryWrite address value strobes) s = .next t ∧ t = { s with mem := t.mem }
      ∧ t.readByte lowAt = (if strobes.low then value.setWidth 8 else s.readByte lowAt)
      ∧ t.readByte highAt = (if strobes.high then (value >>> 8).setWidth 8 else s.readByte highAt)
      ∧ UnchangedOutside [(a, 2)] s t)
  ∧ (∀ (address value : Half) (strobes : Strobes) (s : State) (load : LoadRecord), s.Ready → s.load = some load →
    (Instr.exchangeMemoryWrite address value strobes).wf = true → 0x2000 ≤ address.toNat → address.toNat < 0xFFF0 →
    let a := address.toNat
    let lowAt := if s.order = .lowFirst then a else a + 1
    let highAt := if s.order = .lowFirst then a + 1 else a
    let length := ofField s.order (s.staged load.copy 4)
    let stop := if length < 24 ∨ 57328 < length then 4 else length
    ∃ t more, exec (.exchangeMemoryWrite address value strobes) s = .next t
      ∧ t = { s with mem := t.mem, freeCount := s.freeCount + 1, load := some { copy := load.copy ++ more } }
      ∧ more = s.readBytes (0x2000 + load.copy.length) more.length
      ∧ (more = [] ∨ (load.copy ++ more).length ≤ stop
          ∧ ((load.copy ++ more).length % 2 = 0 ∨ (load.copy ++ more).length = stop))
      ∧ t.readByte lowAt = (if strobes.low then value.setWidth 8 else s.readByte lowAt)
      ∧ t.readByte highAt = (if strobes.high then (value >>> 8).setWidth 8 else s.readByte highAt)
      ∧ UnchangedOutside [(a, 2)] s t)
  ∧ (∀ (value : Half) (strobes : Strobes) (lane : Lane) (slot : BitVec 5) (s : State), s.Ready → s.present lane = true →
    s.CanonicalMemory → strobes.wf = true →
    let a := slotAddress lane slot.toNat
    let low := if strobes.low then some (value.setWidth 8) else none
    let high := if strobes.high then some ((value >>> 8).setWidth 8) else none
    let request := if s.order = .lowFirst then low else high
    let beside := if s.order = .lowFirst then high else low
    let write := Instr.exchangeMemoryWrite (BitVec.ofNat 16 a) value strobes
    (∀ code, request = some code → exec write s = exec (.slotStateWrite lane slot code beside) s)
      ∧ ∀ other, request = none → beside = some other → ∃ t, exec write s = .next t ∧ t = { s with mem := t.mem }
          ∧ t.readByte (a + 1) = other ∧ UnchangedOutside [(a + 1, 1)] s t)

/-- R185, R188, R189: a write to CAUSE clears exactly the flags of the strobed positions that hold 1; MASK and GROUP take the
strobed bytes, and a GROUP write does not change INT; the same words are written by bus writes at 0xFFF6, 0xFFF8 and 0xFFFA;
IDENT, STATE, VECTOR and the eighth word ignore writes. R25, R179, R186: a write to CONTROL writes the RUN values of both lanes
when its high byte is strobed, and then, when its low byte is strobed and POST is 1, posts the command laid in the command
block, as the command's own row does. What each register reads as. The model's own: a post through CONTROL has its update made at
once (log entry 8) and stands for the command's row (log entry 13), a write with no strobe changes nothing (log entry 14), a read
has no row (log entry 30), and the revision of IDENT is free (log entry 7). -/
def Obligations.RegisterWrites : Prop :=
  (∀ (value : Half) (strobes : Strobes) (s : State), s.Ready →
    ∃ t, exec (.causeWrite value strobes) s = .next t
      ∧ t = { s with notices := { s.notices with cause := t.notices.cause } }
      ∧ (∀ k < 16, t.notices.cause.getLsbD k
          = (s.notices.cause.getLsbD k && !(value.getLsbD k && if k < 8 then strobes.low else strobes.high)))
      ∧ exec (.exchangeMemoryWrite 0xFFF6 value strobes) s = .next t)
  ∧ (∀ (value : Half) (strobes : Strobes) (s : State), s.Ready →
    (∃ t, exec (.maskWrite value strobes) s = .next t
      ∧ t = { s with notices := { s.notices with mask := t.notices.mask } }
      ∧ (∀ k < 16, t.notices.mask.getLsbD k
          = if (if k < 8 then strobes.low else strobes.high) then value.getLsbD k else s.notices.mask.getLsbD k)
      ∧ exec (.exchangeMemoryWrite 0xFFF8 value strobes) s = .next t)
    ∧ ∃ t, exec (.groupWrite value strobes) s = .next t
      ∧ t = { s with notices := { s.notices with group := t.notices.group } } ∧ t.notices.int = s.notices.int
      ∧ (∀ k < 16, t.notices.group.getLsbD k
          = if (if k < 8 then strobes.low else strobes.high) then value.getLsbD k else s.notices.group.getLsbD k)
      ∧ exec (.exchangeMemoryWrite 0xFFFA value strobes) s = .next t)
  ∧ (∀ (register : ReadOnlyRegister) (address value : Half) (strobes : Strobes) (s : State), s.Ready →
    exec (.registerWriteIgnored register value strobes) s = .next s
      ∧ (address = 0xFFF0 ∨ address = 0xFFF2 ∨ address = 0xFFFC ∨ address = 0xFFFE →
          exec (.exchangeMemoryWrite address value strobes) s = .next s))
  ∧ (∀ (value : Half) (low : Bool) (s : State), s.Ready → low = false ∨ value.getLsbD 0 = false →
    exec (.exchangeMemoryWrite 0xFFF4 value ⟨low, false⟩) s = .next s
      ∧ ∃ t, exec (.exchangeMemoryWrite 0xFFF4 value ⟨low, true⟩) s = .next t
        ∧ (∀ lane, let r := s.tracker lane
            let moved := runMoves r.state (value.getLsbD (if lane = .a then 8 else 9)) s.part r.queue.isEmpty
            (s.present lane = true → ∀ state, moved = some state → t.tracker lane = { r with state := state, haltCause := none })
              ∧ (s.present lane = false ∨ moved = none → t.tracker lane = r))
        ∧ t = { s with mem := t.mem, generation := t.generation, lanes := t.lanes } ∧ UnchangedOutside [statusBlock] s t)
  ∧ (∀ (i : Instr) (value : Half) (s : State), s.supply = true → (commandCode i).isSome → i.wf = true →
    value.getLsbD 0 = true →
    exec (.exchangeMemoryWrite 0xFFF4 value ⟨true, false⟩) (s.layCommand i) = exec (madeAtOnce i) s)
  ∧ (∀ (value : Half) (s : State), s.Ready →
    ∃ r t u, exec (.exchangeMemoryWrite 0xFFF4 value ⟨false, true⟩) s = .next r
      ∧ exec (.exchangeMemoryWrite 0xFFF4 value ⟨true, false⟩) r = .next t
      ∧ exec (.exchangeMemoryWrite 0xFFF4 value ⟨true, true⟩) s = .next u
      ∧ u = { t with mem := u.mem, generation := u.generation } ∧ UnchangedOutside [statusBlock] t u)
  ∧ (∀ s : State,
    (∃ revision, 1 ≤ revision ∧ revision < 256 ∧ s.busRead 0xFFF0 = BitVec.ofNat 16 (0x2200 + revision))
      ∧ (∀ k < 16, (s.busRead 0xFFF2).getLsbD k
          = if k < 3 then (partCode s.part).testBit k else if k = 3 then s.command.isSome else if k = 4 then s.powerWarn
            else k == 5 && s.laneCount == .one)
      ∧ (∀ k < 16, (s.busRead 0xFFF4).getLsbD k
          = if k = 0 then s.command.isSome else if k = 8 then (s.tracker .a).state == .running
            else k == 9 && s.present .b && (s.tracker .b).state == .running)
      ∧ s.busRead 0xFFF6 = s.notices.cause ∧ s.busRead 0xFFF8 = s.notices.mask ∧ s.busRead 0xFFFA = s.notices.group
      ∧ s.busRead 0xFFFC = BitVec.ofNat 16 s.notices.vector ∧ s.busRead 0xFFFE = 0)

/-- R189, R190: INT is asserted exactly while flag 0, flag 1 or an unmasked flag is set; VECTOR reads 0x00FF exactly when INT is
deasserted, and otherwise it is the number of a set flag that may interrupt. -/
def Obligations.VectorAgreesWithInt : Prop :=
  ∀ n : Notices,
    (n.int = true ↔ ∃ k < 16, n.cause.getLsbD k = true ∧ (k < 2 ∨ n.mask.getLsbD k = false))
      ∧ (n.vector = 0x00FF ↔ n.int = false)
      ∧ (n.int = true → n.vector < 16 ∧ n.cause.getLsbD n.vector = true
          ∧ (n.vector < 2 ∨ n.mask.getLsbD n.vector = false)
          ∧ ∀ k < 16, n.cause.getLsbD k = true → (k < 2 ∨ n.mask.getLsbD k = false) → k ≠ n.vector →
              n.vector < 2 ∧ n.vector < k
                ∨ 2 ≤ n.vector ∧ 2 ≤ k ∧ n.group.getLsbD n.vector = true ∧ n.group.getLsbD k = false
                ∨ 2 ≤ n.vector ∧ n.group.getLsbD n.vector = n.group.getLsbD k ∧ n.vector < k)

/-! ### The command block -/

/-- R179, R195: the code and arguments that a command lays in the command block are read back as that command, in both byte
orders and with every argument at every value. -/
def Obligations.LaidCommandReadsBack : Prop :=
  ∀ (i : Instr) (s : State), (commandCode i).isSome → i.wf = true → (s.layCommand i).laidCommand = madeAtOnce i

/-- R177, R180, R181, R182, R194: a command that is not taken in the present part state completes with REFUSED_STATE and changes
nothing else; a post while a command is in progress, of any code but RESTART, is ignored with COMMAND_OVERRUN. -/
def Obligations.CommandRefusedOrIgnored : Prop :=
  (∀ (i : Instr) (s : State), s.TakesCommands → takenIn i s.part = false →
    ∃ t, exec i s = .next t ∧ t.Completed .refusedState
      ∧ t = { s with mem := t.mem, notices := s.notices.raise .commandDone }
      ∧ UnchangedOutside [codeAndStatus, argumentsOf 240] s t)
  ∧ (∀ (i : Instr) (s : State), s.Ready → s.command ≠ none → (commandCode i).isSome → i.wf = true → i ≠ .restart →
    ∃ t, exec i s = .next t ∧ t = { s with mem := t.mem, notices := s.notices.raise .commandOverrun }
      ∧ UnchangedOutside [(commandCodeAddress, 2), (argumentAddress, 240)] s t)

/-- R48, R122, R127, R139, R141, R164, R165, R173, R174: a command taken in its part state with an argument out of range, or
naming an absent lane, completes with BAD_ARGUMENT and changes nothing else, and so does a code that names no command, in
every part state (R181). That CONFIGURE LANE in OPERATING looks at the lane's state before the ranges, and answers a code that
names no lane so, is the model's reading (log entry 28). -/
def Obligations.CommandWithABadArgument : Prop :=
  ∀ (i : Instr) (s : State), s.TakesCommands → takenIn i s.part = true →
    (∃ day minute second pace, i = .setDate day minute second pace
        ∧ (1439 < minute.toNat ∨ 59 < second.toNat ∨ day.toNat < s.items.lastImprintDay))
      ∨ (∃ x, i = .configureLane x
          ∧ (s.part = .setup ∨ ∀ lane, laneOfCode x.lane.toNat = some lane → (s.tracker lane).state = .stopped)
          ∧ (1 < x.lane.toNat ∨ x.lane = 1 ∧ s.laneCount = .one ∨ x.entryLimit = 0 ∨ x.rateLimit = 0 ∨ x.printLimit = 0
            ∨ 127 < x.window.toNat ∨ x.timer = 0 ∨ 1 < x.link.toNat))
      ∨ (∃ x pace, i = .installLicence x pace
          ∧ (x.meterId = 0 ∨ x.maximumFunds = 0 ∨ 999999999999 < x.maximumFunds.toNat ∨ x.perPieceCap = 0
            ∨ 999999 < x.perPieceCap.toNat ∨ x.interval = 0 ∨ 365 < x.interval.toNat ∨ x.firstSerial = 0))
      ∨ (∃ x pace, i = .applyVoucher x pace ∧ (x.amount = 0 ∨ 99999999 < x.amount.toNat))
      ∨ (∃ account state pace, i = .setAccount account state pace ∧ (31 < account.toNat ∨ 1 < state.toNat))
      ∨ (∃ threshold pace, i = .setFundsAlert threshold pace ∧ 999999999999 < threshold.toNat)
      ∨ (∃ lane id, i = .openBatch lane id ∧ (1 < lane.toNat ∨ lane = 1 ∧ s.laneCount = .one))
      ∨ (∃ lane, (i = .closeBatch lane ∨ i = .resumeLane lane) ∧ (1 < lane.toNat ∨ lane = 1 ∧ s.laneCount = .one))
      ∨ (∃ offset, i = .setPostdate offset ∧ 7 < offset.toNat)
      ∨ (∃ code, i = .unknownCommand code ∧ i.wf = true) →
    ∃ t, exec i s = .next t ∧ t.Completed .badArgument
      ∧ t = { s with mem := t.mem, notices := s.notices.raise .commandDone }
      ∧ UnchangedOutside [codeAndStatus, argumentsOf 240] s t

/-- R173, R107, R181: SET DATE in SETUP, in range and not before the last imprint day, sets the calendar and makes it valid,
shows it in the status block, evaluates the inspection notice (R129), and makes the switch check once with the new day and
minute: a due switch and its RATE_SWITCH stand from the completion's event. A switch found in its steps leaves the command in
progress and the calendar as it was, until the update record is EMPTY: then the calendar is set, the switch stands and the
command completes as one event (the model's reading: log entry 11). -/
def Obligations.SetDateSetsTheCalendar : Prop :=
  ∀ (day minute : Half) (second : Byte) (pace : Pace) (s : State), s.TakesCommands → s.part = .setup →
    minute.toNat ≤ 1439 → second.toNat ≤ 59 → s.items.lastImprintDay ≤ day.toNat →
    let c : Calendar := { s.calendar with
      day := day.toNat, minute := minute.toNat, second := second.toNat, cycles := 0, valid := true }
    let due := { s with calendar := c }.switchDue
    (due = false ∨ pace = .made →
      ∃ t, exec (.setDate day minute second pace) s = .next t ∧ t.Completed .done
        ∧ t.readField 0x04 2 = day.toNat ∧ t.readField 0x06 2 = minute.toNat ∧ t.readField 0x08 1 = 1
        ∧ s.NoticeEvaluated t c s.items.voucherDay s.items.licence
        ∧ t.notices.flag .rateSwitch = (s.notices.flag .rateSwitch || due)
        ∧ (due = false → t.store = s.store) ∧ (due = true → t.items = s.items.switchBanks ∧ t.store.check = t.items.checkWord)
        ∧ t = { s with mem := t.mem, generation := t.generation, notices := t.notices, notice := t.notice, calendar := c,
                       store := t.store }
        ∧ UnchangedOutside [statusBlock, codeAndStatus, argumentsOf 5] s t)
    ∧ ∀ phase, due = true → pace = .inSteps phase →
        ∃ t, exec (.setDate day minute second pace) s = .next t ∧ t.readField statusAddress 2 = statusCode .inProgress
          ∧ t = { s with
                    mem := t.mem, command := some (.setDate day minute second pace)
                    inStore := some (.setDate day.toNat minute.toNat second.toNat)
                    store := { s.store with record := .inSteps phase (s.items.switchBanks.newValues false) } }
          ∧ UnchangedOutside [codeAndStatus, argumentsOf 5] s t
          ∧ (s.held = [] → s.heldReset = none →
              ∃ u, exec .updateRecordEmpty t = .next u ∧ u.Completed .done ∧ u.calendar = c ∧ u.inStore = none
                ∧ u.items = s.items.switchBanks ∧ u.notices.flag .rateSwitch = true)

/-- R48: CONFIGURE LANE with every item in range, in SETUP or in OPERATING with the lane STOPPED, sets all items together; in
OPERATING with the lane in another state it is REFUSED_STATE. -/
def Obligations.ConfigureLaneSetsEveryItem : Prop :=
  ∀ (x : LaneArguments) (lane : Lane) (s : State), s.TakesCommands → laneOfCode x.lane.toNat = some lane →
    s.present lane = true → s.part = .setup ∨ s.part = .operating →
    let stopped := s.part = .setup ∨ (s.tracker lane).state = .stopped
    (stopped → x.entryLimit ≠ 0 → x.rateLimit ≠ 0 → x.printLimit ≠ 0 → x.window.toNat ≤ 127 → x.timer ≠ 0 →
        x.link.toNat ≤ 1 →
        ∃ t, exec (.configureLane x) s = .next t ∧ t.Completed .done
          ∧ t = { s with
                    mem := t.mem, notices := s.notices.raise .commandDone
                    lanes := s.lanes.set lane
                      { s.tracker lane with
                        config :=
                          { entryEdge := if x.edges.getLsbD 0 then .falling else .rising
                            rateEdge := if x.edges.getLsbD 1 then .falling else .rising
                            printEdge := if x.edges.getLsbD 2 then .falling else .rising
                            exitEdge := if x.edges.getLsbD 3 then .falling else .rising
                            entryLimit := x.entryLimit.toNat, rateLimit := x.rateLimit.toNat
                            printLimit := x.printLimit.toNat, window := x.window.toNat, timer := x.timer.toNat
                            link := x.link == 1 } } }
          ∧ UnchangedOutside [codeAndStatus, argumentsOf 11] s t)
      ∧ (¬ stopped →
          ∃ t, exec (.configureLane x) s = .next t ∧ t.Completed .refusedState
            ∧ t = { s with mem := t.mem, notices := s.notices.raise .commandDone }
            ∧ UnchangedOutside [codeAndStatus, argumentsOf 11] s t)

/-- R174, R178: CLOSE SETUP in SETUP completes with DONE and moves the part to OPERATING; SET POSTDATE in OPERATING with an offset
of 0 to 7 takes it. -/
def Obligations.CloseSetupAndSetPostdate : Prop :=
  (∀ s : State, s.TakesCommands → s.part = .setup →
    ∃ t, exec .closeSetup s = .next t ∧ t.Completed .done ∧ t.readField 0x03 1 = partCode .operating
      ∧ t = { s with mem := t.mem, generation := t.generation, notices := s.notices.raise .commandDone, part := .operating }
      ∧ UnchangedOutside [statusBlock, codeAndStatus] s t)
  ∧ (∀ (offset : Byte) (s : State), s.TakesCommands → s.part = .operating → offset.toNat ≤ 7 →
    ∃ t, exec (.setPostdate offset) s = .next t ∧ t.Completed .done
      ∧ t = { s with mem := t.mem, notices := s.notices.raise .commandDone
                     calendar := { s.calendar with postdate := offset.toNat } }
      ∧ UnchangedOutside [codeAndStatus, argumentsOf 1] s t)

/-- R139, R131: INSTALL LICENCE in LOCKED with every field in range starts the books afresh in one whole update, keeps the banks,
and moves the part to SETUP. -/
def Obligations.InstallLicenceStartsTheBooks : Prop :=
  ∀ (x : LicenceArguments) (s : State), s.TakesCommands → s.part = .locked →
    x.meterId ≠ 0 → x.maximumFunds ≠ 0 → x.maximumFunds.toNat ≤ 999999999999 → x.perPieceCap ≠ 0 →
    x.perPieceCap.toNat ≤ 999999 → x.interval ≠ 0 → x.interval.toNat ≤ 365 → x.firstSerial ≠ 0 →
    ∃ t, exec (.installLicence x (.atOnce .made)) s = .next t ∧ t.Completed .done ∧ t.part = .setup ∧ t.notice = .none
      ∧ t.items =
          { descending := 0, ascending := 0, credit := 0, pieceCount := 0, periodMark := 0
            voucherSerial := x.firstSerial.toNat - 1
            voucherDay := if s.calendar.valid then s.calendar.day else 0
            alert := 0, accounts := List.replicate 32 { isOpen := false, usage := 0, pieces := 0 }
            marks := { a := none, b := none }, spoiled := []
            licence := some
              { meterId := x.meterId.toNat, maximumFunds := x.maximumFunds.toNat, perPieceCap := x.perPieceCap.toNat
                interval := x.interval.toNat, seed := x.seed, firstSerial := x.firstSerial.toNat }
            lastImprintDay := 0, banks := s.items.banks }
      ∧ t.store.check = t.items.checkWord ∧ t.readField 0x03 1 = partCode .setup ∧ t.readField 0x18 6 = 0
      ∧ t = { s with mem := t.mem, generation := t.generation, notices := s.notices.raise .commandDone, part := .setup,
                     notice := .none, store := t.store }
      ∧ UnchangedOutside [statusBlock, codeAndStatus, argumentsOf 24] s t

/-- R97: LOAD RATES is taken and its validation begins when the inactive bank is bound to no rating, and completes with
REFUSED_BUSY when it is: step 0 and every other field of the report absent (that bits 7 to 5 of its presence byte are 0 is the
model's choice: log entry 34). -/
def Obligations.LoadRatesBeginsOrIsBusy : Prop :=
  ∀ s : State, s.TakesCommands → s.part = .setup ∨ s.part = .operating →
    let bound := s.useCounts.get s.items.activeBank.other
    (bound = 0 →
        ∃ t, exec .loadRates s = .next t ∧ t.readField statusAddress 2 = statusCode .inProgress
          ∧ t = { s with mem := t.mem, command := some .loadRates, load := some { copy := [] } }
          ∧ UnchangedOutside [codeAndStatus] s t)
      ∧ (0 < bound →
          ∃ t, exec .loadRates s = .next t ∧ t.Completed .refusedBusy ∧ t.readField loadReportAddress 1 = 0
            ∧ t.readField (loadReportAddress + 1) 1 = 0
            ∧ t = { s with mem := t.mem, notices := s.notices.raise .commandDone }
            ∧ UnchangedOutside [codeAndStatus, loadReportBytes] s t)

/-- R102: a validation that fails completes the load with its status and its load report, and neither bank changes. That bits
7 to 5 of the report's presence byte are 0 is the model's choice (log entry 34). -/
def Obligations.FailedLoadChangesNoBank : Prop :=
  ∀ (pace : Pace) (s : State) (load : LoadRecord) (failure : LoadFailure), s.Ready → s.load = some load →
    s.validateImage load.copy = .error failure →
    ∃ t, exec (.loadRatesCompletion pace) s = .next t ∧ t.Completed failure.status
      ∧ (failure.status = .badArgument ∨ failure.status = .checkFailed)
      ∧ t.readField loadReportAddress 1 = failure.report.step % 256
      ∧ t.readField (loadReportAddress + 1) 1
          = (if failure.report.area.isSome then 1 else 0) + (if failure.report.cls.isSome then 2 else 0)
            + (if failure.report.format.isSome then 4 else 0) + (if failure.report.priceBreak.isSome then 8 else 0)
            + (if failure.report.service.isSome then 16 else 0)
      ∧ (∀ n, failure.report.area = some n → t.readField (loadReportAddress + 2) 2 = n % 256 ^ 2)
      ∧ (∀ n, failure.report.cls = some n → t.readField (loadReportAddress + 4) 1 = n % 256)
      ∧ (∀ n, failure.report.format = some n → t.readField (loadReportAddress + 5) 1 = n % 256)
      ∧ (∀ n, failure.report.priceBreak = some n → t.readField (loadReportAddress + 6) 1 = n % 256)
      ∧ (∀ n, failure.report.service = some n → t.readField (loadReportAddress + 7) 1 = n % 256)
      ∧ t = { s with mem := t.mem, notices := s.notices.raise .commandDone, command := none, load := none }
      ∧ UnchangedOutside [(statusAddress, 2), loadReportBytes] s t

/-- R98 to R101, R195: what a validation finds, on the bytes that the load has read already and the rest of the staging area.
An image length out of range fails step 1, and a check word that differs step 2. An image whose records follow its header
whole fails at the first of the counts (step 3), the breaks (step 4), the ranges (step 5) and the minima (step 6) that is
wrong, in image order within each step, with the record it names; when all are right, the bank holds the table, with the
classes beyond its count not defined. An image with right counts whose records end too soon or go on too long fails step 3
with no record named. That a failed class count names no record is the model's reading (log entry 26), and what a class beyond
the count holds its choice (log entry 4). A flag byte of the image is set at any value but 0, and the last three bytes of the
header are not read. -/
def Obligations.ValidationFindsTheFirstFault : Prop :=
  (∀ (s : State) (copy : List Byte), ofField s.order (s.staged copy 4) < 24 ∨ 57328 < ofField s.order (s.staged copy 4) →
    s.validateImage copy = .error { status := .badArgument, report := LoadReport.bare 1 })
  ∧ (∀ (s : State) (copy : List Byte) (x : RawImage) (header records : List Byte) (check : Nat),
    EncodesHeader s.order x header → s.Stages copy (header ++ records) check → check < 256 ^ 4 →
    check ≠ (crc32 (header ++ records)).toNat →
    s.validateImage copy = .error { status := .checkFailed, report := LoadReport.bare 2 })
  ∧ (∀ (s : State) (copy : List Byte) (x : RawImage) (header records : List Byte), x.Fits →
    EncodesHeader s.order x header → EncodesRecords s.order x records →
    s.Stages copy (header ++ records) (crc32 (header ++ records)).toNat →
    let found := firstFailed (countChecks x ++ breakChecks x ++ rangeChecks x ++ capChecks x)
    (∀ report, found = some report → s.validateImage copy = .error { status := .badArgument, report := report })
      ∧ (found = none → ∃ bank, s.validateImage copy = .ok bank ∧ bank.tableId = x.tableId ∧ bank.effectiveDay = x.day
          ∧ bank.effectiveMinute = x.minute
          ∧ bank.rounding = (if x.rounding = 1 then .up else if x.rounding = 2 then .nearest else .down)
          ∧ bank.cap = x.cap ∧ bank.chart = x.chart ∧ bank.services = x.services ∧ bank.classes.length = 16
          ∧ (∀ (k : Nat) c, x.classes[k]? = some c → bank.classes[k]? = some c)
          ∧ ∀ (k : Nat) c, x.classes.length ≤ k → bank.classes[k]? = some c → c.defined = false))
  ∧ (∀ (s : State) (copy : List Byte) (x : RawImage) (header whole records : List Byte), x.Fits →
    firstFailed (countChecks x) = none → EncodesHeader s.order x header → EncodesRecords s.order x whole →
    (∃ rest, rest ≠ [] ∧ (records ++ rest = whole ∨ records = whole ++ rest)) →
    s.Stages copy (header ++ records) (crc32 (header ++ records)).toNat →
    s.validateImage copy = .error { status := .badArgument, report := LoadReport.bare 3 })

/-- R103, R106: an image that passes is committed whole into the inactive bank, as ACTIVE with the other bank SPARE and
RATE_SWITCH raised when its instant has come, and as PENDING otherwise. With the inactive bank bound by a rating the load
completes with REFUSED_BUSY and neither bank changes. That bits 7 to 5 of the load report's presence byte are 0 is the model's
choice (log entry 34). -/
def Obligations.CommitPutsTheImageInTheInactiveBank : Prop :=
  (∀ (s : State) (load : LoadRecord) (bank : Bank), s.Ready → s.load = some load →
    s.validateImage load.copy = .ok bank → s.useCounts.get s.items.activeBank.other = 0 →
    let target := s.items.activeBank.other
    let now := s.calendar.valid && s.calendar.reached bank.effectiveDay bank.effectiveMinute
    ∃ t, exec (.loadRatesCompletion .made) s = .next t ∧ t.Completed .done ∧ t.readField loadReportAddress 1 = 0
      ∧ t.items = { s.items with banks := t.items.banks }
      ∧ t.items.banks.get target = { bank with role := if now then .active else .pending }
      ∧ t.items.banks.get target.other
          = (if now then { s.items.banks.get target.other with role := .spare } else s.items.banks.get target.other)
      ∧ t.store.check = t.items.checkWord
      ∧ t.notices = (if now then (s.notices.raise .rateSwitch).raise .commandDone else s.notices.raise .commandDone)
      ∧ t = { s with mem := t.mem, generation := t.generation, notices := t.notices, command := none, load := none,
                     store := t.store }
      ∧ UnchangedOutside [statusBlock, (statusAddress, 2), loadReportBytes] s t)
  ∧ (∀ (pace : Pace) (s : State) (load : LoadRecord) (bank : Bank), s.Ready → s.load = some load →
    s.validateImage load.copy = .ok bank → 0 < s.useCounts.get s.items.activeBank.other →
    ∃ t, exec (.loadRatesCompletion pace) s = .next t ∧ t.Completed .refusedBusy ∧ t.readField loadReportAddress 1 = 0
      ∧ t.readField (loadReportAddress + 1) 1 = 0
      ∧ t = { s with mem := t.mem, notices := s.notices.raise .commandDone, command := none, load := none }
      ∧ UnchangedOutside [(statusAddress, 2), loadReportBytes] s t)

/-- R141: APPLY VOUCHER with its amount in range completes at the first of its checks that fails, with that check's status, and
changes nothing else. -/
def Obligations.VoucherRefusedAtItsFirstFailedCheck : Prop :=
  ∀ (x : VoucherArguments) (pace : CommandPace) (licence : Licence) (status : Status) (s : State), s.TakesCommands →
    s.part = .setup ∨ s.part = .operating → s.items.licence = some licence → x.amount ≠ 0 → x.amount.toNat ≤ 99999999 →
    let meter := x.meterId.toNat = licence.meterId
    let word := x.check = crc32
      (highFirstBytes 4 x.meterId.toNat ++ highFirstBytes 4 x.serial.toNat ++ highFirstBytes 4 x.amount.toNat
        ++ highFirstBytes 2 x.issueDay.toNat ++ highFirstBytes 4 licence.seed.toNat)
    let inOrder := x.serial.toNat = s.items.voucherSerial + 1
    let within := s.items.descending + x.amount.toNat ≤ licence.maximumFunds
      ∧ s.items.credit + x.amount.toNat ≤ 999999999999
    (¬ meter ∧ status = .checkFailed ∨ meter ∧ ¬ word ∧ status = .checkFailed
      ∨ meter ∧ word ∧ ¬ inOrder ∧ status = .serialOutOfOrder
      ∨ meter ∧ word ∧ inOrder ∧ ¬ within ∧ status = .limitExceeded) →
    ∃ t, exec (.applyVoucher x pace) s = .next t ∧ t.Completed status
      ∧ t = { s with mem := t.mem, notices := s.notices.raise .commandDone }
      ∧ UnchangedOutside [codeAndStatus, argumentsOf 18] s t

/-- R142: a voucher that passes every check is credited to descending and cumulative credit, its serial and day are recorded,
and the inspection notice becomes NONE. -/
def Obligations.VoucherCredited : Prop :=
  ∀ (x : VoucherArguments) (licence : Licence) (s : State), s.TakesCommands → s.part = .setup ∨ s.part = .operating →
    s.items.licence = some licence → x.amount ≠ 0 → x.amount.toNat ≤ 99999999 → x.meterId.toNat = licence.meterId →
    x.check = crc32 (voucherMessage x licence.seed) → x.serial.toNat = s.items.voucherSerial + 1 →
    s.items.descending + x.amount.toNat ≤ licence.maximumFunds → s.items.credit + x.amount.toNat ≤ 999999999999 →
    ∃ t, exec (.applyVoucher x (.atOnce .made)) s = .next t ∧ t.Completed .done
      ∧ t.items = { s.items with
          descending := s.items.descending + x.amount.toNat, credit := s.items.credit + x.amount.toNat
          voucherSerial := x.serial.toNat
          voucherDay := if s.calendar.valid then s.calendar.day else x.issueDay.toNat }
      ∧ t.store.check = t.items.checkWord ∧ t.readField 0x18 6 = (s.items.descending + x.amount.toNat) % 256 ^ 6
      ∧ t = { s with mem := t.mem, generation := t.generation, notices := s.notices.raise .commandDone, notice := .none,
                     store := t.store }
      ∧ UnchangedOutside [statusBlock, codeAndStatus, argumentsOf 18] s t

/-- R122: SET ACCOUNT in range sets the state of one account, keeps its totals, and changes nothing else of the store. -/
def Obligations.SetAccountSetsOneState : Prop :=
  ∀ (account state : Byte) (s : State), s.TakesCommands → s.part = .setup ∨ s.part = .operating →
    account.toNat < 32 → state.toNat ≤ 1 →
    ∃ t, exec (.setAccount account state (.atOnce .made)) s = .next t ∧ t.Completed .done
      ∧ t.items = { s.items with accounts := t.items.accounts } ∧ t.items.accounts.length = s.items.accounts.length
      ∧ (∀ n x, s.items.accounts[n]? = some x →
          t.items.accounts[n]? = some (if n = account.toNat then { x with isOpen := state == 1 } else x))
      ∧ t.store.check = t.items.checkWord
      ∧ t = { s with mem := t.mem, notices := s.notices.raise .commandDone, store := t.store }
      ∧ UnchangedOutside [codeAndStatus, argumentsOf 2] s t

/-- R127, R128: SET FUNDS ALERT in range sets the threshold, and raises FUNDS_LOW exactly when the available funds are below the
new threshold and were not below the old one. -/
def Obligations.SetFundsAlertSetsTheThreshold : Prop :=
  ∀ (threshold : BitVec 48) (s : State), s.TakesCommands → s.part = .setup ∨ s.part = .operating →
    threshold.toNat ≤ 999999999999 →
    let begins := decide (s.available < threshold.toNat) && !decide (s.available < s.items.alert)
    ∃ t, exec (.setFundsAlert threshold (.atOnce .made)) s = .next t ∧ t.Completed .done
      ∧ t.items = { s.items with alert := threshold.toNat } ∧ t.store.check = t.items.checkWord
      ∧ t = { s with
                mem := t.mem, store := t.store
                notices := (if begins then s.notices.raise .fundsLow else s.notices).raise .commandDone }
      ∧ UnchangedOutside [codeAndStatus, argumentsOf 6] s t

/-- R126, R113, R115: REPORT FUNDS writes the funds report, with the serial, amount, account and imprint day of each
outstanding mark that is present, and changes no register. -/
def Obligations.ReportFundsShowsTheFunds : Prop :=
  ∀ s : State, s.TakesCommands → s.part = .setup ∨ s.part = .operating ∨ s.part = .locked →
    ∃ t, exec .reportFunds s = .next t ∧ t.Completed .done
      ∧ t = { s with mem := t.mem, notices := s.notices.raise .commandDone }
      ∧ t.readField 0x0300 1 = (if s.items.licence.isSome then 1 else 0)
      ∧ (∀ licence, s.items.licence = some licence → t.readField 0x0302 4 = licence.meterId % 256 ^ 4
          ∧ t.readField 0x0306 6 = licence.maximumFunds % 256 ^ 6 ∧ t.readField 0x030C 4 = licence.perPieceCap % 256 ^ 4
          ∧ t.readField 0x0310 2 = licence.interval % 256 ^ 2)
      ∧ t.readField 0x0312 6 = s.items.descending % 256 ^ 6 ∧ t.readField 0x0318 6 = s.items.ascending % 256 ^ 6
      ∧ t.readField 0x031E 6 = s.items.credit % 256 ^ 6 ∧ t.readField 0x0324 4 = s.items.pieceCount % 256 ^ 4
      ∧ t.readField 0x0328 6 = s.items.periodMark % 256 ^ 6
      ∧ t.readField 0x032E 6 = (s.items.descending - (s.holds.map Hold.amount).sum) % 256 ^ 6
      ∧ t.readField 0x0334 2 = s.holds.length % 256 ^ 2 ∧ t.readField 0x0336 4 = (s.holds.map Hold.amount).sum % 256 ^ 4
      ∧ t.readField 0x033A 4 = 4294967295 - s.items.pieceCount - s.holds.length
      ∧ t.readField 0x033E 4 = s.items.voucherSerial % 256 ^ 4 ∧ t.readField 0x0342 2 = s.items.voucherDay % 256 ^ 2
      ∧ (s.calendar.valid = true → t.readField 0x0301 1 = 1
          ∧ t.readField 0x0344 2 = (s.calendar.day - s.items.voucherDay) % 256 ^ 2)
      ∧ (s.calendar.valid = false → t.readField 0x0301 1 = 0)
      ∧ t.readField 0x0346 1 = noticeCode s.notice ∧ t.readField 0x0348 6 = s.items.alert % 256 ^ 6
      ∧ t.readField 0x0347 1
          = (if s.items.descending - (s.holds.map Hold.amount).sum < s.items.alert then 1 else 0)
      ∧ t.ShowsMark 0x034E s.items.marks.a ∧ t.ShowsMark 0x035A s.items.marks.b
      ∧ t.readField 0x0366 2 = s.items.spoiled.length % 256 ^ 2
      ∧ t.readField 0x0368 4 = (s.items.spoiled.map SpoiledEntry.amount).sum % 256 ^ 4
      ∧ UnchangedOutside [codeAndStatus, (0x0300, 128)] s t

/-- R123, R124: READ ACCOUNTS writes an accounts report of kind READ with every account's totals and changes no account. -/
def Obligations.ReadAccountsShowsTheAccounts : Prop :=
  ∀ s : State, s.TakesCommands → s.part = .setup ∨ s.part = .operating → s.items.accounts.length = 32 →
    ∃ t, exec .readAccounts s = .next t ∧ t.Completed .done
      ∧ t = { s with mem := t.mem, notices := s.notices.raise .commandDone } ∧ s.ShowsAccounts t 1
      ∧ UnchangedOutside [codeAndStatus, (0x0380, 348)] s t

/-- R164: OPEN BATCH on a present lane whose batch is NONE opens a new record with the calendar's stamp and every count 0; on one
whose batch is not NONE it is REFUSED_STATE. -/
def Obligations.OpenBatchOpensARecord : Prop :=
  ∀ (code : Byte) (lane : Lane) (id : BitVec 32) (s : State), s.TakesCommands → s.part = .operating →
    laneOfCode code.toNat = some lane → s.present lane = true →
    let none_ := (s.tracker lane).batch.state = .none
    ∃ t, exec (.openBatch code id) s = .next t ∧ UnchangedOutside [codeAndStatus, argumentsOf 8] s t
      ∧ (none_ → t.Completed .done
          ∧ t = { s with
                    mem := t.mem, notices := s.notices.raise .commandDone
                    lanes := s.lanes.set lane
                      { s.tracker lane with
                        batch :=
                          { state := .opened, id := id.toNat
                            opened := { day := s.calendar.day, minute := s.calendar.minute, valid := s.calendar.valid }
                            entered := 0, franked := 0, diverted := 0, spoiled := 0, jammed := 0, postage := 0
                            inFlight := 0, first := none, last := none, overflow := false } } })
      ∧ (¬ none_ → t.Completed .refusedState
          ∧ t = { s with mem := t.mem, notices := s.notices.raise .commandDone })

/-- R165, R168: CLOSE BATCH moves an OPEN batch to CLOSING while pieces are in flight, ends it at once with its summary and
BATCH_DONE when none is, and is REFUSED_STATE for a batch that is not OPEN. -/
def Obligations.CloseBatchClosesOrEnds : Prop :=
  ∀ (code : Byte) (lane : Lane) (s : State), s.TakesCommands → s.part = .operating →
    laneOfCode code.toNat = some lane → s.present lane = true →
    let b := (s.tracker lane).batch
    ∃ t, exec (.closeBatch code) s = .next t
      ∧ (b.state = .opened → 0 < b.inFlight → t.Completed .done
          ∧ t = { s with
                    mem := t.mem, notices := s.notices.raise .commandDone
                    lanes := s.lanes.set lane { s.tracker lane with batch := { b with state := .closing } } }
          ∧ UnchangedOutside [codeAndStatus, argumentsOf 1] s t)
      ∧ (b.state = .opened → b.inFlight = 0 → t.Completed .done
          ∧ t = { s with
                    mem := t.mem, notices := (s.notices.raise .batchDone).raise .commandDone
                    lanes := s.lanes.set lane { s.tracker lane with batch := { b with state := .none } } }
          ∧ t.ShowsSummary lane b { day := s.calendar.day, minute := s.calendar.minute, valid := s.calendar.valid }
          ∧ UnchangedOutside [codeAndStatus, argumentsOf 1, (summaryAddress lane, 64)] s t)
      ∧ (b.state ≠ .opened → t.Completed .refusedState
          ∧ t = { s with mem := t.mem, notices := s.notices.raise .commandDone }
          ∧ UnchangedOutside [codeAndStatus, argumentsOf 1] s t)

/-- R27, R156: RESUME LANE moves a HALTED lane to RUNNING with no halt cause and its link's consecutive fault count 0, and is
REFUSED_STATE for a lane in any other state. -/
def Obligations.ResumeLaneRunsAHaltedLane : Prop :=
  ∀ (code : Byte) (lane : Lane) (s : State), s.TakesCommands → s.part = .operating →
    laneOfCode code.toNat = some lane → s.present lane = true →
    let halted := (s.tracker lane).state = .halted
    ∃ t, exec (.resumeLane code) s = .next t ∧ UnchangedOutside [statusBlock, codeAndStatus, argumentsOf 1] s t
      ∧ (halted → t.Completed .done ∧ t.readField (laneGroup lane) 1 = laneStateCode .running
          ∧ t = { s with
                    mem := t.mem, generation := t.generation, notices := s.notices.raise .commandDone
                    lanes := s.lanes.set lane { s.tracker lane with state := .running, haltCause := none }
                    links := s.links.set lane { s.link lane with faults := 0 } })
      ∧ (¬ halted → t.Completed .refusedState
          ∧ t = { s with mem := t.mem, notices := s.notices.raise .commandDone })

/-- R121, R124, R125: CLOSE PERIOD writes the accounts report of kind CLOSE with every account's values before the close, then
sets every account's totals to 0, keeps the account states, and sets the period mark to the ascending register; the law of the
accounts holds after it. -/
def Obligations.ClosePeriodStartsANewPeriod : Prop :=
  ∀ s : State, s.TakesCommands → s.part = .operating →
    ∃ t, exec (.closePeriod (.atOnce .made)) s = .next t ∧ t.Completed .done
      ∧ t.items = { s.items with accounts := t.items.accounts, periodMark := s.items.ascending }
      ∧ (∀ n : Nat, t.items.accounts[n]? = (s.items.accounts[n]?).map (fun x => { x with usage := 0, pieces := 0 }))
      ∧ (t.items.accounts.map Account.usage).sum = t.items.ascending - t.items.periodMark
      ∧ t.store.check = t.items.checkWord
      ∧ t = { s with mem := t.mem, notices := s.notices.raise .commandDone, store := t.store }
      ∧ (s.items.accounts.length = 32 →
          s.ShowsAccounts t 2 ∧ UnchangedOutside [codeAndStatus, (0x0380, 348)] s t)

/-- R158, R159, R160: CLAIM SPOILED writes the spoiled report with every entry of the list, the claimed ones first, removes
exactly the entries at or below the claim limit, and changes no funds register and no account. That bits 6 to 4 of each
entry's last byte are 0 is the model's choice (log entry 34). -/
def Obligations.ClaimSpoiledRemovesWhatItReports : Prop :=
  ∀ (limit : BitVec 32) (s : State), s.TakesCommands → s.part = .operating → s.items.spoiled.length ≤ 64 →
    ∃ t, exec (.claimSpoiled limit (.atOnce .made)) s = .next t ∧ t.Completed .done
      ∧ t.items = { s.items with spoiled := s.items.spoiled.filter (fun x => limit.toNat < x.serial) }
      ∧ t.store.check = t.items.checkWord ∧ s.ShowsSpoiled t limit.toNat
      ∧ t = { s with mem := t.mem, generation := t.generation, notices := s.notices.raise .commandDone, store := t.store }
      ∧ UnchangedOutside [statusBlock, codeAndStatus, argumentsOf 4, (0x04E0, 780)] s t

/-- R47, R61, R157, R168, R193: PARK with POWER_WARN asserted ends every entry of both lanes, oldest first, its slot DONE with the
outcome and divert cause its stage gives and its batch counting it; it abandons the rating unit's work and lowers the use count of
the bank the rating was bound to, releases every hold, records each outstanding imprint as an UNCONFIRMED spoiled entry, stops the
links and leaves the part PARKED. While PARK's whole update is in its steps a rating completion or a take waits behind it: that
both belong to a block of PARK's is the model's reading (log entry 9). R177, R182, R192, R193: with POWER_WARN deasserted PARK
completes with NOT_POWER_WARNING in every part state; with it asserted PARK posted in START is held, and PARK in PARKED completes
with DONE and changes nothing. The bytes that an ended piece's slot shows come from the part's own copy of its words (log entry
20). -/
def Obligations.ParkEndsEverything : Prop :=
  (∀ s : State, s.TakesCommands → s.powerWarn = true → s.part ≠ .start → s.part ≠ .parked →
    let causes := fun lane => endingCauses lane (s.tracker lane).batch (s.parkEndings lane)
    ∃ t, exec (.park .made) s = .next t ∧ t.Completed .done ∧ t.part = .parked ∧ t.readField 0x03 1 = partCode .parked
      ∧ (∀ lane, (t.tracker lane).state = .stopped ∧ (t.tracker lane).haltCause = none ∧ (t.tracker lane).queue = []
          ∧ (t.tracker lane).beltRun = false ∧ (t.tracker lane).beltStop = false
          ∧ t.link lane = { s.link lane with
              state := .idle, outstanding := none, heldDispatch := false, timer := none, expiryHeld := false, late := none })
      ∧ t.takeQueue = [] ∧ t.rating = none ∧ t.holds = []
      ∧ (s.rating = none → t.useCounts = s.useCounts)
      ∧ (∀ record, s.rating = some record →
          t.useCounts = s.useCounts.set record.bank (s.useCounts.get record.bank - 1))
      ∧ t.items = { s.items with marks := { a := none, b := none }, spoiled := t.items.spoiled }
      ∧ (∀ entry, entry ∈ t.items.spoiled ↔ entry ∈ s.items.spoiled ∨ ∃ lane mark, s.items.marks.get lane = some mark
          ∧ entry = { serial := mark.serial, lane := lane, amount := mark.amount, account := mark.account,
                      day := mark.day, cause := .unconfirmed })
      ∧ s.notices.Raised t.notices (.commandDone :: causes .a ++ causes .b)
      ∧ t = { s with mem := t.mem, generation := t.generation, part := .parked, notices := t.notices, lanes := t.lanes
                     links := t.links, takeQueue := [], rating := none, useCounts := t.useCounts, holds := []
                     store := t.store }
      ∧ ((∀ lane, ∀ x ∈ (s.tracker lane).queue, ∀ index, x.slot = some index → index < 32) →
          UnchangedOutside
              (codeAndStatus :: s.printResultByte .a ++ s.printResultByte .b ++ s.allEndingBytes .a (s.parkEndings .a)
                ++ s.allEndingBytes .b (s.parkEndings .b)) s t
          ∧ ∀ lane, s.EndsAll t lane (s.parkEndings lane) .stopped none
              ∧ ∀ range ∈ s.printResultByte lane, t.readField range.1 1 = printResultCode .unconfirmed))
  ∧ (∀ (phase : Phase) (s : State), s.TakesCommands → s.powerWarn = true → s.part ≠ .start → s.part ≠ .parked →
    s.items.marksPresent ≠ 0 →
    ∃ r, exec (.park (.inSteps phase)) s = .next r ∧ r.inStore = some .park ∧ r.rating = s.rating
      ∧ exec .ratingCompletion r = .next { r with held := r.held ++ [.event .ratingCompletion] }
      ∧ exec .take r = .next { r with held := r.held ++ [.event .take] })
  ∧ (∀ (pace : Pace) (s : State), s.TakesCommands → s.powerWarn = false ∨ s.part = .parked →
    let status := if s.powerWarn then Status.done else .notPowerWarning
    ∃ t, exec (.park pace) s = .next t ∧ t.Completed status
      ∧ t = { s with mem := t.mem, notices := s.notices.raise .commandDone } ∧ UnchangedOutside [codeAndStatus] s t)
  ∧ (∀ (pace : Pace) (s : State), s.TakesCommands → s.powerWarn = true → s.part = .start →
    ∃ t, exec (.park pace) s = .next t ∧ t = { s with mem := t.mem, command := some (.park pace) }
      ∧ t.readField statusAddress 2 = statusCode .inProgress ∧ UnchangedOutside [codeAndStatus] s t)

/-! ### The rating unit and the holds -/

/-- R52, R53, R54: the idle rating unit takes the head of the take queue: the entry becomes RATING, the rating is bound to the
active bank, whose use count rises by one, and the window is read. R66: the working values are created in the rating record; that
every stage but the limit stage is worked there and then is the model's choice (log entry 32). -/
def Obligations.TakeBindsTheHead : Prop :=
  ∀ (s : State) (q : QueueEntry) (rest : List QueueEntry) (e : TrackEntry) (input : InputCopy), s.Ready →
    s.rating = none → s.takeQueue = q :: rest → (s.tracker q.lane).find q.seq = some e → e.input = some input →
    let bank := s.items.activeBank
    exec .take s = .next
      { s with
        takeQueue := rest
        lanes := s.lanes.set q.lane ((s.tracker q.lane).onEntry q.seq (fun x => { x with stage := .rating }))
        useCounts := s.useCounts.set bank (s.useCounts.get bank + 1)
        rating := some
          { lane := q.lane, seq := q.seq, bank := bank, window := (s.tracker q.lane).config.window, input := input
            working := worked (s.items.banks.get bank) input (s.tracker q.lane).config.window } }

/-- R12, R55, R56, R57, R66: a completion whose entry still awaits it ends the computation on the record's working values,
with the licence per-piece cap as it stands, clears the record and lowers the use count. One that prices the piece writes the
result fields into the slot and sends one hold request for the postage and the piece's account; one that refuses it makes it
NOT_FRANKED with the rating's cause, writes the flags and, when the bank holds a table, its id, and sends no hold request. The
result presence word shows what was written. The model's own: only the limit stage is worked at the completion (log entry 32);
the part keeps its own copy of both slot words, and leaves the presence word unwritten when no bit of it is set (log entry
20); bit 9 of the flags word, which is the DONE write's, and bits 15 to 10 are written as 0 (log entries 20 and 34). -/
def Obligations.CompletionPricesOrRefusesAPiece : Prop :=
  (∀ (s : State) (record : RatingRecord) (e : TrackEntry) (index postage format zone weight : Nat), s.Ready →
    s.rating = some record → (s.tracker record.lane).state.tracks = true →
    (s.tracker record.lane).find record.seq = some e → e.seq = record.seq → e.stage = .rating → e.requested = false →
    e.slot = some index →
    let bank := s.items.banks.get record.bank
    let result := record.working.result bank record.input (s.items.licence.map Licence.perPieceCap)
    bank.tableId ≠ 0 → result.rated = .priced postage format zone weight →
    let at_ := slotAddress record.lane index
    ∃ t, exec .ratingCompletion s = .next t
      ∧ t = { s with mem := t.mem, rating := none, lanes := s.lanes.set record.lane (t.tracker record.lane)
                     useCounts := s.useCounts.set record.bank (s.useCounts.get record.bank - 1)
                     requests := s.requests
                       ++ [{ lane := record.lane, seq := e.seq, account := record.input.account, amount := postage }] }
      ∧ (t.tracker record.lane).batch.overflow = ((s.tracker record.lane).batch.overflow || result.flags.overflow)
      ∧ (t.tracker record.lane).find e.seq = some
          { e with offset := result.offset, format := some format, requested := true
                   presence := e.presence ||| 0x001F#16, flags := result.flags.word }
      ∧ t.readField (at_ + 0x02) 2 = (e.presence ||| 0x001F#16).toNat
      ∧ t.readField (at_ + 0x1E) 2 = bank.tableId % 256 ^ 2 ∧ t.readField (at_ + 0x20) 2 = result.flags.word.toNat
      ∧ t.readField (at_ + 0x22) 1 = format % 256 ∧ t.readField (at_ + 0x23) 1 = zone % 256
      ∧ t.readField (at_ + 0x24) 2 = weight % 256 ^ 2 ∧ t.readField (at_ + 0x28) 4 = postage % 256 ^ 4
      ∧ UnchangedOutside [(at_ + 0x02, 2), (at_ + 0x1E, 8), (at_ + 0x28, 4)] s t)
  ∧ (∀ (s : State) (record : RatingRecord) (e : TrackEntry) (cause : DivertCause), s.Ready →
    s.rating = some record → (s.tracker record.lane).state.tracks = true →
    (s.tracker record.lane).find record.seq = some e → e.seq = record.seq → e.stage = .rating → e.requested = false →
    let bank := s.items.banks.get record.bank
    let result := record.working.result bank record.input (s.items.licence.map Licence.perPieceCap)
    result.rated = .refused cause →
    ∃ t, exec .ratingCompletion s = .next t
      ∧ t = { s with mem := t.mem, rating := none, lanes := s.lanes.set record.lane (t.tracker record.lane)
                     useCounts := s.useCounts.set record.bank (s.useCounts.get record.bank - 1) }
      ∧ (e.slot = none → t.mem = s.mem)
      ∧ (∀ index, e.slot = some index →
          t.readField (slotAddress record.lane index + 0x20) 2 = result.flags.word.toNat
            ∧ (bank.tableId ≠ 0 → t.readField (slotAddress record.lane index + 0x1E) 2 = bank.tableId % 256 ^ 2
                ∧ t.readField (slotAddress record.lane index + 0x02) 2 = (e.presence ||| 0x0001#16).toNat)
            ∧ UnchangedOutside [(slotAddress record.lane index + 0x02, 2), (slotAddress record.lane index + 0x1E, 4)] s t
            ∧ (bank.tableId = 0 → UnchangedOutside [(slotAddress record.lane index + 0x20, 2)] s t))
      ∧ (t.tracker record.lane).batch.overflow = ((s.tracker record.lane).batch.overflow || result.flags.overflow)
      ∧ (t.tracker record.lane).find e.seq = some
          { e with stage := .notFranked, cause := some cause, offset := result.offset, flags := result.flags.word
                   presence := if bank.tableId = 0 then e.presence else e.presence ||| 0x0001#16 })

/-- R39, R55, R58, R114: a completion whose lane has stopped tracking, or whose entry is gone or no longer awaits it, changes
nothing but the use count and the unit's own state, and a hold request whose entry is gone or no longer awaits its hold is
void. -/
def Obligations.WorkForAGoneEntryIsDropped : Prop :=
  (∀ (s : State) (record : RatingRecord), s.Ready → s.rating = some record →
    ((s.tracker record.lane).state.tracks = false
      ∨ ∀ e, (s.tracker record.lane).find record.seq = some e → e.stage ≠ .rating ∨ e.requested = true) →
    exec .ratingCompletion s = .next
      { s with rating := none, useCounts := s.useCounts.set record.bank (s.useCounts.get record.bank - 1) })
  ∧ (∀ (s : State) (request : Hold) (rest : List Hold), s.Ready → s.requests = request :: rest →
    (∀ e, (s.tracker request.lane).find request.seq = some e → e.stage ≠ .rating ∨ e.requested = false) →
    exec .holdRequest s = .next { s with requests := rest })

/-- R56, R88: a postage that a rating leaves is within the bound bank's cap, the licence's per-piece cap and the class minimum.
R67 to R89: the stages run in their order and the first refusal ends them, with the flags set up to it: WEIGHT_UNSETTLED,
DIMENSIONS_MISSING, CLASS_UNDEFINED and HAND_HOLD with no flag; then, on the zone, kept services, tier and clamped offset of the
input stage, OUT_OF_FORMAT; on the first format that the piece fits and the chargeable weight, OVER_WEIGHT; on the base price,
SERVICE_NOT_ALLOWED. A piece that none of them refuses has the zoned amount, discount, net amount, total and postage of the
manual's formulas, each amount held at 4,294,967,295 with OVERFLOW. The limit stage refuses OVERFLOW and a postage above the cap
OVER_CAP, and raises a postage below the minimum. The bits of the condition flags word. That the stages before the limits
are worked at the take is the model's choice (log entry 32), and that bits 15 to 9 of the word are 0 is too (log entries 20 and
34). -/
def Obligations.PostageIsWithinItsLimits : Prop :=
  (∀ (bank : Bank) (x : InputCopy) (window : Nat) (cap : Option Nat),
    rate bank x window cap = (worked bank x window).result bank x cap
      ∧ ∀ postage format zone weight, (rate bank x window cap).rated = .priced postage format zone weight →
          postage ≤ bank.cap ∧ (∀ c, cap = some c → postage ≤ c) ∧ 1 ≤ format ∧ (rate bank x window cap).flags.overflow = false
            ∧ ∃ record, bank.classes[x.cls]? = some record ∧ record.defined = true ∧ record.minimum ≤ postage
              ∧ format ≤ record.formats.length)
  ∧ (∀ (bank : Bank) (x : InputCopy) (window : Nat) (cause : DivertCause),
    let settled := x.status = .stable
    let sized := x.length ≠ 0 ∧ x.width ≠ 0 ∧ x.thickness ≠ 0
    let known := ∃ record, bank.Defines x.cls record
    (¬ settled ∧ cause = .weightUnsettled ∨ settled ∧ ¬ sized ∧ cause = .dimensionsMissing
      ∨ settled ∧ sized ∧ ¬ known ∧ cause = .classUndefined
      ∨ settled ∧ sized ∧ known ∧ x.handHold = true ∧ cause = .handHold) →
    let w := worked bank x window
    w.refusal = some cause ∧ w.flags = CondFlags.clear ∧ w.offset = none)
  ∧ (∀ (bank : Bank) (record : ClassRecord) (x : InputCopy) (window : Nat), x.status = .stable → x.length ≠ 0 → x.width ≠ 0 →
    x.thickness ≠ 0 → bank.Defines x.cls record → x.handHold = false →
    let w := worked bank x window
    w.Repaired bank record x window ∧ w.flags.belowMin = false ∧ w.flags.atCap = false ∧ w.flags.aboveCap = false
      ∧ ((∀ f ∈ record.formats, ¬ f.Admits x) →
          w.refusal = some .outOfFormat ∧ w.flags.volumetric = false ∧ w.flags.overflow = false)
      ∧ ∀ number f, record.FirstFit x number f →
          w.format = number ∧ f.Weighs x w.weight w.flags.volumetric
            ∧ (f.extension = none → (∀ b ∈ f.breaks, b.bound < w.weight) →
                w.refusal = some .overWeight ∧ w.flags.overflow = false)
            ∧ ∀ base, f.Prices w.weight base →
                w.base = min base 4294967295
                  ∧ ((∃ k ∈ w.kept, f.services.getLsbD k = false) →
                      w.refusal = some .serviceNotAllowed ∧ (w.flags.overflow = true ↔ 4294967295 < base))
                  ∧ ((∀ k ∈ w.kept, f.services.getLsbD k = true) → ∀ factor, record.zoneFactors[w.zone]? = some factor →
                      w.refusal = none ∧ w.Totals bank factor base))
  ∧ (∀ (w : Working) (bank : Bank) (x : InputCopy) (cap : Option Nat) (cause : DivertCause), w.refusal = some cause →
    w.result bank x cap = { rated := .refused cause, flags := w.flags, offset := w.offset })
  ∧ (∀ (w : Working) (bank : Bank) (record : ClassRecord) (x : InputCopy) (c : Nat), w.refusal = none →
    bank.Defines x.cls record →
    let limit := min bank.cap c
    let raised := max w.postage record.minimum
    let below := decide (w.postage < record.minimum)
    let result := w.result bank x (some c)
    result.offset = w.offset
      ∧ (w.flags.overflow = true →
          result.rated = .refused .overCap ∧ result.flags = { w.flags with aboveCap := true })
      ∧ (w.flags.overflow = false → limit < raised →
          result.rated = .refused .overCap ∧ result.flags = { w.flags with belowMin := below, aboveCap := true })
      ∧ (w.flags.overflow = false → raised ≤ limit →
          result.rated = .priced raised w.format w.zone w.weight
            ∧ result.flags = { w.flags with belowMin := below, atCap := decide (raised = limit) }))
  ∧ ∀ (f : CondFlags) (k : Nat),
      f.word.getLsbD k
        = ([f.belowMin, f.atCap, f.aboveCap, f.overflow, f.zoneDefault, f.serviceDropped, f.tierIgnored, f.offsetClamped,
            f.volumetric][k]?).getD false

/-- R114, R115, R39, R128: a hold request whose entry awaits it passes its checks in order and is placed at the newest end, the
entry becoming HELD, FUNDS_LOW being raised exactly when the low condition begins; at the first check that fails the entry
becomes NOT_FRANKED with its cause, NO_FUNDS raising FUNDS_OUT. -/
def Obligations.HoldRequestPlacedOrRefused : Prop :=
  ∀ (s : State) (request : Hold) (rest : List Hold) (e : TrackEntry), s.Ready → s.requests = request :: rest →
    (s.tracker request.lane).find request.seq = some e → e.stage = .rating → e.requested = true →
    let accountOpen := ∃ x, s.items.accounts[request.account]? = some x ∧ x.isOpen = true
    let inspected := s.calendar.valid = true → ∀ licence, s.items.licence = some licence →
      s.calendar.day - s.items.voucherDay < licence.interval
    let funded := request.amount ≤ s.available ∧ s.items.pieceCount + s.holds.length < 4294967295
    ∃ t, exec .holdRequest s = .next t ∧ UnchangedOutside [statusBlock] s t
      ∧ (accountOpen → inspected → funded →
          t = { s with
                  mem := t.mem, generation := t.generation, requests := rest, holds := s.holds ++ [request]
                  notices :=
                    if s.items.descending - (holdsSum s.holds + request.amount) < s.items.alert ∧ s.items.alert ≤ s.available
                    then s.notices.raise .fundsLow else s.notices
                  lanes := s.lanes.set request.lane ((s.tracker request.lane).onEntry request.seq (fun x =>
                    { x with stage := .held, held := some request.amount })) })
      ∧ ∀ cause,
          (¬ accountOpen ∧ cause = .accountClosed ∨ accountOpen ∧ ¬ inspected ∧ cause = .inspectionDue
            ∨ accountOpen ∧ inspected ∧ ¬ funded ∧ cause = .noFunds) →
          t = { s with
                  requests := rest
                  notices := if cause = .noFunds then s.notices.raise .fundsOut else s.notices
                  lanes := s.lanes.set request.lane ((s.tracker request.lane).onEntry request.seq (fun x =>
                    { x with stage := .notFranked, cause := some cause })) }

/-! ### The imprint links -/

/-- R149: the last bit of the IMPRINT frame makes the link AWAITING with the configured timer; R150: an assertion of ANSWER_READY
starts a read in AWAITING and, with a late serial, in IDLE, and is ignored in every other case. -/
def Obligations.LinkSendsAndReads : Prop :=
  ∀ (lane : Lane) (s : State), s.Ready → s.present lane = true →
    let k := s.link lane
    (k.state = .sending → exec (.frameSent lane) s = .next
        { s with links := s.links.set lane { k with state := .awaiting, timer := some (s.tracker lane).config.timer } })
      ∧ (k.state = .awaiting ∨ k.state = .idle ∧ k.late ≠ none → exec (.answerReady lane) s = .next
          { s with links := s.links.set lane { k with state := .reading } })
      ∧ (k.state = .sending ∨ k.state = .reading ∨ k.state = .idle ∧ k.late = none →
          exec (.answerReady lane) s = .next s)

/-- R42, R151, R152, R153, R156: an ANSWER frame read in an exchange settles it with the station's result when its link check,
kind and serial are right and its result is one of the five, and with BAD_ANSWER when a test fails and the frame is not late.
R154, R155: a frame with a good link check, the ANSWER kind and the late serial in place of the outstanding one is discarded,
and the link awaits its answer again; an expiry held in the read then settles the exchange NO_ANSWER. A late read ends with no
effect but on the link, which becomes IDLE, or SENDING with a dispatch held. The presence and flags words that the piece's
slot shows come from the part's own copy of them (log entry 20). -/
def Obligations.AnswerSettlesOrIsLate : Prop :=
  (∀ (lane : Lane) (frame : BitVec 48) (s : State) (imprint : Imprint), s.Ready →
    s.present lane = true → (s.link lane).state = .reading → (s.link lane).outstanding = some imprint →
    (s.link lane).heldDispatch = false →
    let k := s.link lane
    let good := (crc16 0xFFFF#16 ((answerBytes frame).take 4)).toNat = frame.toNat % 65536 ∧ frame.toNat / 2 ^ 40 = 0x52
    let serial := frame.toNat / 2 ^ 24 % 65536
    let code := frame.toNat / 2 ^ 16 % 256
    let mine := serial = imprint.serial % 65536
    let isLate := ¬ mine ∧ k.late = some (BitVec.ofNat 16 serial)
    (∀ result, good ∧ mine ∧ 1 ≤ code ∧ code ≤ 5 ∧ code = printResultCode result
        ∨ (¬ good ∨ good ∧ ¬ mine ∧ ¬ isLate ∨ good ∧ mine ∧ (code = 0 ∨ 5 < code)) ∧ result = .badAnswer →
        ∃ t, exec (.answer lane frame .made) s = .next t ∧ s.SettlesExchange t lane imprint result k.late)
      ∧ (good → isLate → k.expiryHeld = false → ∀ pace, exec (.answer lane frame pace) s = .next
          { s with links := s.links.set lane { k with late := none, state := .awaiting } })
      ∧ (good → isLate → k.expiryHeld = true → ∃ t, exec (.answer lane frame .made) s = .next t
          ∧ s.SettlesExchange t lane imprint .noAnswer (some (BitVec.ofNat 16 imprint.serial))))
  ∧ (∀ (lane : Lane) (frame : BitVec 48) (pace : Pace) (s : State), s.Ready → s.present lane = true →
    (s.link lane).state = .reading →
    ((s.link lane).outstanding = none → exec (.answer lane frame pace) s = .next
        { s with links := s.links.set lane { s.link lane with late := none, state := .idle } })
      ∧ (∀ imprint, (s.link lane).outstanding = some imprint → (s.link lane).heldDispatch = true →
          exec (.answer lane frame pace) s = .next
            { s with links := s.links.set lane { s.link lane with late := none, heldDispatch := false, state := .sending } }))

/-- R153, R154, R156: the answer timer's expiry in AWAITING settles the exchange NO_ANSWER and records the late serial, and a
third consecutive fault halts a RUNNING or DRAINING lane; in READING the expiry is held. The presence and flags words that the
piece's slot shows come from the part's own copy of them (log entry 20). -/
def Obligations.TimerExpirySpoils : Prop :=
  ∀ (lane : Lane) (s : State) (imprint : Imprint) (time : Nat), s.Ready → s.present lane = true →
    (s.link lane).timer = some time → (s.link lane).outstanding = some imprint →
    ((s.link lane).state = .awaiting → ∃ t, exec (.answerTimerExpiry lane .made) s = .next t
        ∧ s.SettlesExchange t lane imprint .noAnswer (some (BitVec.ofNat 16 imprint.serial)))
    ∧ ∀ pace, (s.link lane).state = .reading → exec (.answerTimerExpiry lane pace) s = .next
        { s with links := s.links.set lane { s.link lane with timer := none, expiryHeld := true } }

/-- R158: a spoiled entry is placed at its serial's place: the list stays in rising order of serial and keeps every entry.
R112, R119, R146, R158: where the laws of the funds hold, every step keeps the spoiled list in strictly rising order of serial,
entries and outstanding marks together at most 64, and, outside START, each lane's mark present exactly while its link has that
imprint outstanding. -/
def Obligations.SpoiledListAndMarksStayLawful : Prop :=
  (∀ (entry : SpoiledEntry) (list : List SpoiledEntry),
    list.Pairwise (fun x y => x.serial < y.serial) → (∀ x ∈ list, x.serial ≠ entry.serial) →
    (placeSpoiled entry list).Pairwise (fun x y => x.serial < y.serial)
      ∧ (placeSpoiled entry list).length = list.length + 1
      ∧ ∀ x, x ∈ placeSpoiled entry list ↔ x = entry ∨ x ∈ list)
  ∧ ∀ s t : State, s.LawfulFunds → s.LawfulImprints → step s = .next t → t.LawfulImprints

/-! ### The calendar -/

/-- R170, R175: the end of a second below 59 counts a second and changes nothing else; the end of second 59 is a minute boundary;
a stopped calendar counts nothing and keeps its counts (the model's reading: log entry 24). R106, R107, R129, R171: a minute
boundary advances minute and day, with day 65,535 the last, shows the calendar in the status block, evaluates the inspection
notice, and switches a due pending bank; between a reset event and the end of START it only counts. That a MINUTE_BOUNDARY ends
the minute whatever second it finds is the model's choice (log entry 19). -/
def Obligations.CalendarCounts : Prop :=
  (∀ (pace : Pace) (s : State), s.Settled →
    (s.calendar.running = true → s.calendar.second < 59 → exec (.calendarSecond pace) s = .next
        { s with calendar := { s.calendar with second := s.calendar.second + 1, cycles := 0 } })
      ∧ (s.calendar.running = true → s.calendar.second = 59 → exec (.calendarSecond pace) s = exec (.minuteBoundary pace) s)
      ∧ (s.calendar.running = false → exec (.calendarSecond pace) s = .next s ∧ exec (.minuteBoundary pace) s = .next s))
  ∧ (∀ s : State, s.Ready → s.calendar.running = true →
    let midnight := 1439 ≤ s.calendar.minute
    let c : Calendar := { s.calendar with
      day := if midnight then min (s.calendar.day + 1) 65535 else s.calendar.day
      minute := if midnight then 0 else s.calendar.minute + 1, second := 0, cycles := 0 }
    let due := { s with calendar := c }.switchDue
    (s.part = .start → exec (.minuteBoundary .made) s = .next { s with calendar := c })
      ∧ (s.part ≠ .start → ∃ t, exec (.minuteBoundary .made) s = .next t ∧ t.calendar = c
          ∧ t.readField 0x04 2 = c.day % 256 ^ 2 ∧ t.readField 0x06 2 = c.minute
          ∧ t.items = (if due then s.items.switchBanks else s.items)
          ∧ s.NoticeEvaluated t c s.items.voucherDay s.items.licence
          ∧ t.notices.flag .rateSwitch = (s.notices.flag .rateSwitch || due)
          ∧ t = { s with mem := t.mem, generation := t.generation, notices := t.notices, notice := t.notice, calendar := c,
                         store := t.store }
          ∧ UnchangedOutside [statusBlock] s t))

end Claims
end

