-- ==== Sys2Proof/Laws/State.lean ====
section
/-! SUPPORT. What each update of the state changes, field by field: for every shared update one lemma that names the fields
it leaves and one for each field it sets. -/

namespace Sys2Proof.Machine

/-! ### Lanes -/

@[simp] theorem PerLane.get_set_same {α : Type} (p : PerLane α) (lane : Lane) (x : α) : (p.set lane x).get lane = x := by
  cases lane <;> rfl

theorem PerLane.get_set_other {α : Type} (p : PerLane α) {lane other : Lane} (x : α) (h : other ≠ lane) :
    (p.set lane x).get other = p.get other := by
  cases lane <;> cases other <;> first | rfl | exact absurd rfl h

@[simp] theorem PerLane.set_get {α : Type} (p : PerLane α) (lane : Lane) : p.set lane (p.get lane) = p := by
  cases lane <;> rfl

@[simp] theorem PerLane.set_set {α : Type} (p : PerLane α) (lane : Lane) (x y : α) :
    (p.set lane x).set lane y = p.set lane y := by
  cases lane <;> rfl

@[simp] theorem PerBank.get_set_same {α : Type} (p : PerBank α) (bank : BankId) (x : α) : (p.set bank x).get bank = x := by
  cases bank <;> rfl

theorem PerBank.get_set_other {α : Type} (p : PerBank α) {bank other : BankId} (x : α) (h : other ≠ bank) :
    (p.set bank x).get other = p.get other := by
  cases bank <;> cases other <;> first | rfl | exact absurd rfl h

/-! ### Updates -/

@[simp] theorem State.writeByte_frame (s : State) (a : Nat) (v : Byte) :
    (s.writeByte a v).supply = s.supply ∧ (s.writeByte a v).powerWarn = s.powerWarn
      ∧ (s.writeByte a v).warnAtReset = s.warnAtReset ∧ (s.writeByte a v).laneCount = s.laneCount
      ∧ (s.writeByte a v).order = s.order ∧ (s.writeByte a v).powerOns = s.powerOns ∧ (s.writeByte a v).part = s.part
      ∧ (s.writeByte a v).resetCause = s.resetCause ∧ (s.writeByte a v).command = s.command
      ∧ (s.writeByte a v).heldReset = s.heldReset ∧ (s.writeByte a v).generation = s.generation
      ∧ (s.writeByte a v).dirty = s.dirty ∧ (s.writeByte a v).notices = s.notices ∧ (s.writeByte a v).lanes = s.lanes
      ∧ (s.writeByte a v).links = s.links ∧ (s.writeByte a v).takeQueue = s.takeQueue
      ∧ (s.writeByte a v).rating = s.rating ∧ (s.writeByte a v).useCounts = s.useCounts
      ∧ (s.writeByte a v).load = s.load ∧ (s.writeByte a v).requests = s.requests ∧ (s.writeByte a v).holds = s.holds
      ∧ (s.writeByte a v).notice = s.notice ∧ (s.writeByte a v).calendar = s.calendar
      ∧ (s.writeByte a v).store = s.store ∧ (s.writeByte a v).inStore = s.inStore
      ∧ (s.writeByte a v).held = s.held ∧ (s.writeByte a v).unbegun = s.unbegun
      ∧ (s.writeByte a v).freeCount = s.freeCount ∧ (s.writeByte a v).pending = s.pending := by
  and_intros <;> rfl

@[simp] theorem State.writeByte_mem (s : State) (a : Nat) (v : Byte) :
    (s.writeByte a v).mem = s.mem.write a v := rfl

@[simp] theorem State.writeFields_frame (s : State) (fs : List Field) :
    (s.writeFields fs).supply = s.supply ∧ (s.writeFields fs).powerWarn = s.powerWarn
      ∧ (s.writeFields fs).warnAtReset = s.warnAtReset ∧ (s.writeFields fs).laneCount = s.laneCount
      ∧ (s.writeFields fs).order = s.order ∧ (s.writeFields fs).powerOns = s.powerOns
      ∧ (s.writeFields fs).part = s.part ∧ (s.writeFields fs).resetCause = s.resetCause
      ∧ (s.writeFields fs).command = s.command ∧ (s.writeFields fs).heldReset = s.heldReset
      ∧ (s.writeFields fs).generation = s.generation ∧ (s.writeFields fs).dirty = s.dirty
      ∧ (s.writeFields fs).notices = s.notices ∧ (s.writeFields fs).lanes = s.lanes
      ∧ (s.writeFields fs).links = s.links ∧ (s.writeFields fs).takeQueue = s.takeQueue
      ∧ (s.writeFields fs).rating = s.rating ∧ (s.writeFields fs).useCounts = s.useCounts
      ∧ (s.writeFields fs).load = s.load ∧ (s.writeFields fs).requests = s.requests
      ∧ (s.writeFields fs).holds = s.holds ∧ (s.writeFields fs).notice = s.notice
      ∧ (s.writeFields fs).calendar = s.calendar ∧ (s.writeFields fs).store = s.store
      ∧ (s.writeFields fs).inStore = s.inStore ∧ (s.writeFields fs).held = s.held
      ∧ (s.writeFields fs).unbegun = s.unbegun
      ∧ (s.writeFields fs).freeCount = s.freeCount ∧ (s.writeFields fs).pending = s.pending := by
  and_intros <;> rfl

@[simp] theorem State.writeFields_mem (s : State) (fs : List Field) :
    (s.writeFields fs).mem = s.mem.writeFields s.order fs := rfl

@[simp] theorem State.setSlot_frame (s : State) (lane : Lane) (index : Nat) (state : SlotState) :
    (s.setSlot lane index state).supply = s.supply ∧ (s.setSlot lane index state).powerWarn = s.powerWarn
      ∧ (s.setSlot lane index state).warnAtReset = s.warnAtReset
      ∧ (s.setSlot lane index state).laneCount = s.laneCount ∧ (s.setSlot lane index state).order = s.order
      ∧ (s.setSlot lane index state).powerOns = s.powerOns ∧ (s.setSlot lane index state).part = s.part
      ∧ (s.setSlot lane index state).resetCause = s.resetCause ∧ (s.setSlot lane index state).command = s.command
      ∧ (s.setSlot lane index state).heldReset = s.heldReset ∧ (s.setSlot lane index state).generation = s.generation
      ∧ (s.setSlot lane index state).dirty = s.dirty ∧ (s.setSlot lane index state).notices = s.notices
      ∧ (s.setSlot lane index state).lanes = s.lanes ∧ (s.setSlot lane index state).links = s.links
      ∧ (s.setSlot lane index state).takeQueue = s.takeQueue ∧ (s.setSlot lane index state).rating = s.rating
      ∧ (s.setSlot lane index state).useCounts = s.useCounts ∧ (s.setSlot lane index state).load = s.load
      ∧ (s.setSlot lane index state).requests = s.requests ∧ (s.setSlot lane index state).holds = s.holds
      ∧ (s.setSlot lane index state).notice = s.notice ∧ (s.setSlot lane index state).calendar = s.calendar
      ∧ (s.setSlot lane index state).store = s.store ∧ (s.setSlot lane index state).inStore = s.inStore
      ∧ (s.setSlot lane index state).held = s.held ∧ (s.setSlot lane index state).unbegun = s.unbegun
      ∧ (s.setSlot lane index state).freeCount = s.freeCount
      ∧ (s.setSlot lane index state).pending = s.pending := by
  and_intros <;> rfl

@[simp] theorem State.setSlot_mem (s : State) (lane : Lane) (index : Nat) (state : SlotState) :
    (s.setSlot lane index state).mem = s.mem.write (slotAddress lane index) (slotCode state) := rfl

@[simp] theorem State.writeStatus_frame (s : State) (status : Status) :
    (s.writeStatus status).supply = s.supply ∧ (s.writeStatus status).powerWarn = s.powerWarn
      ∧ (s.writeStatus status).warnAtReset = s.warnAtReset ∧ (s.writeStatus status).laneCount = s.laneCount
      ∧ (s.writeStatus status).order = s.order ∧ (s.writeStatus status).powerOns = s.powerOns
      ∧ (s.writeStatus status).part = s.part ∧ (s.writeStatus status).resetCause = s.resetCause
      ∧ (s.writeStatus status).command = s.command ∧ (s.writeStatus status).heldReset = s.heldReset
      ∧ (s.writeStatus status).generation = s.generation ∧ (s.writeStatus status).dirty = s.dirty
      ∧ (s.writeStatus status).notices = s.notices ∧ (s.writeStatus status).lanes = s.lanes
      ∧ (s.writeStatus status).links = s.links ∧ (s.writeStatus status).takeQueue = s.takeQueue
      ∧ (s.writeStatus status).rating = s.rating ∧ (s.writeStatus status).useCounts = s.useCounts
      ∧ (s.writeStatus status).load = s.load ∧ (s.writeStatus status).requests = s.requests
      ∧ (s.writeStatus status).holds = s.holds ∧ (s.writeStatus status).notice = s.notice
      ∧ (s.writeStatus status).calendar = s.calendar ∧ (s.writeStatus status).store = s.store
      ∧ (s.writeStatus status).inStore = s.inStore ∧ (s.writeStatus status).held = s.held
      ∧ (s.writeStatus status).unbegun = s.unbegun
      ∧ (s.writeStatus status).freeCount = s.freeCount ∧ (s.writeStatus status).pending = s.pending := by
  and_intros <;> rfl

@[simp] theorem State.writeStatus_mem (s : State) (status : Status) :
    (s.writeStatus status).mem = s.mem.writeFields s.order [⟨statusAddress, 2, statusCode status⟩] := rfl

@[simp] theorem State.writeLoadReport_frame (s : State) (r : LoadReport) :
    (s.writeLoadReport r).supply = s.supply ∧ (s.writeLoadReport r).powerWarn = s.powerWarn
      ∧ (s.writeLoadReport r).warnAtReset = s.warnAtReset ∧ (s.writeLoadReport r).laneCount = s.laneCount
      ∧ (s.writeLoadReport r).order = s.order ∧ (s.writeLoadReport r).powerOns = s.powerOns
      ∧ (s.writeLoadReport r).part = s.part ∧ (s.writeLoadReport r).resetCause = s.resetCause
      ∧ (s.writeLoadReport r).command = s.command ∧ (s.writeLoadReport r).heldReset = s.heldReset
      ∧ (s.writeLoadReport r).generation = s.generation ∧ (s.writeLoadReport r).dirty = s.dirty
      ∧ (s.writeLoadReport r).notices = s.notices ∧ (s.writeLoadReport r).lanes = s.lanes
      ∧ (s.writeLoadReport r).links = s.links ∧ (s.writeLoadReport r).takeQueue = s.takeQueue
      ∧ (s.writeLoadReport r).rating = s.rating ∧ (s.writeLoadReport r).useCounts = s.useCounts
      ∧ (s.writeLoadReport r).load = s.load ∧ (s.writeLoadReport r).requests = s.requests
      ∧ (s.writeLoadReport r).holds = s.holds ∧ (s.writeLoadReport r).notice = s.notice
      ∧ (s.writeLoadReport r).calendar = s.calendar ∧ (s.writeLoadReport r).store = s.store
      ∧ (s.writeLoadReport r).inStore = s.inStore ∧ (s.writeLoadReport r).held = s.held
      ∧ (s.writeLoadReport r).unbegun = s.unbegun
      ∧ (s.writeLoadReport r).freeCount = s.freeCount ∧ (s.writeLoadReport r).pending = s.pending := by
  and_intros <;> rfl

@[simp] theorem State.setTracker_frame (s : State) (lane : Lane) (t : Tracker) :
    (s.setTracker lane t).supply = s.supply ∧ (s.setTracker lane t).powerWarn = s.powerWarn
      ∧ (s.setTracker lane t).warnAtReset = s.warnAtReset ∧ (s.setTracker lane t).laneCount = s.laneCount
      ∧ (s.setTracker lane t).order = s.order ∧ (s.setTracker lane t).powerOns = s.powerOns
      ∧ (s.setTracker lane t).part = s.part ∧ (s.setTracker lane t).resetCause = s.resetCause
      ∧ (s.setTracker lane t).command = s.command ∧ (s.setTracker lane t).heldReset = s.heldReset
      ∧ (s.setTracker lane t).mem = s.mem ∧ (s.setTracker lane t).generation = s.generation
      ∧ (s.setTracker lane t).dirty = s.dirty ∧ (s.setTracker lane t).notices = s.notices
      ∧ (s.setTracker lane t).links = s.links ∧ (s.setTracker lane t).takeQueue = s.takeQueue
      ∧ (s.setTracker lane t).rating = s.rating ∧ (s.setTracker lane t).useCounts = s.useCounts
      ∧ (s.setTracker lane t).load = s.load ∧ (s.setTracker lane t).requests = s.requests
      ∧ (s.setTracker lane t).holds = s.holds ∧ (s.setTracker lane t).notice = s.notice
      ∧ (s.setTracker lane t).calendar = s.calendar ∧ (s.setTracker lane t).store = s.store
      ∧ (s.setTracker lane t).inStore = s.inStore ∧ (s.setTracker lane t).held = s.held
      ∧ (s.setTracker lane t).unbegun = s.unbegun
      ∧ (s.setTracker lane t).freeCount = s.freeCount ∧ (s.setTracker lane t).pending = s.pending := by
  and_intros <;> rfl

@[simp] theorem State.setTracker_lanes (s : State) (lane : Lane) (t : Tracker) :
    (s.setTracker lane t).lanes = s.lanes.set lane t := rfl

@[simp] theorem State.setLink_frame (s : State) (lane : Lane) (k : Link) :
    (s.setLink lane k).supply = s.supply ∧ (s.setLink lane k).powerWarn = s.powerWarn
      ∧ (s.setLink lane k).warnAtReset = s.warnAtReset ∧ (s.setLink lane k).laneCount = s.laneCount
      ∧ (s.setLink lane k).order = s.order ∧ (s.setLink lane k).powerOns = s.powerOns
      ∧ (s.setLink lane k).part = s.part ∧ (s.setLink lane k).resetCause = s.resetCause
      ∧ (s.setLink lane k).command = s.command ∧ (s.setLink lane k).heldReset = s.heldReset
      ∧ (s.setLink lane k).mem = s.mem ∧ (s.setLink lane k).generation = s.generation
      ∧ (s.setLink lane k).dirty = s.dirty ∧ (s.setLink lane k).notices = s.notices
      ∧ (s.setLink lane k).lanes = s.lanes ∧ (s.setLink lane k).takeQueue = s.takeQueue
      ∧ (s.setLink lane k).rating = s.rating ∧ (s.setLink lane k).useCounts = s.useCounts
      ∧ (s.setLink lane k).load = s.load ∧ (s.setLink lane k).requests = s.requests
      ∧ (s.setLink lane k).holds = s.holds ∧ (s.setLink lane k).notice = s.notice
      ∧ (s.setLink lane k).calendar = s.calendar ∧ (s.setLink lane k).store = s.store
      ∧ (s.setLink lane k).inStore = s.inStore ∧ (s.setLink lane k).held = s.held
      ∧ (s.setLink lane k).unbegun = s.unbegun
      ∧ (s.setLink lane k).freeCount = s.freeCount ∧ (s.setLink lane k).pending = s.pending := by
  and_intros <;> rfl

@[simp] theorem State.setLink_links (s : State) (lane : Lane) (k : Link) :
    (s.setLink lane k).links = s.links.set lane k := rfl

@[simp] theorem State.onTracker_frame (s : State) (lane : Lane) (f : Tracker → Tracker) :
    (s.onTracker lane f).supply = s.supply ∧ (s.onTracker lane f).powerWarn = s.powerWarn
      ∧ (s.onTracker lane f).warnAtReset = s.warnAtReset ∧ (s.onTracker lane f).laneCount = s.laneCount
      ∧ (s.onTracker lane f).order = s.order ∧ (s.onTracker lane f).powerOns = s.powerOns
      ∧ (s.onTracker lane f).part = s.part ∧ (s.onTracker lane f).resetCause = s.resetCause
      ∧ (s.onTracker lane f).command = s.command ∧ (s.onTracker lane f).heldReset = s.heldReset
      ∧ (s.onTracker lane f).mem = s.mem ∧ (s.onTracker lane f).generation = s.generation
      ∧ (s.onTracker lane f).dirty = s.dirty ∧ (s.onTracker lane f).notices = s.notices
      ∧ (s.onTracker lane f).links = s.links ∧ (s.onTracker lane f).takeQueue = s.takeQueue
      ∧ (s.onTracker lane f).rating = s.rating ∧ (s.onTracker lane f).useCounts = s.useCounts
      ∧ (s.onTracker lane f).load = s.load ∧ (s.onTracker lane f).requests = s.requests
      ∧ (s.onTracker lane f).holds = s.holds ∧ (s.onTracker lane f).notice = s.notice
      ∧ (s.onTracker lane f).calendar = s.calendar ∧ (s.onTracker lane f).store = s.store
      ∧ (s.onTracker lane f).inStore = s.inStore ∧ (s.onTracker lane f).held = s.held
      ∧ (s.onTracker lane f).unbegun = s.unbegun
      ∧ (s.onTracker lane f).freeCount = s.freeCount ∧ (s.onTracker lane f).pending = s.pending := by
  and_intros <;> rfl

@[simp] theorem State.onTracker_lanes (s : State) (lane : Lane) (f : Tracker → Tracker) :
    (s.onTracker lane f).lanes = s.lanes.set lane (f (s.lanes.get lane)) := rfl

@[simp] theorem State.onLink_frame (s : State) (lane : Lane) (f : Link → Link) :
    (s.onLink lane f).supply = s.supply ∧ (s.onLink lane f).powerWarn = s.powerWarn
      ∧ (s.onLink lane f).warnAtReset = s.warnAtReset ∧ (s.onLink lane f).laneCount = s.laneCount
      ∧ (s.onLink lane f).order = s.order ∧ (s.onLink lane f).powerOns = s.powerOns ∧ (s.onLink lane f).part = s.part
      ∧ (s.onLink lane f).resetCause = s.resetCause ∧ (s.onLink lane f).command = s.command
      ∧ (s.onLink lane f).heldReset = s.heldReset ∧ (s.onLink lane f).mem = s.mem
      ∧ (s.onLink lane f).generation = s.generation ∧ (s.onLink lane f).dirty = s.dirty
      ∧ (s.onLink lane f).notices = s.notices ∧ (s.onLink lane f).lanes = s.lanes
      ∧ (s.onLink lane f).takeQueue = s.takeQueue ∧ (s.onLink lane f).rating = s.rating
      ∧ (s.onLink lane f).useCounts = s.useCounts ∧ (s.onLink lane f).load = s.load
      ∧ (s.onLink lane f).requests = s.requests ∧ (s.onLink lane f).holds = s.holds
      ∧ (s.onLink lane f).notice = s.notice ∧ (s.onLink lane f).calendar = s.calendar
      ∧ (s.onLink lane f).store = s.store ∧ (s.onLink lane f).inStore = s.inStore
      ∧ (s.onLink lane f).held = s.held ∧ (s.onLink lane f).unbegun = s.unbegun
      ∧ (s.onLink lane f).freeCount = s.freeCount ∧ (s.onLink lane f).pending = s.pending := by
  and_intros <;> rfl

@[simp] theorem State.onLink_links (s : State) (lane : Lane) (f : Link → Link) :
    (s.onLink lane f).links = s.links.set lane (f (s.links.get lane)) := rfl

@[simp] theorem State.onEntry_frame (s : State) (lane : Lane) (seq : Nat) (f : TrackEntry → TrackEntry) :
    (s.onEntry lane seq f).supply = s.supply ∧ (s.onEntry lane seq f).powerWarn = s.powerWarn
      ∧ (s.onEntry lane seq f).warnAtReset = s.warnAtReset ∧ (s.onEntry lane seq f).laneCount = s.laneCount
      ∧ (s.onEntry lane seq f).order = s.order ∧ (s.onEntry lane seq f).powerOns = s.powerOns
      ∧ (s.onEntry lane seq f).part = s.part ∧ (s.onEntry lane seq f).resetCause = s.resetCause
      ∧ (s.onEntry lane seq f).command = s.command ∧ (s.onEntry lane seq f).heldReset = s.heldReset
      ∧ (s.onEntry lane seq f).mem = s.mem ∧ (s.onEntry lane seq f).generation = s.generation
      ∧ (s.onEntry lane seq f).dirty = s.dirty ∧ (s.onEntry lane seq f).notices = s.notices
      ∧ (s.onEntry lane seq f).links = s.links ∧ (s.onEntry lane seq f).takeQueue = s.takeQueue
      ∧ (s.onEntry lane seq f).rating = s.rating ∧ (s.onEntry lane seq f).useCounts = s.useCounts
      ∧ (s.onEntry lane seq f).load = s.load ∧ (s.onEntry lane seq f).requests = s.requests
      ∧ (s.onEntry lane seq f).holds = s.holds ∧ (s.onEntry lane seq f).notice = s.notice
      ∧ (s.onEntry lane seq f).calendar = s.calendar ∧ (s.onEntry lane seq f).store = s.store
      ∧ (s.onEntry lane seq f).inStore = s.inStore ∧ (s.onEntry lane seq f).held = s.held
      ∧ (s.onEntry lane seq f).unbegun = s.unbegun
      ∧ (s.onEntry lane seq f).freeCount = s.freeCount ∧ (s.onEntry lane seq f).pending = s.pending := by
  and_intros <;> rfl

@[simp] theorem State.onEntry_lanes (s : State) (lane : Lane) (seq : Nat) (f : TrackEntry → TrackEntry) :
    (s.onEntry lane seq f).lanes = s.lanes.set lane ((s.lanes.get lane).onEntry seq f) := rfl

@[simp] theorem State.raise_frame (s : State) (c : Cause) :
    (s.raise c).supply = s.supply ∧ (s.raise c).powerWarn = s.powerWarn ∧ (s.raise c).warnAtReset = s.warnAtReset
      ∧ (s.raise c).laneCount = s.laneCount ∧ (s.raise c).order = s.order ∧ (s.raise c).powerOns = s.powerOns
      ∧ (s.raise c).part = s.part ∧ (s.raise c).resetCause = s.resetCause ∧ (s.raise c).command = s.command
      ∧ (s.raise c).heldReset = s.heldReset ∧ (s.raise c).mem = s.mem ∧ (s.raise c).generation = s.generation
      ∧ (s.raise c).dirty = s.dirty ∧ (s.raise c).lanes = s.lanes ∧ (s.raise c).links = s.links
      ∧ (s.raise c).takeQueue = s.takeQueue ∧ (s.raise c).rating = s.rating ∧ (s.raise c).useCounts = s.useCounts
      ∧ (s.raise c).load = s.load ∧ (s.raise c).requests = s.requests ∧ (s.raise c).holds = s.holds
      ∧ (s.raise c).notice = s.notice ∧ (s.raise c).calendar = s.calendar ∧ (s.raise c).store = s.store
      ∧ (s.raise c).inStore = s.inStore ∧ (s.raise c).held = s.held ∧ (s.raise c).unbegun = s.unbegun
      ∧ (s.raise c).freeCount = s.freeCount
      ∧ (s.raise c).pending = s.pending := by
  and_intros <;> rfl

@[simp] theorem State.raise_notices (s : State) (c : Cause) :
    (s.raise c).notices = s.notices.raise c := rfl

@[simp] theorem State.touchPart_frame (s : State) :
    (s.touchPart).supply = s.supply ∧ (s.touchPart).powerWarn = s.powerWarn
      ∧ (s.touchPart).warnAtReset = s.warnAtReset ∧ (s.touchPart).laneCount = s.laneCount
      ∧ (s.touchPart).order = s.order ∧ (s.touchPart).powerOns = s.powerOns ∧ (s.touchPart).part = s.part
      ∧ (s.touchPart).resetCause = s.resetCause ∧ (s.touchPart).command = s.command
      ∧ (s.touchPart).heldReset = s.heldReset ∧ (s.touchPart).mem = s.mem ∧ (s.touchPart).generation = s.generation
      ∧ (s.touchPart).notices = s.notices ∧ (s.touchPart).lanes = s.lanes ∧ (s.touchPart).links = s.links
      ∧ (s.touchPart).takeQueue = s.takeQueue ∧ (s.touchPart).rating = s.rating
      ∧ (s.touchPart).useCounts = s.useCounts ∧ (s.touchPart).load = s.load ∧ (s.touchPart).requests = s.requests
      ∧ (s.touchPart).holds = s.holds ∧ (s.touchPart).notice = s.notice ∧ (s.touchPart).calendar = s.calendar
      ∧ (s.touchPart).store = s.store ∧ (s.touchPart).inStore = s.inStore ∧ (s.touchPart).held = s.held
      ∧ (s.touchPart).unbegun = s.unbegun
      ∧ (s.touchPart).freeCount = s.freeCount ∧ (s.touchPart).pending = s.pending := by
  and_intros <;> rfl

@[simp] theorem State.touchPart_dirty (s : State) :
    (s.touchPart).dirty = { s.dirty with part := true } := rfl

@[simp] theorem State.touchCalendar_frame (s : State) :
    (s.touchCalendar).supply = s.supply ∧ (s.touchCalendar).powerWarn = s.powerWarn
      ∧ (s.touchCalendar).warnAtReset = s.warnAtReset ∧ (s.touchCalendar).laneCount = s.laneCount
      ∧ (s.touchCalendar).order = s.order ∧ (s.touchCalendar).powerOns = s.powerOns ∧ (s.touchCalendar).part = s.part
      ∧ (s.touchCalendar).resetCause = s.resetCause ∧ (s.touchCalendar).command = s.command
      ∧ (s.touchCalendar).heldReset = s.heldReset ∧ (s.touchCalendar).mem = s.mem
      ∧ (s.touchCalendar).generation = s.generation ∧ (s.touchCalendar).notices = s.notices
      ∧ (s.touchCalendar).lanes = s.lanes ∧ (s.touchCalendar).links = s.links
      ∧ (s.touchCalendar).takeQueue = s.takeQueue ∧ (s.touchCalendar).rating = s.rating
      ∧ (s.touchCalendar).useCounts = s.useCounts ∧ (s.touchCalendar).load = s.load
      ∧ (s.touchCalendar).requests = s.requests ∧ (s.touchCalendar).holds = s.holds
      ∧ (s.touchCalendar).notice = s.notice ∧ (s.touchCalendar).calendar = s.calendar
      ∧ (s.touchCalendar).store = s.store ∧ (s.touchCalendar).inStore = s.inStore
      ∧ (s.touchCalendar).held = s.held ∧ (s.touchCalendar).unbegun = s.unbegun
      ∧ (s.touchCalendar).freeCount = s.freeCount ∧ (s.touchCalendar).pending = s.pending := by
  and_intros <;> rfl

@[simp] theorem State.touchCalendar_dirty (s : State) :
    (s.touchCalendar).dirty = { s.dirty with calendar := true } := rfl

@[simp] theorem State.touchBanks_frame (s : State) :
    (s.touchBanks).supply = s.supply ∧ (s.touchBanks).powerWarn = s.powerWarn
      ∧ (s.touchBanks).warnAtReset = s.warnAtReset ∧ (s.touchBanks).laneCount = s.laneCount
      ∧ (s.touchBanks).order = s.order ∧ (s.touchBanks).powerOns = s.powerOns ∧ (s.touchBanks).part = s.part
      ∧ (s.touchBanks).resetCause = s.resetCause ∧ (s.touchBanks).command = s.command
      ∧ (s.touchBanks).heldReset = s.heldReset ∧ (s.touchBanks).mem = s.mem ∧ (s.touchBanks).generation = s.generation
      ∧ (s.touchBanks).notices = s.notices ∧ (s.touchBanks).lanes = s.lanes ∧ (s.touchBanks).links = s.links
      ∧ (s.touchBanks).takeQueue = s.takeQueue ∧ (s.touchBanks).rating = s.rating
      ∧ (s.touchBanks).useCounts = s.useCounts ∧ (s.touchBanks).load = s.load ∧ (s.touchBanks).requests = s.requests
      ∧ (s.touchBanks).holds = s.holds ∧ (s.touchBanks).notice = s.notice ∧ (s.touchBanks).calendar = s.calendar
      ∧ (s.touchBanks).store = s.store ∧ (s.touchBanks).inStore = s.inStore ∧ (s.touchBanks).held = s.held
      ∧ (s.touchBanks).unbegun = s.unbegun
      ∧ (s.touchBanks).freeCount = s.freeCount ∧ (s.touchBanks).pending = s.pending := by
  and_intros <;> rfl

@[simp] theorem State.touchBanks_dirty (s : State) :
    (s.touchBanks).dirty = { s.dirty with banks := true } := rfl

@[simp] theorem State.touchFunds_frame (s : State) :
    (s.touchFunds).supply = s.supply ∧ (s.touchFunds).powerWarn = s.powerWarn
      ∧ (s.touchFunds).warnAtReset = s.warnAtReset ∧ (s.touchFunds).laneCount = s.laneCount
      ∧ (s.touchFunds).order = s.order ∧ (s.touchFunds).powerOns = s.powerOns ∧ (s.touchFunds).part = s.part
      ∧ (s.touchFunds).resetCause = s.resetCause ∧ (s.touchFunds).command = s.command
      ∧ (s.touchFunds).heldReset = s.heldReset ∧ (s.touchFunds).mem = s.mem ∧ (s.touchFunds).generation = s.generation
      ∧ (s.touchFunds).notices = s.notices ∧ (s.touchFunds).lanes = s.lanes ∧ (s.touchFunds).links = s.links
      ∧ (s.touchFunds).takeQueue = s.takeQueue ∧ (s.touchFunds).rating = s.rating
      ∧ (s.touchFunds).useCounts = s.useCounts ∧ (s.touchFunds).load = s.load ∧ (s.touchFunds).requests = s.requests
      ∧ (s.touchFunds).holds = s.holds ∧ (s.touchFunds).notice = s.notice ∧ (s.touchFunds).calendar = s.calendar
      ∧ (s.touchFunds).store = s.store ∧ (s.touchFunds).inStore = s.inStore ∧ (s.touchFunds).held = s.held
      ∧ (s.touchFunds).unbegun = s.unbegun
      ∧ (s.touchFunds).freeCount = s.freeCount ∧ (s.touchFunds).pending = s.pending := by
  and_intros <;> rfl

@[simp] theorem State.touchFunds_dirty (s : State) :
    (s.touchFunds).dirty = { s.dirty with funds := true } := rfl

@[simp] theorem State.touchSpoiled_frame (s : State) :
    (s.touchSpoiled).supply = s.supply ∧ (s.touchSpoiled).powerWarn = s.powerWarn
      ∧ (s.touchSpoiled).warnAtReset = s.warnAtReset ∧ (s.touchSpoiled).laneCount = s.laneCount
      ∧ (s.touchSpoiled).order = s.order ∧ (s.touchSpoiled).powerOns = s.powerOns ∧ (s.touchSpoiled).part = s.part
      ∧ (s.touchSpoiled).resetCause = s.resetCause ∧ (s.touchSpoiled).command = s.command
      ∧ (s.touchSpoiled).heldReset = s.heldReset ∧ (s.touchSpoiled).mem = s.mem
      ∧ (s.touchSpoiled).generation = s.generation ∧ (s.touchSpoiled).notices = s.notices
      ∧ (s.touchSpoiled).lanes = s.lanes ∧ (s.touchSpoiled).links = s.links ∧ (s.touchSpoiled).takeQueue = s.takeQueue
      ∧ (s.touchSpoiled).rating = s.rating ∧ (s.touchSpoiled).useCounts = s.useCounts ∧ (s.touchSpoiled).load = s.load
      ∧ (s.touchSpoiled).requests = s.requests ∧ (s.touchSpoiled).holds = s.holds ∧ (s.touchSpoiled).notice = s.notice
      ∧ (s.touchSpoiled).calendar = s.calendar ∧ (s.touchSpoiled).store = s.store
      ∧ (s.touchSpoiled).inStore = s.inStore ∧ (s.touchSpoiled).held = s.held ∧ (s.touchSpoiled).unbegun = s.unbegun
      ∧ (s.touchSpoiled).freeCount = s.freeCount ∧ (s.touchSpoiled).pending = s.pending := by
  and_intros <;> rfl

@[simp] theorem State.touchSpoiled_dirty (s : State) :
    (s.touchSpoiled).dirty = { s.dirty with spoiled := true } := rfl

@[simp] theorem State.setPart_frame (s : State) (part : PartState) :
    (s.setPart part).supply = s.supply ∧ (s.setPart part).powerWarn = s.powerWarn
      ∧ (s.setPart part).warnAtReset = s.warnAtReset ∧ (s.setPart part).laneCount = s.laneCount
      ∧ (s.setPart part).order = s.order ∧ (s.setPart part).powerOns = s.powerOns
      ∧ (s.setPart part).resetCause = s.resetCause ∧ (s.setPart part).command = s.command
      ∧ (s.setPart part).heldReset = s.heldReset ∧ (s.setPart part).mem = s.mem
      ∧ (s.setPart part).generation = s.generation ∧ (s.setPart part).notices = s.notices
      ∧ (s.setPart part).lanes = s.lanes ∧ (s.setPart part).links = s.links ∧ (s.setPart part).takeQueue = s.takeQueue
      ∧ (s.setPart part).rating = s.rating ∧ (s.setPart part).useCounts = s.useCounts ∧ (s.setPart part).load = s.load
      ∧ (s.setPart part).requests = s.requests ∧ (s.setPart part).holds = s.holds ∧ (s.setPart part).notice = s.notice
      ∧ (s.setPart part).calendar = s.calendar ∧ (s.setPart part).store = s.store
      ∧ (s.setPart part).inStore = s.inStore ∧ (s.setPart part).held = s.held ∧ (s.setPart part).unbegun = s.unbegun
      ∧ (s.setPart part).freeCount = s.freeCount ∧ (s.setPart part).pending = s.pending := by
  and_intros <;> rfl

@[simp] theorem State.setPart_part (s : State) (part : PartState) :
    (s.setPart part).part = part := rfl

@[simp] theorem State.setPart_dirty (s : State) (part : PartState) :
    (s.setPart part).dirty = { s.dirty with part := true } := rfl

@[simp] theorem State.complete_frame (s : State) (status : Status) :
    (s.complete status).supply = s.supply ∧ (s.complete status).powerWarn = s.powerWarn
      ∧ (s.complete status).warnAtReset = s.warnAtReset ∧ (s.complete status).laneCount = s.laneCount
      ∧ (s.complete status).order = s.order ∧ (s.complete status).powerOns = s.powerOns
      ∧ (s.complete status).part = s.part ∧ (s.complete status).resetCause = s.resetCause
      ∧ (s.complete status).heldReset = s.heldReset ∧ (s.complete status).generation = s.generation
      ∧ (s.complete status).dirty = s.dirty ∧ (s.complete status).lanes = s.lanes
      ∧ (s.complete status).links = s.links ∧ (s.complete status).takeQueue = s.takeQueue
      ∧ (s.complete status).rating = s.rating ∧ (s.complete status).useCounts = s.useCounts
      ∧ (s.complete status).load = s.load ∧ (s.complete status).requests = s.requests
      ∧ (s.complete status).holds = s.holds ∧ (s.complete status).notice = s.notice
      ∧ (s.complete status).calendar = s.calendar ∧ (s.complete status).store = s.store
      ∧ (s.complete status).inStore = s.inStore ∧ (s.complete status).held = s.held
      ∧ (s.complete status).unbegun = s.unbegun
      ∧ (s.complete status).freeCount = s.freeCount ∧ (s.complete status).pending = s.pending := by
  and_intros <;> rfl

@[simp] theorem State.complete_mem (s : State) (status : Status) :
    (s.complete status).mem = s.mem.writeFields s.order [⟨statusAddress, 2, statusCode status⟩] := rfl

@[simp] theorem State.complete_command (s : State) (status : Status) :
    (s.complete status).command = none := rfl

@[simp] theorem State.complete_notices (s : State) (status : Status) :
    (s.complete status).notices = s.notices.raise .commandDone := rfl

@[simp] theorem State.hold_frame (s : State) (e : HeldEvent) :
    (s.hold e).supply = s.supply ∧ (s.hold e).powerWarn = s.powerWarn ∧ (s.hold e).warnAtReset = s.warnAtReset
      ∧ (s.hold e).laneCount = s.laneCount ∧ (s.hold e).order = s.order ∧ (s.hold e).powerOns = s.powerOns
      ∧ (s.hold e).part = s.part ∧ (s.hold e).resetCause = s.resetCause ∧ (s.hold e).command = s.command
      ∧ (s.hold e).heldReset = s.heldReset ∧ (s.hold e).mem = s.mem ∧ (s.hold e).generation = s.generation
      ∧ (s.hold e).dirty = s.dirty ∧ (s.hold e).notices = s.notices ∧ (s.hold e).lanes = s.lanes
      ∧ (s.hold e).links = s.links ∧ (s.hold e).takeQueue = s.takeQueue ∧ (s.hold e).rating = s.rating
      ∧ (s.hold e).useCounts = s.useCounts ∧ (s.hold e).load = s.load ∧ (s.hold e).requests = s.requests
      ∧ (s.hold e).holds = s.holds ∧ (s.hold e).notice = s.notice ∧ (s.hold e).calendar = s.calendar
      ∧ (s.hold e).store = s.store ∧ (s.hold e).inStore = s.inStore ∧ (s.hold e).unbegun = s.unbegun
      ∧ (s.hold e).freeCount = s.freeCount
      ∧ (s.hold e).pending = s.pending := by
  and_intros <;> rfl

@[simp] theorem State.hold_held (s : State) (e : HeldEvent) :
    (s.hold e).held = s.held ++ [e] := rfl

@[simp] theorem State.place_frame (s : State) (values : NewValues) :
    (s.place values).supply = s.supply ∧ (s.place values).powerWarn = s.powerWarn
      ∧ (s.place values).warnAtReset = s.warnAtReset ∧ (s.place values).laneCount = s.laneCount
      ∧ (s.place values).order = s.order ∧ (s.place values).powerOns = s.powerOns ∧ (s.place values).part = s.part
      ∧ (s.place values).resetCause = s.resetCause ∧ (s.place values).command = s.command
      ∧ (s.place values).heldReset = s.heldReset ∧ (s.place values).mem = s.mem
      ∧ (s.place values).generation = s.generation ∧ (s.place values).dirty = s.dirty
      ∧ (s.place values).notices = s.notices ∧ (s.place values).lanes = s.lanes ∧ (s.place values).links = s.links
      ∧ (s.place values).takeQueue = s.takeQueue ∧ (s.place values).rating = s.rating
      ∧ (s.place values).useCounts = s.useCounts ∧ (s.place values).load = s.load
      ∧ (s.place values).requests = s.requests ∧ (s.place values).holds = s.holds ∧ (s.place values).notice = s.notice
      ∧ (s.place values).calendar = s.calendar ∧ (s.place values).held = s.held ∧ (s.place values).unbegun = s.unbegun
      ∧ (s.place values).freeCount = s.freeCount ∧ (s.place values).pending = s.pending := by
  and_intros <;> rfl

@[simp] theorem State.place_store (s : State) (values : NewValues) :
    (s.place values).store = { items := values.items, latch := s.store.latch || values.setsLatch, check := values.check, record := .empty } := rfl

@[simp] theorem State.place_inStore (s : State) (values : NewValues) :
    (s.place values).inStore = none := rfl

@[simp] theorem State.makeUpdate_frame (s : State) (work : Work) (values : Items) :
    (s.makeUpdate work values).supply = s.supply ∧ (s.makeUpdate work values).powerWarn = s.powerWarn
      ∧ (s.makeUpdate work values).warnAtReset = s.warnAtReset ∧ (s.makeUpdate work values).laneCount = s.laneCount
      ∧ (s.makeUpdate work values).order = s.order ∧ (s.makeUpdate work values).powerOns = s.powerOns
      ∧ (s.makeUpdate work values).part = s.part ∧ (s.makeUpdate work values).resetCause = s.resetCause
      ∧ (s.makeUpdate work values).command = s.command ∧ (s.makeUpdate work values).heldReset = s.heldReset
      ∧ (s.makeUpdate work values).mem = s.mem ∧ (s.makeUpdate work values).generation = s.generation
      ∧ (s.makeUpdate work values).dirty = s.dirty ∧ (s.makeUpdate work values).notices = s.notices
      ∧ (s.makeUpdate work values).lanes = s.lanes ∧ (s.makeUpdate work values).links = s.links
      ∧ (s.makeUpdate work values).takeQueue = s.takeQueue ∧ (s.makeUpdate work values).rating = s.rating
      ∧ (s.makeUpdate work values).useCounts = s.useCounts ∧ (s.makeUpdate work values).load = s.load
      ∧ (s.makeUpdate work values).requests = s.requests ∧ (s.makeUpdate work values).holds = s.holds
      ∧ (s.makeUpdate work values).notice = s.notice ∧ (s.makeUpdate work values).calendar = s.calendar
      ∧ (s.makeUpdate work values).held = s.held ∧ (s.makeUpdate work values).unbegun = s.unbegun
      ∧ (s.makeUpdate work values).freeCount = s.freeCount
      ∧ (s.makeUpdate work values).pending = s.pending := by
  and_intros <;> rfl

@[simp] theorem State.makeUpdate_store (s : State) (work : Work) (values : Items) :
    (s.makeUpdate work values).store = { items := values, latch := s.store.latch || work.setsLatch, check := values.checkWord, record := .empty } := rfl

@[simp] theorem State.makeUpdate_inStore (s : State) (work : Work) (values : Items) :
    (s.makeUpdate work values).inStore = none := rfl

@[simp] theorem State.beginUpdate_frame (s : State) (work : Work) (values : Items) (phase : Phase) :
    (s.beginUpdate work values phase).supply = s.supply ∧ (s.beginUpdate work values phase).powerWarn = s.powerWarn
      ∧ (s.beginUpdate work values phase).warnAtReset = s.warnAtReset
      ∧ (s.beginUpdate work values phase).laneCount = s.laneCount ∧ (s.beginUpdate work values phase).order = s.order
      ∧ (s.beginUpdate work values phase).powerOns = s.powerOns ∧ (s.beginUpdate work values phase).part = s.part
      ∧ (s.beginUpdate work values phase).resetCause = s.resetCause
      ∧ (s.beginUpdate work values phase).command = s.command
      ∧ (s.beginUpdate work values phase).heldReset = s.heldReset ∧ (s.beginUpdate work values phase).mem = s.mem
      ∧ (s.beginUpdate work values phase).generation = s.generation
      ∧ (s.beginUpdate work values phase).dirty = s.dirty ∧ (s.beginUpdate work values phase).notices = s.notices
      ∧ (s.beginUpdate work values phase).lanes = s.lanes ∧ (s.beginUpdate work values phase).links = s.links
      ∧ (s.beginUpdate work values phase).takeQueue = s.takeQueue
      ∧ (s.beginUpdate work values phase).rating = s.rating
      ∧ (s.beginUpdate work values phase).useCounts = s.useCounts ∧ (s.beginUpdate work values phase).load = s.load
      ∧ (s.beginUpdate work values phase).requests = s.requests ∧ (s.beginUpdate work values phase).holds = s.holds
      ∧ (s.beginUpdate work values phase).notice = s.notice ∧ (s.beginUpdate work values phase).calendar = s.calendar
      ∧ (s.beginUpdate work values phase).held = s.held ∧ (s.beginUpdate work values phase).unbegun = s.unbegun
      ∧ (s.beginUpdate work values phase).freeCount = s.freeCount
      ∧ (s.beginUpdate work values phase).pending = s.pending := by
  and_intros <;> rfl

@[simp] theorem State.beginUpdate_store (s : State) (work : Work) (values : Items) (phase : Phase) :
    (s.beginUpdate work values phase).store = { s.store with record := .inSteps phase (values.newValues work.setsLatch) } := rfl

@[simp] theorem State.beginUpdate_inStore (s : State) (work : Work) (values : Items) (phase : Phase) :
    (s.beginUpdate work values phase).inStore = some work := rfl

@[simp] theorem State.releaseHold_frame (s : State) (lane : Lane) (seq : Nat) :
    (s.releaseHold lane seq).supply = s.supply ∧ (s.releaseHold lane seq).powerWarn = s.powerWarn
      ∧ (s.releaseHold lane seq).warnAtReset = s.warnAtReset ∧ (s.releaseHold lane seq).laneCount = s.laneCount
      ∧ (s.releaseHold lane seq).order = s.order ∧ (s.releaseHold lane seq).powerOns = s.powerOns
      ∧ (s.releaseHold lane seq).part = s.part ∧ (s.releaseHold lane seq).resetCause = s.resetCause
      ∧ (s.releaseHold lane seq).command = s.command ∧ (s.releaseHold lane seq).heldReset = s.heldReset
      ∧ (s.releaseHold lane seq).mem = s.mem ∧ (s.releaseHold lane seq).generation = s.generation
      ∧ (s.releaseHold lane seq).notices = s.notices ∧ (s.releaseHold lane seq).lanes = s.lanes
      ∧ (s.releaseHold lane seq).links = s.links ∧ (s.releaseHold lane seq).takeQueue = s.takeQueue
      ∧ (s.releaseHold lane seq).rating = s.rating ∧ (s.releaseHold lane seq).useCounts = s.useCounts
      ∧ (s.releaseHold lane seq).load = s.load ∧ (s.releaseHold lane seq).requests = s.requests
      ∧ (s.releaseHold lane seq).notice = s.notice ∧ (s.releaseHold lane seq).calendar = s.calendar
      ∧ (s.releaseHold lane seq).store = s.store ∧ (s.releaseHold lane seq).inStore = s.inStore
      ∧ (s.releaseHold lane seq).held = s.held ∧ (s.releaseHold lane seq).unbegun = s.unbegun
      ∧ (s.releaseHold lane seq).freeCount = s.freeCount
      ∧ (s.releaseHold lane seq).pending = s.pending := by
  and_intros <;> rfl

@[simp] theorem State.releaseHold_holds (s : State) (lane : Lane) (seq : Nat) :
    (s.releaseHold lane seq).holds = withoutHold s.holds lane seq := rfl

@[simp] theorem State.releaseHold_dirty (s : State) (lane : Lane) (seq : Nat) :
    (s.releaseHold lane seq).dirty = { s.dirty with funds := true } := rfl

@[simp] theorem State.leaveTakeQueue_frame (s : State) (lane : Lane) (seq : Nat) :
    (s.leaveTakeQueue lane seq).supply = s.supply ∧ (s.leaveTakeQueue lane seq).powerWarn = s.powerWarn
      ∧ (s.leaveTakeQueue lane seq).warnAtReset = s.warnAtReset ∧ (s.leaveTakeQueue lane seq).laneCount = s.laneCount
      ∧ (s.leaveTakeQueue lane seq).order = s.order ∧ (s.leaveTakeQueue lane seq).powerOns = s.powerOns
      ∧ (s.leaveTakeQueue lane seq).part = s.part ∧ (s.leaveTakeQueue lane seq).resetCause = s.resetCause
      ∧ (s.leaveTakeQueue lane seq).command = s.command ∧ (s.leaveTakeQueue lane seq).heldReset = s.heldReset
      ∧ (s.leaveTakeQueue lane seq).mem = s.mem ∧ (s.leaveTakeQueue lane seq).generation = s.generation
      ∧ (s.leaveTakeQueue lane seq).dirty = s.dirty ∧ (s.leaveTakeQueue lane seq).notices = s.notices
      ∧ (s.leaveTakeQueue lane seq).lanes = s.lanes ∧ (s.leaveTakeQueue lane seq).links = s.links
      ∧ (s.leaveTakeQueue lane seq).rating = s.rating ∧ (s.leaveTakeQueue lane seq).useCounts = s.useCounts
      ∧ (s.leaveTakeQueue lane seq).load = s.load ∧ (s.leaveTakeQueue lane seq).requests = s.requests
      ∧ (s.leaveTakeQueue lane seq).holds = s.holds ∧ (s.leaveTakeQueue lane seq).notice = s.notice
      ∧ (s.leaveTakeQueue lane seq).calendar = s.calendar ∧ (s.leaveTakeQueue lane seq).store = s.store
      ∧ (s.leaveTakeQueue lane seq).inStore = s.inStore ∧ (s.leaveTakeQueue lane seq).held = s.held
      ∧ (s.leaveTakeQueue lane seq).unbegun = s.unbegun
      ∧ (s.leaveTakeQueue lane seq).freeCount = s.freeCount ∧ (s.leaveTakeQueue lane seq).pending = s.pending := by
  and_intros <;> rfl

@[simp] theorem State.leaveTakeQueue_takeQueue (s : State) (lane : Lane) (seq : Nat) :
    (s.leaveTakeQueue lane seq).takeQueue = s.takeQueue.filter (fun q => !(q.lane == lane && q.seq == seq)) := rfl

@[simp] theorem State.touchLane_frame (s : State) (lane : Lane) :
    (s.touchLane lane).supply = s.supply ∧ (s.touchLane lane).powerWarn = s.powerWarn
      ∧ (s.touchLane lane).warnAtReset = s.warnAtReset ∧ (s.touchLane lane).laneCount = s.laneCount
      ∧ (s.touchLane lane).order = s.order ∧ (s.touchLane lane).powerOns = s.powerOns
      ∧ (s.touchLane lane).part = s.part ∧ (s.touchLane lane).resetCause = s.resetCause
      ∧ (s.touchLane lane).command = s.command ∧ (s.touchLane lane).heldReset = s.heldReset
      ∧ (s.touchLane lane).mem = s.mem ∧ (s.touchLane lane).generation = s.generation
      ∧ (s.touchLane lane).notices = s.notices ∧ (s.touchLane lane).lanes = s.lanes
      ∧ (s.touchLane lane).links = s.links ∧ (s.touchLane lane).takeQueue = s.takeQueue
      ∧ (s.touchLane lane).rating = s.rating ∧ (s.touchLane lane).useCounts = s.useCounts
      ∧ (s.touchLane lane).load = s.load ∧ (s.touchLane lane).requests = s.requests
      ∧ (s.touchLane lane).holds = s.holds ∧ (s.touchLane lane).notice = s.notice
      ∧ (s.touchLane lane).calendar = s.calendar ∧ (s.touchLane lane).store = s.store
      ∧ (s.touchLane lane).inStore = s.inStore ∧ (s.touchLane lane).held = s.held
      ∧ (s.touchLane lane).unbegun = s.unbegun
      ∧ (s.touchLane lane).freeCount = s.freeCount ∧ (s.touchLane lane).pending = s.pending := by
  cases lane <;> and_intros <;> rfl

/-- A lane's tracker changed: nothing but it and its group's mark. -/
@[simp] theorem State.changeLane_frame (s : State) (lane : Lane) (f : Tracker → Tracker) :
    (s.changeLane lane f).supply = s.supply ∧ (s.changeLane lane f).powerWarn = s.powerWarn
      ∧ (s.changeLane lane f).warnAtReset = s.warnAtReset ∧ (s.changeLane lane f).laneCount = s.laneCount
      ∧ (s.changeLane lane f).order = s.order ∧ (s.changeLane lane f).powerOns = s.powerOns
      ∧ (s.changeLane lane f).part = s.part ∧ (s.changeLane lane f).resetCause = s.resetCause
      ∧ (s.changeLane lane f).command = s.command ∧ (s.changeLane lane f).heldReset = s.heldReset
      ∧ (s.changeLane lane f).mem = s.mem ∧ (s.changeLane lane f).generation = s.generation
      ∧ (s.changeLane lane f).notices = s.notices ∧ (s.changeLane lane f).links = s.links
      ∧ (s.changeLane lane f).takeQueue = s.takeQueue ∧ (s.changeLane lane f).rating = s.rating
      ∧ (s.changeLane lane f).useCounts = s.useCounts ∧ (s.changeLane lane f).load = s.load
      ∧ (s.changeLane lane f).requests = s.requests ∧ (s.changeLane lane f).holds = s.holds
      ∧ (s.changeLane lane f).notice = s.notice ∧ (s.changeLane lane f).calendar = s.calendar
      ∧ (s.changeLane lane f).store = s.store ∧ (s.changeLane lane f).inStore = s.inStore
      ∧ (s.changeLane lane f).held = s.held ∧ (s.changeLane lane f).unbegun = s.unbegun
      ∧ (s.changeLane lane f).freeCount = s.freeCount ∧ (s.changeLane lane f).pending = s.pending := by
  unfold State.changeLane; cases lane <;> (split <;> and_intros <;> rfl)

/-- Its group is to be rewritten exactly when a field of the group has changed (R5). -/
theorem State.changeLane_cases (s : State) (lane : Lane) (f : Tracker → Tracker) :
    (laneFields 0 (f (s.tracker lane)) = laneFields 0 (s.tracker lane) ∧ s.changeLane lane f = s.onTracker lane f)
      ∨ (laneFields 0 (f (s.tracker lane)) ≠ laneFields 0 (s.tracker lane)
          ∧ s.changeLane lane f = (s.onTracker lane f).touchLane lane) := by
  unfold State.changeLane
  split
  · exact .inl ⟨‹_›, rfl⟩
  · exact .inr ⟨‹_›, rfl⟩

@[simp] theorem State.layCommand_frame (s : State) (i : Instr) :
    (s.layCommand i).supply = s.supply ∧ (s.layCommand i).powerWarn = s.powerWarn
      ∧ (s.layCommand i).warnAtReset = s.warnAtReset ∧ (s.layCommand i).laneCount = s.laneCount
      ∧ (s.layCommand i).order = s.order ∧ (s.layCommand i).powerOns = s.powerOns ∧ (s.layCommand i).part = s.part
      ∧ (s.layCommand i).resetCause = s.resetCause ∧ (s.layCommand i).command = s.command
      ∧ (s.layCommand i).heldReset = s.heldReset ∧ (s.layCommand i).generation = s.generation
      ∧ (s.layCommand i).dirty = s.dirty ∧ (s.layCommand i).notices = s.notices ∧ (s.layCommand i).lanes = s.lanes
      ∧ (s.layCommand i).links = s.links ∧ (s.layCommand i).takeQueue = s.takeQueue
      ∧ (s.layCommand i).rating = s.rating ∧ (s.layCommand i).useCounts = s.useCounts ∧ (s.layCommand i).load = s.load
      ∧ (s.layCommand i).requests = s.requests ∧ (s.layCommand i).holds = s.holds ∧ (s.layCommand i).notice = s.notice
      ∧ (s.layCommand i).calendar = s.calendar ∧ (s.layCommand i).store = s.store
      ∧ (s.layCommand i).inStore = s.inStore ∧ (s.layCommand i).held = s.held ∧ (s.layCommand i).unbegun = s.unbegun
      ∧ (s.layCommand i).freeCount = s.freeCount ∧ (s.layCommand i).pending = s.pending := by
  unfold State.layCommand; split <;> and_intros <;> rfl

@[simp] theorem State.writeResults_frame (s : State) (lane : Lane) (e : TrackEntry) (fields : Nat → List Field)
    (bits : List Nat) :
    (s.writeResults lane e fields bits).supply = s.supply
      ∧ (s.writeResults lane e fields bits).powerWarn = s.powerWarn
      ∧ (s.writeResults lane e fields bits).warnAtReset = s.warnAtReset
      ∧ (s.writeResults lane e fields bits).laneCount = s.laneCount
      ∧ (s.writeResults lane e fields bits).order = s.order
      ∧ (s.writeResults lane e fields bits).powerOns = s.powerOns
      ∧ (s.writeResults lane e fields bits).part = s.part
      ∧ (s.writeResults lane e fields bits).resetCause = s.resetCause
      ∧ (s.writeResults lane e fields bits).command = s.command
      ∧ (s.writeResults lane e fields bits).heldReset = s.heldReset
      ∧ (s.writeResults lane e fields bits).generation = s.generation
      ∧ (s.writeResults lane e fields bits).dirty = s.dirty
      ∧ (s.writeResults lane e fields bits).notices = s.notices
      ∧ (s.writeResults lane e fields bits).links = s.links
      ∧ (s.writeResults lane e fields bits).takeQueue = s.takeQueue
      ∧ (s.writeResults lane e fields bits).rating = s.rating
      ∧ (s.writeResults lane e fields bits).useCounts = s.useCounts
      ∧ (s.writeResults lane e fields bits).load = s.load
      ∧ (s.writeResults lane e fields bits).requests = s.requests
      ∧ (s.writeResults lane e fields bits).holds = s.holds
      ∧ (s.writeResults lane e fields bits).notice = s.notice
      ∧ (s.writeResults lane e fields bits).calendar = s.calendar
      ∧ (s.writeResults lane e fields bits).store = s.store
      ∧ (s.writeResults lane e fields bits).inStore = s.inStore
      ∧ (s.writeResults lane e fields bits).held = s.held ∧ (s.writeResults lane e fields bits).unbegun = s.unbegun
      ∧ (s.writeResults lane e fields bits).freeCount = s.freeCount
      ∧ (s.writeResults lane e fields bits).pending = s.pending := by
  unfold State.writeResults; dsimp only; split <;> and_intros <;> rfl

@[simp] theorem State.flush_frame (s : State) :
    (s.flush).supply = s.supply ∧ (s.flush).powerWarn = s.powerWarn ∧ (s.flush).warnAtReset = s.warnAtReset
      ∧ (s.flush).laneCount = s.laneCount ∧ (s.flush).order = s.order ∧ (s.flush).powerOns = s.powerOns
      ∧ (s.flush).part = s.part ∧ (s.flush).resetCause = s.resetCause ∧ (s.flush).command = s.command
      ∧ (s.flush).heldReset = s.heldReset ∧ (s.flush).notices = s.notices ∧ (s.flush).lanes = s.lanes
      ∧ (s.flush).links = s.links ∧ (s.flush).takeQueue = s.takeQueue ∧ (s.flush).rating = s.rating
      ∧ (s.flush).useCounts = s.useCounts ∧ (s.flush).load = s.load ∧ (s.flush).requests = s.requests
      ∧ (s.flush).holds = s.holds ∧ (s.flush).notice = s.notice ∧ (s.flush).calendar = s.calendar
      ∧ (s.flush).store = s.store ∧ (s.flush).inStore = s.inStore ∧ (s.flush).held = s.held
      ∧ (s.flush).unbegun = s.unbegun
      ∧ (s.flush).freeCount = s.freeCount ∧ (s.flush).pending = s.pending := by
  unfold State.flush; split_ifs <;> and_intros <;> rfl

/-! ### Reading lanes and links through an update -/

@[simp] theorem tracker_setTracker (s : State) (lane : Lane) (t : Tracker) : (s.setTracker lane t).tracker lane = t := by
  simp [State.tracker]

@[simp] theorem link_setLink (s : State) (lane : Lane) (k : Link) : (s.setLink lane k).link lane = k := by
  simp [State.link]

@[simp] theorem tracker_onTracker (s : State) (lane : Lane) (f : Tracker → Tracker) :
    (s.onTracker lane f).tracker lane = f (s.tracker lane) := by
  simp [State.tracker]

@[simp] theorem link_onLink (s : State) (lane : Lane) (f : Link → Link) : (s.onLink lane f).link lane = f (s.link lane) := by
  simp [State.link]

@[simp] theorem tracker_changeLane (s : State) (lane : Lane) (f : Tracker → Tracker) :
    (s.changeLane lane f).tracker lane = f (s.tracker lane) := by
  unfold State.changeLane
  split <;> cases lane <;> rfl

/-- At the end of a flush every change has been shown. -/
@[simp] theorem flush_dirty (s : State) : s.flush.dirty = Groups.none := by
  unfold State.flush
  split_ifs with h
  · exact h
  · rfl
  · rfl

end Sys2Proof.Machine
end

