-- ==== Sys2Proof/Laws/Events.lean ====
section
/-! SUPPORT. How an event runs: what `exec` and `step` answer, and what taking an event comes to while the retained store is
at rest. -/

namespace Sys2Proof.Machine

/-- With the main supply on, an effect that needs it happens and the status block is rewritten. -/
theorem powered_on (f : State → State) {s : State} (h : s.supply = true) : powered f s = .next (f s).flush := by
  simp [powered, finish, h]

/-- Without the main supply it does nothing. -/
theorem powered_off (f : State → State) {s : State} (h : s.supply = false) : powered f s = .next s := by
  simp [powered, h]

/-- Either way the answer is a next state. -/
theorem powered_next (f : State → State) (s : State) : ∃ t, powered f s = .next t := by
  cases h : s.supply
  · exact ⟨s, powered_off f h⟩
  · exact ⟨_, powered_on f h⟩

/-- No command or event of the OF-220 ends in a fault or a refusal. -/
theorem exec_next (i : Instr) (s : State) : ∃ t, exec i s = .next t := by
  cases i <;>
    simp only [exec, execPowerOnReset, execLineReset, execSupplyLoss, execBatteryLoss, execStart, execEntry, execRate,
      execPrint, execExit, execEncoderCount, execSlotStateWrite, execExchangeMemoryWrite, execRun, execCauseWrite,
      execMaskWrite, execGroupWrite, execRegisterWriteIgnored, execUnknownCommand, execSetDate, execConfigureLane,
      execCloseSetup, execInstallLicence, execLoadRates, execLoadRatesCompletion, execApplyVoucher, execSetAccount,
      execSetFundsAlert, execReportFunds, execReadAccounts, execOpenBatch, execCloseBatch, execResumeLane,
      execSetPostdate, execClosePeriod, execClaimSpoiled, execRestart, execPark, execTake, execRatingCompletion,
      execHoldRequest, execUpdateRecordEmpty, execFrameSent, execAnswerReady, execAnswer, execAnswerTimerExpiry,
      execPowerWarnAssert, execPowerWarnDeassert, execCalendarSecond, execMinuteBoundary]
  all_goals first | exact powered_next _ s | exact ⟨_, rfl⟩

/-- No step does. -/
theorem step_next (s : State) : ∃ t, step s = .next t := by
  unfold step
  split
  · exact ⟨_, rfl⟩
  · exact exec_next _ _

/-- While the store is at rest no event has to wait. -/
theorem State.mustWait_idle {s : State} (h : s.inStore = none) (e : HeldEvent) (asks : Bool) :
    s.mustWait e asks = false := by
  simp [State.mustWait, State.busy, h]

/-- While the store is at rest an event is carried out when it comes. -/
theorem State.takeEvent_idle {s : State} (h : s.inStore = none) (e : HeldEvent) (pace : Pace) (plan : State → Plan) :
    s.takeEvent e pace plan = (plan s).carryOut pace := by
  simp [State.takeEvent, State.mustWait_idle h]

/-- The same of an event that the store may hold. -/
theorem State.occur_idle {s : State} (h : s.inStore = none) (i : Instr) :
    s.occur i = (eventPlan i s).carryOut (paceOf i) := State.takeEvent_idle h _ _ _

/-- With no reset held no command comes too late (R134). -/
theorem State.tooLate_free {s : State} (h : s.heldReset = none) (i : Instr) (asks : Bool) : s.tooLate i asks = false := by
  simp [State.tooLate, h]

/-- With no update in its steps no command comes too late (R134). -/
theorem State.tooLate_idle {s : State} (h : s.inStore = none) (i : Instr) (asks : Bool) : s.tooLate i asks = false := by
  simp [State.tooLate, State.mustWait_idle h]

/-- A command past its checks is left without its update, held for the store, or carried out (R133, R134). -/
theorem State.takeUp_cases (s : State) (i : Instr) :
    s.takeUp i = s.takeWithoutUpdate i ∨ s.takeUp i = s.hold (.event i)
      ∨ s.takeUp i = (commandPlan i s).carryOut (paceOf i) := by
  simp only [State.takeUp, State.takeEvent]
  split
  · exact .inl rfl
  · split
    · exact .inr (.inl rfl)
    · exact .inr (.inr rfl)

/-- With no update in its steps a command past its checks is carried out, unless its update begins later. -/
theorem State.takeUp_idle {s : State} (h : s.inStore = none) {i : Instr} (now : beginsLater i = false) :
    s.takeUp i = (commandPlan i s).carryOut (paceOf i) := by
  simp [State.takeUp, State.tooLate_idle h, State.takeEvent_idle h, now]

/-- With no update in its steps the end of a validation is carried out at once, on the bytes as they were read (R98). -/
theorem State.loadRatesCompletion_idle {s : State} (h : s.inStore = none) (pace : Pace) :
    s.loadRatesCompletion pace = (loadRatesCompletionPlan s.readImage).carryOut pace := by
  have h' : s.readImage.inStore = none := by simp only [State.readImage]; split <;> exact h
  simp only [State.loadRatesCompletion, State.tooLate_idle h', State.occur, State.takeEvent_idle h']
  rfl

/-- A command with no update left to begin begins none. -/
@[simp] theorem State.beginUnbegun_none {s : State} (h : s.unbegun = none) : s.beginUnbegun = s := by
  simp [State.beginUnbegun, h]

/-- What a plan carried out comes to: the state it has, or its whole update made and the rest of its event, or its whole
update in its steps. -/
theorem Plan.carryOut_cases (plan : Plan) (pace : Pace) :
    (∃ s, plan = .done s ∧ plan.carryOut pace = s)
      ∨ ∃ work values s, plan = .update work values s
          ∧ (pace = .made ∧ plan.carryOut pace = (s.makeUpdate work values).after work
            ∨ ∃ phase, pace = .inSteps phase ∧ plan.carryOut pace = s.beginUpdate work values phase) := by
  cases plan with
  | done s => exact .inl ⟨s, rfl, rfl⟩
  | update work values s =>
    cases pace with
    | made => exact .inr ⟨work, values, s, rfl, .inl ⟨rfl, rfl⟩⟩
    | inSteps phase => exact .inr ⟨work, values, s, rfl, .inr ⟨phase, rfl, rfl⟩⟩

/-- A leading edge on a lane that tracks its pieces reaches the tracker. -/
theorem State.sensorPlan_tracked {s : State} {lane : Lane} {photocell : Position} {edge : Edge} (tracked : State → Plan)
    (present : s.present lane = true) (leading : edge = (s.tracker lane).config.edge photocell)
    (tracks : (s.tracker lane).state.tracks = true) : s.sensorPlan lane photocell edge tracked = tracked s := by
  simp [State.sensorPlan, present, leading, tracks]

/-- A leading edge on a present lane that does not track its pieces is a stray. -/
theorem State.sensorPlan_stray {s : State} {lane : Lane} {photocell : Position} {edge : Edge} (tracked : State → Plan)
    (present : s.present lane = true) (leading : edge = (s.tracker lane).config.edge photocell)
    (still : (s.tracker lane).state.tracks = false) :
    s.sensorPlan lane photocell edge tracked = .done (s.stray lane) := by
  simp [State.sensorPlan, present, leading, still]

/-- A refusal ends the stages: the working values stay as they are (R67). -/
theorem Working.through_refused {w : Working} (h : w.refusal.isSome = true) (stages : List (Working → Working)) :
    w.through stages = w := by
  cases stages <;> simp [Working.through, h]

/-- What a refused rating answers, whatever the limit stage would have said (R67). -/
theorem Working.result_refused {w : Working} {cause : DivertCause} (h : w.refusal = some cause) (bank : Bank)
    (x : InputCopy) (cap : Option Nat) : w.result bank x cap = w.refused cause w.flags := by
  simp [Working.result, h]

/-- What SET DATE comes to: a refusal, the switch it brings as its own update, or the calendar set and its completion (R107, R173). -/
theorem setDatePlan_cases (day minute second : Nat) (s : State) :
    setDatePlan day minute second s = s.answerWith .badArgument
      ∨ setDatePlan day minute second s = .update (.setDate day minute second) s.items.switchBanks s
      ∨ setDatePlan day minute second s = .done ((s.setCalendar day minute second).complete .done) := by
  simp only [setDatePlan]
  split
  · exact .inl rfl
  · split
    · exact .inr (.inl rfl)
    · exact .inr (.inr rfl)

/-- The reset memory is in canonical form. -/
theorem powerOnMemory_wf (order : BusOrder) : (powerOnMemory order).wf = true := by
  cases order <;> decide +kernel

end Sys2Proof.Machine
end

