-- ==== Sys2Proof/Laws/Memory.lean ====
section
/-! SUPPORT. Reads, writes and the canonical form of exchange memory, and numbers as bytes. -/

namespace Sys2Proof.Machine

/-! ### One byte -/

theorem Memory.read_write_same (m : Memory) (a : Nat) (v : Byte) : (m.write a v).read a = some v := by
  induction m with
  | nil => simp [Memory.write, Memory.read]
  | cons cell rest ih =>
    obtain ⟨b, x⟩ := cell
    simp only [Memory.write]
    split
    · simp [Memory.read]
    · split
      · simp [Memory.read]
      · have hne : ¬ b = a := by omega
        have hlt : ¬ a < b := by omega
        simp [Memory.read, hne, hlt, ih]

theorem Memory.read_write_other (m : Memory) (a b : Nat) (v : Byte) (h : b ≠ a) : (m.write a v).read b = m.read b := by
  induction m with
  | nil => simp [Memory.write, Memory.read]; omega
  | cons cell rest ih =>
    obtain ⟨c, x⟩ := cell
    simp only [Memory.write]
    split
    · simp only [Memory.read]
      split_ifs <;> first | rfl | omega
    · split
      · subst_vars
        simp only [Memory.read]
        split_ifs <;> first | rfl | omega
      · simp only [Memory.read, ih]

/-! ### The canonical form -/

theorem Memory.rising_write (m : Memory) (a bound : Nat) (v : Byte) (ha : bound ≤ a) (h : m.rising bound = true) :
    (m.write a v).rising bound = true := by
  induction m generalizing bound with
  | nil => simp [Memory.write, Memory.rising, ha]
  | cons cell rest ih =>
    obtain ⟨b, x⟩ := cell
    simp only [Memory.rising, Bool.and_eq_true, decide_eq_true_eq] at h
    simp only [Memory.write]
    split
    · simp only [Memory.rising, Bool.and_eq_true, decide_eq_true_eq]
      exact ⟨ha, by omega, h.2⟩
    · split
      · subst_vars
        simp only [Memory.rising, Bool.and_eq_true, decide_eq_true_eq]
        exact h
      · simp only [Memory.rising, Bool.and_eq_true, decide_eq_true_eq]
        exact ⟨h.1, ih (b + 1) (by omega) h.2⟩

theorem Memory.wf_nil : Memory.wf [] = true := rfl

theorem Memory.wf_write {m : Memory} (a : Nat) (v : Byte) (h : m.wf = true) : (m.write a v).wf = true :=
  Memory.rising_write m a 0 v (Nat.zero_le _) h

theorem Memory.wf_writeBytes {m : Memory} (a : Nat) (vs : List Byte) (h : m.wf = true) : (m.writeBytes a vs).wf = true := by
  induction vs generalizing m a with
  | nil => exact h
  | cons v vs ih => exact ih (a + 1) (Memory.wf_write a v h)

theorem Memory.wf_writeFields {m : Memory} (order : BusOrder) (fs : List Field) (h : m.wf = true) :
    (m.writeFields order fs).wf = true := by
  induction fs generalizing m with
  | nil => exact h
  | cons f fs ih => exact ih (Memory.wf_writeBytes f.address _ h)

theorem Memory.wf_foldl_write {α : Type} (ks : List α) (address : α → Nat) (v : Byte) {m : Memory} (h : m.wf = true) :
    (ks.foldl (fun m k => m.write (address k) v) m).wf = true := by
  induction ks generalizing m with
  | nil => exact h
  | cons k ks ih => exact ih (Memory.wf_write (address k) v h)

theorem wf_freeSlots {m : Memory} (h : m.wf = true) : (freeSlots m).wf = true :=
  Memory.wf_foldl_write _ (fun k => 0x0800 + 64 * (k % 32) + 0x0800 * (k / 32)) _ h

/-! ### Successive bytes -/

theorem Memory.read_writeBytes_other (m : Memory) (a : Nat) (vs : List Byte) (b : Nat) (h : b < a ∨ a + vs.length ≤ b) :
    (m.writeBytes a vs).read b = m.read b := by
  induction vs generalizing m a with
  | nil => rfl
  | cons v vs ih =>
    simp only [List.length_cons] at h
    rw [Memory.writeBytes, ih _ _ (by omega), Memory.read_write_other _ _ _ _ (by omega)]

theorem Memory.read_writeBytes_inside (m : Memory) (a : Nat) (vs : List Byte) (k : Nat) (h : k < vs.length) :
    (m.writeBytes a vs).read (a + k) = some vs[k] := by
  induction vs generalizing m a k with
  | nil => simp at h
  | cons v vs ih =>
    cases k with
    | zero => rw [Memory.writeBytes, Nat.add_zero, Memory.read_writeBytes_other _ _ _ _ (by omega)]
              exact Memory.read_write_same m a v
    | succ k =>
      have := ih (m.write a v) (a + 1) k (by simpa using h)
      rw [Memory.writeBytes, show a + (k + 1) = a + 1 + k by omega, this]
      rfl

/-! ### Numbers as bytes -/

@[simp] theorem length_lowFirstBytes (width n : Nat) : (lowFirstBytes width n).length = width := by
  induction width generalizing n with
  | zero => rfl
  | succ width ih => simp [lowFirstBytes, ih]

@[simp] theorem length_fieldBytes (order : BusOrder) (width n : Nat) : (fieldBytes order width n).length = width := by
  cases order <;> simp [fieldBytes, highFirstBytes]

theorem ofLowFirst_lowFirstBytes (width n : Nat) : ofLowFirst (lowFirstBytes width n) = n % 256 ^ width := by
  induction width generalizing n with
  | zero => simp [lowFirstBytes, ofLowFirst, Nat.mod_one]
  | succ width ih =>
    simp only [lowFirstBytes, ofLowFirst, ih, BitVec.toNat_ofNat]
    rw [show 2 ^ 8 = 256 by norm_num, pow_succ', Nat.mod_mul]

theorem ofField_fieldBytes (order : BusOrder) (width n : Nat) : ofField order (fieldBytes order width n) = n % 256 ^ width := by
  cases order <;> simp [ofField, fieldBytes, highFirstBytes, ofHighFirst, ofLowFirst_lowFirstBytes]

/-! ### Fields of exchange memory -/

/-- A byte outside every field reads as before. -/
theorem Memory.read_writeFields_other (order : BusOrder) (fs : List Field) (m : Memory) (b : Nat)
    (h : ∀ f ∈ fs, f.covers b = false) : (m.writeFields order fs).read b = m.read b := by
  induction fs generalizing m with
  | nil => rfl
  | cons f fs ih =>
    rw [Memory.writeFields, ih _ (fun g hg => h g (List.mem_cons_of_mem _ hg))]
    have hf := h f List.mem_cons_self
    simp only [Field.covers, Bool.and_eq_false_iff, decide_eq_false_iff_not, not_le, not_lt] at hf
    exact Memory.read_writeBytes_other _ _ _ _ (by rw [length_fieldBytes]; exact hf)

theorem Memory.writeFields_append (order : BusOrder) (fs gs : List Field) (m : Memory) :
    m.writeFields order (fs ++ gs) = (m.writeFields order fs).writeFields order gs := by
  induction fs generalizing m with
  | nil => rfl
  | cons f fs ih => simp [Memory.writeFields, ih]

theorem length_readBytes (s : State) (a n : Nat) : (s.readBytes a n).length = n := by
  induction n generalizing a with
  | zero => rfl
  | succ n ih => simp [State.readBytes, ih]

/-- A write to the staging area during a load has it read on, in address order and never beyond the image (R98). -/
theorem State.advanceLoad_within {s : State} {load : LoadRecord} (h : s.load = some load) :
    ∃ more, s.advanceLoad = { s with load := some { copy := load.copy ++ more }, freeCount := s.freeCount + 1 }
      ∧ more = s.readBytes (stagingAddress + load.copy.length) more.length
      ∧ (load.copy ++ more).length ≤ max load.copy.length (s.imageEnd load.copy) := by
  unfold State.advanceLoad
  rw [h]
  exact ⟨_, rfl, by rw [length_readBytes], by rw [List.length_append, length_readBytes]; omega⟩

theorem getElem_readBytes (s : State) (a n k : Nat) (h : k < (s.readBytes a n).length) :
    (s.readBytes a n)[k] = s.readByte (a + k) := by
  induction n generalizing a k with
  | zero => simp [State.readBytes] at h
  | succ n ih =>
    cases k with
    | zero => simp [State.readBytes]
    | succ k =>
      have hk : k < (s.readBytes (a + 1) n).length := by simpa [State.readBytes] using h
      simp only [State.readBytes, List.getElem_cons_succ]
      rw [ih (a + 1) k hk]
      congr 1
      omega

/-- Equal bytes give equal fields. -/
theorem readField_congr {s t : State} (a width : Nat) (ho : t.order = s.order)
    (h : ∀ k, k < width → t.readByte (a + k) = s.readByte (a + k)) : t.readField a width = s.readField a width := by
  have : t.readBytes a width = s.readBytes a width := by
    apply List.ext_getElem
    · simp [length_readBytes]
    · intro k hk _
      rw [getElem_readBytes, getElem_readBytes]
      exact h k (by simpa [length_readBytes] using hk)
  simp [State.readField, ho, this]

/-- A field just written, with nothing written over it since, reads as the number it shows. -/
theorem readField_writeFields (s : State) (fs gs : List Field) (f : Field)
    (h : ∀ g ∈ gs, g.address + g.width ≤ f.address ∨ f.address + f.width ≤ g.address) :
    (s.writeFields (fs ++ f :: gs)).readField f.address f.width = f.value % 256 ^ f.width := by
  rw [← ofField_fieldBytes s.order f.width f.value]
  have hbytes : (s.writeFields (fs ++ f :: gs)).readBytes f.address f.width = fieldBytes s.order f.width f.value := by
    apply List.ext_getElem
    · simp [length_readBytes]
    · intro k hk hk'
      rw [getElem_readBytes]
      simp only [length_fieldBytes] at hk'
      simp only [State.readByte, State.writeFields, Memory.writeFields_append, Memory.writeFields]
      rw [Memory.read_writeFields_other _ _ _ _ (by
        intro g hg
        have := h g hg
        simp only [Field.covers, Bool.and_eq_false_iff, decide_eq_false_iff_not, not_le, not_lt]
        omega)]
      rw [Memory.read_writeBytes_inside _ _ _ _ (by simpa using hk')]
      rfl
  unfold State.readField
  rw [hbytes]
  rfl

/-- A byte outside every field written reads as before. -/
theorem readByte_writeFields (s : State) (fs : List Field) (a : Nat) (h : ∀ f ∈ fs, f.covers a = false) :
    (s.writeFields fs).readByte a = s.readByte a := by
  simp [State.readByte, State.writeFields, Memory.read_writeFields_other _ _ _ _ h]

theorem readByte_writeByte_same (s : State) (a : Nat) (v : Byte) : (s.writeByte a v).readByte a = v := by
  simp [State.readByte, State.writeByte, Memory.read_write_same]

theorem readByte_writeByte_other (s : State) (a b : Nat) (v : Byte) (h : b ≠ a) :
    (s.writeByte a v).readByte b = s.readByte b := by
  simp [State.readByte, State.writeByte, Memory.read_write_other _ _ _ _ h]

end Sys2Proof.Machine
end

