-- ==== Sys2Proof/Tests/Slice0.lean ====
section
/-! SUPPORT. Tests of the model against the manual's own figures, the smoke test of well-formedness, and for each claim with
hypotheses a state and operands that meet them (`witness_…`, one for each clause). -/

namespace Sys2Proof.Tests

-- One theorem after the other: the kernel evaluations need their stacks one at a time.
set_option Elab.async false

open Sys2Proof Sys2Proof.Machine

/-! ### Small states -/

/-- The state a command or event leaves. -/
def after (i : Instr) (s : State) : State :=
  match exec i s with
  | .next t => t
  | _ => s

def both : Strobes := ⟨true, true⟩

/-- The licence of chapter 7's example. -/
def licenceOne : Licence :=
  { meterId := 40711024, maximumFunds := 500000, perPieceCap := 50000, interval := 90, seed := 0x12345678, firstSerial := 301 }

/-- Books with a licence, 1,000 minor units credited and account 3 OPEN. -/
def books : Items :=
  { State.reset.items with
    descending := 1000, credit := 1000, voucherSerial := 300, voucherDay := 9390, licence := some licenceOne
    accounts := State.reset.items.accounts.set 3 { isOpen := true, usage := 0, pieces := 0 } }

/-- A state with other books, whose check word is not looked at. -/
def withBooks (s : State) (x : Items) : State := { s with store := { s.store with items := x } }

def runningLane : Tracker :=
  { Tracker.reset with state := .running, batch := { Batch.reset with state := .opened, id := 5 } }

/-- The part in OPERATING with a valid calendar, both lanes RUNNING and a batch OPEN on each. -/
def line : State :=
  withBooks
    { State.reset with
      part := .operating, generation := 2, lanes := { a := runningLane, b := runningLane }
      calendar := { Calendar.initial with day := 9400, minute := 100, valid := true } }
    books

def inSetup : State := { line with part := .setup, lanes := State.reset.lanes }

/-- Lane A with its tracker replaced. -/
def laneA (s : State) (t : Tracker) : State := { s with lanes := { s.lanes with a := t } }

def linkA (s : State) (k : Link) : State := { s with links := { s.links with a := k } }

/-- The facts of the large letter of 4.13.1. -/
def letterFacts : InputCopy :=
  { weight := 1234, status := .stable, length := 2290, width := 1620, thickness := 85, cls := 2, area := 412, services := 2
    tier := 1, handHold := false, slogan := 255, offset := 0, account := 3 }

/-- A piece with sequence number 0 and slot 0 at a stage past a photocell. -/
def piece (stage : Stage) (position : Position) : TrackEntry :=
  { TrackEntry.opened 0 5 with stage := stage, position := position, input := some letterFacts }

/-- The line with lane A's queue holding one piece, the only one of its batch. -/
def carrying (e : TrackEntry) : State :=
  laneA line { runningLane with queue := [e], nextSeq := 1, batch := { runningLane.batch with entered := 1, inFlight := 1 } }

def holdOne : Hold := { lane := .a, seq := 0, account := 3, amount := 279 }

/-- A HELD piece before PRINT, with its hold. -/
def holding : State := { carrying (piece .held .rate) with holds := [holdOne] }

def imprintOne : Imprint := { seq := 0, serial := 1, amount := 279, account := 3, day := 9400, frame := [] }

/-- A DISPATCHED piece with its imprint outstanding on lane A's link. -/
def dispatched (state : LinkState) : State :=
  linkA (withBooks (carrying (piece .dispatched .print))
      { books with descending := 721, ascending := 279, marks := { a := some { serial := 1, amount := 279, account := 3, day := 9400 }, b := none } })
    { Link.reset with state := state, outstanding := some imprintOne, timer := some 40 }

/-- An ANSWER frame with a good link check (R196). -/
def answerFrame (serial result : Nat) : BitVec 48 :=
  let body := highFirstBytes 1 0x52 ++ highFirstBytes 2 serial ++ highFirstBytes 1 result
  BitVec.ofNat 48 (ofHighFirst (body ++ highFirstBytes 2 (crc16 0xFFFF#16 body).toNat))

/-! ### Well-formedness -/

theorem test_odd_address_ill_formed : (Instr.exchangeMemoryWrite 0x2001 0 both).wf = false := by decide
theorem test_aligned_address_well_formed : (Instr.exchangeMemoryWrite 0x2000 0 ⟨false, true⟩).wf = true := by decide
theorem test_write_without_strobe_ill_formed : (Instr.exchangeMemoryWrite 0x2000 0 ⟨false, false⟩).wf = false := by decide
theorem test_cause_without_strobe_ill_formed : (Instr.causeWrite 1 ⟨false, false⟩).wf = false := by decide
theorem test_mask_without_strobe_ill_formed : (Instr.maskWrite 1 ⟨false, false⟩).wf = false := by decide
theorem test_group_without_strobe_ill_formed : (Instr.groupWrite 1 ⟨false, false⟩).wf = false := by decide
theorem test_ignored_without_strobe_ill_formed :
    (Instr.registerWriteIgnored .ident 1 ⟨false, false⟩).wf = false := by decide
theorem test_known_code_ill_formed : (Instr.unknownCommand 0x12).wf = false := by decide
theorem test_unknown_codes_well_formed :
    (Instr.unknownCommand 0).wf = true ∧ (Instr.unknownCommand 0x13).wf = true := by decide

/-- No row of the opcode table has bits. -/
theorem test_no_word_spells_a_command : decodeTableWord 16 0x1234 = none := rfl

/-! ### Check codes, encodings and notices -/

def digits : List Byte := [0x31, 0x32, 0x33, 0x34, 0x35, 0x36, 0x37, 0x38, 0x39]

/-- R144: the CRC-32 over the characters 123456789, and over no bytes. -/
theorem test_crc32 : crc32 digits = 0xFC891918 ∧ crc32 [] = 0 := by decide +kernel

/-- R145. -/
theorem test_crc16 : crc16 0xFFFF digits = 0x29B1 := by decide +kernel

/-- 1.8: the slot of sequence number 70 on lane A. -/
theorem test_slot_address : slotAddress .a (slotIndex 70) = 0x0980 := by decide

/-- 11.9.1: serial, day, postage, class, format, slogan and offset of A-600. -/
theorem test_imprint_frame :
    let e := { piece .held .rate with format := some 2, offset := some (-32) }
    let frame := imprintFrame .a licenceOne holdOne 12041 9400 e
    frame.length = 24 ∧ frame.take 3 = [0xA5, 0x31, 0x00]
      ∧ (frame.drop 7).take 13
        = [0x00, 0x00, 0x2F, 0x09, 0x24, 0xB8, 0x00, 0x01, 0x17, 0x02, 0x02, 0xFF, 0xE0] := by decide +kernel

/-- 10.8: causes 2, 3 and 4 urgent, all unmasked but 7 and 8. -/
def serviced (flags : Half) : Notices := { cause := flags, mask := 0x0180, group := 0x001C }

/-- 10.8: flags 4, 8 and 9 give 4; then 8 and 9 give 9; with flag 1 also, 1. -/
theorem test_vector_order :
    (serviced 0x0310).vector = 4 ∧ (serviced 0x0300).vector = 9 ∧ (serviced 0x0302).vector = 1 := by decide

/-- 10.8: flag 8 alone, masked, leaves INT deasserted and VECTOR 0x00FF; unmasked, it asserts INT. -/
theorem test_masked_flag :
    (serviced 0x0100).int = false ∧ (serviced 0x0100).vector = 0x00FF
      ∧ ({ serviced 0x0100 with mask := 0x0080 } : Notices).int = true := by decide

/-! ### Rating (4.13) -/

def noService : Service := { defined := false, amount := 0, excludes := 0 }

def letterFormat : Format :=
  { maxLength := 2400, maxWidth := 1650, maxThickness := 50, maxWeight := 1000, divisor := none
    breaks := [{ bound := 200, price := 52000 }], extension := none, services := 0x21 }

def largeLetter : Format :=
  { maxLength := 3530, maxWidth := 2500, maxThickness := 250, maxWeight := 7500, divisor := none
    breaks := [{ bound := 1000, price := 125000 }, { bound := 2500, price := 168000 }, { bound := 5000, price := 227500 },
      { bound := 7500, price := 301000 }]
    extension := none, services := 0x02 }

def parcel (stepPrice : Nat) : Format :=
  { maxLength := 6000, maxWidth := 4000, maxThickness := 4000, maxWeight := 60000, divisor := some 500000
    breaks := [{ bound := 20000, price := 950000 }], extension := some { step := 5000, price := stepPrice }, services := 1 }

/-- A bank with one defined class at an index, zone 3 at area 412 and the services given. -/
def bankOf (rounding : Rounding) (index : Nat) (record : ClassRecord) (services : List Service) : Bank :=
  { role := .active, tableId := 41, effectiveDay := 0, effectiveMinute := 0, rounding := rounding, cap := 50000
    chart := some (List.replicate 412 0 ++ [3] ++ List.replicate 587 0)
    classes := List.replicate index ClassRecord.undefined ++ [record], services := services }

def classTwo : ClassRecord :=
  { defined := true, minimum := 85, defaultZone := 0, zoneFactors := [4096, 4096, 4096, 4710]
    tierFactors := [0, 205, 0, 0], tierMask := 2, formats := [letterFormat, largeLetter] }

def bankOne : Bank := bankOf .up 2 classTwo [noService, { defined := true, amount := 95000, excludes := 0 }]

/-- 4.13.1: 279 minor units in format 2, zone 3, at weight 1,234, with no flag. -/
theorem test_large_letter :
    (rate bankOne letterFacts 32 (some 50000)).rated = .priced 279 2 3 1234
      ∧ (rate bankOne letterFacts 32 (some 50000)).flags = CondFlags.clear := by decide +kernel

/-- 4.13.1's rating record: the tier, and the amounts after base price, zone, discount, services and rounding. -/
theorem test_working_values :
    let w := worked bankOne letterFacts 32
    (w.zone, w.kept, w.tier, w.format, w.weight) = (3, [1], 1, 2, 1234)
      ∧ (w.base, w.zoned, w.discount, w.net, w.total, w.postage) = (168000, 193184, 9668, 183516, 278516, 279) := by
  decide +kernel

/-- R71 to R73: a piece refused after its sides were exchanged leaves them so. -/
theorem test_refused_keeps_its_sides :
    let w := worked bankOne { letterFacts with length := 100, width := 200, handHold := true } 32
    (w.refusal, w.length, w.width) = (some .handHold, 200, 100) := by decide +kernel

/-- 4.13.2: the parcel priced by volume at 2,375. -/
theorem test_parcel_by_volume :
    let record := { classTwo with minimum := 400, zoneFactors := List.replicate 4 4096, formats := [parcel 180000] }
    let x := { letterFacts with weight := 30000, length := 4000, width := 3000, thickness := 2500, services := 1, tier := 0 }
    let result := rate (bankOf .nearest 2 record [{ defined := true, amount := -15000, excludes := 0 }]) x 32 (some 50000)
    result.rated = .priced 2375 1 3 60000 ∧ result.flags = { CondFlags.clear with volumetric := true } := by decide +kernel

/-- 4.13.3: repaired at the input stage and raised to the minimum of 40. -/
theorem test_letter_repaired :
    let record : ClassRecord :=
      { defined := true, minimum := 40, defaultZone := 1, zoneFactors := [4096, 3686], tierFactors := [0, 205, 0, 0]
        tierMask := 2, formats := [letterFormat] }
    let services : List Service :=
      [{ defined := true, amount := 12000, excludes := 0 }, noService, { defined := true, amount := 40000, excludes := 1 },
        noService, noService, { defined := true, amount := -60000, excludes := 0 }, noService, noService]
    let x := { letterFacts with weight := 180, length := 1100, width := 2350, thickness := 30, cls := 0, area := 1204,
                                services := 0xA5, tier := 3, offset := -60 }
    let result := rate (bankOf .down 0 record services) x 32 (some 50000)
    result.rated = .priced 40 1 1 180 ∧ result.offset = some (-32)
      ∧ result.flags = { CondFlags.clear with
          zoneDefault := true, serviceDropped := true, tierIgnored := true, offsetClamped := true, belowMin := true } := by
  decide +kernel

/-- 4.13.4: the saturated extension is refused OVER_CAP with ABOVE_CAP and OVERFLOW. -/
theorem test_saturated_extension :
    let record := { classTwo with zoneFactors := List.replicate 4 5120, formats := [parcel 4000000000] }
    let x := { letterFacts with weight := 35000, length := 3000, width := 2000, thickness := 1000, services := 0, tier := 0 }
    let result := rate (bankOf .nearest 2 record []) x 32 (some 50000)
    result.rated = .refused .overCap ∧ result.flags = { CondFlags.clear with aboveCap := true, overflow := true } := by
  decide +kernel

/-- Books whose bank two is PENDING for day 9,400. -/
def pendingBooks : Items :=
  { books with banks := { books.banks with two := { bankOne with role := .pending, effectiveDay := 9400 } } }

/-- The state after reset, its store holding other books under a good check word. -/
def starting (x : Items) (check : Word) : State :=
  { State.reset with store := { items := x, latch := true, check := check, record := .empty } }

def markedBooks : Items :=
  { books with marks := { a := some { serial := 1, amount := 279, account := 3, day := 9400 }, b := none } }

/-! ### Commands and events, one step each -/

/-- R35: ENTRY assigns the next number and opens its slot. -/
theorem test_entry_opens_slot :
    ((after (.entry .a .rising) line).tracker .a).lastAssigned = some 0
      ∧ (after (.entry .a .rising) line).slotIs .a 0 .opened = true := by decide +kernel

/-- R34: the thirteenth piece halts the lane with OVERFILL, which raises LANE_HALT_A. -/
theorem test_entry_overfill :
    let full := laneA line { runningLane with queue := List.replicate 12 (TrackEntry.slotless 0 .noBatch) }
    ((after (.entry .a .rising) full).tracker .a).haltCause = some .overfill
      ∧ (after (.entry .a .rising) full).notices.flag .laneHaltA = true := by decide +kernel

/-- 12.3, R18: RATE on a slot still OPEN. -/
theorem test_rate_late_fill :
    let s := (carrying { piece .waitRate .entry with input := none }).setSlot .a 0 .opened
    ((after (.rate .a .rising) s).tracker .a).queue.map TrackEntry.cause = [some .lateFill]
      ∧ (after (.rate .a .rising) s).slotIs .a 0 .taken = true := by decide +kernel

/-- R118: the debit of 279. -/
theorem test_print_debits :
    (after (.print .a .rising .made) holding).items.descending = 721
      ∧ (after (.print .a .rising .made) holding).items.ascending = 279 := by decide +kernel

/-- R43: a DISPATCHED piece is diverted at EXIT and waits. -/
theorem test_exit_diverts_dispatched :
    ((after (.exit .a .rising) (dispatched .awaiting)).tracker .a).divert = true
      ∧ ((after (.exit .a .rising) (dispatched .awaiting)).tracker .a).queue.length = 1 := by decide +kernel

/-- 2.13: the 4,001st count since ENTRY halts the lane with JAM; the 4,000th does not. -/
theorem test_encoder_jam :
    ((after (.encoderCount .a) (carrying { piece .waitRate .entry with distance := 4000 })).tracker .a).state = .halted
      ∧ ((after (.encoderCount .a) (carrying { piece .waitRate .entry with distance := 3999 })).tracker .a).state = .running := by
  decide +kernel

/-- R16: FILLED written to a FREE slot is refused and counted. -/
theorem test_slot_write_refused :
    ((after (.slotStateWrite .a 0 3 none) line).tracker .a).refusals = 1
      ∧ (after (.slotStateWrite .a 0 3 none) line).notices.flag .laneIrregular = true := by decide +kernel

/-- R195: with the high byte first, bits 15 to 8 lie at the lower address. -/
theorem test_bus_order :
    (after (.exchangeMemoryWrite 0x2000 0x1234 both) { line with order := .highFirst }).mem.read 0x2000 = some 0x12
      ∧ (after (.exchangeMemoryWrite 0x2000 0x1234 both) line).mem.read 0x2000 = some 0x34 := by decide +kernel

/-- R25: RUN = 1 is ignored outside OPERATING. -/
theorem test_run_needs_operating :
    ((after (.run .a true) inSetup).tracker .a).state = .stopped
      ∧ ((after (.run .a true) { inSetup with part := .operating }).tracker .a).state = .running := by decide +kernel

/-- R188: a 1 clears its flag and a 0 leaves it. -/
theorem test_cause_write_clears :
    (after (.causeWrite 0x0010 both) { line with notices := serviced 0x0310 }).notices.cause = 0x0300 := by decide +kernel

/-- 7: a voucher that skips a serial, with its check word right. -/
def voucherOf (serial amount : BitVec 32) : VoucherArguments :=
  { meterId := 40711024, serial := serial, amount := amount, issueDay := 9310
    check := crc32 (highFirstBytes 4 40711024 ++ highFirstBytes 4 serial.toNat ++ highFirstBytes 4 amount.toNat
      ++ highFirstBytes 2 9310 ++ highFirstBytes 4 0x12345678) }

theorem test_voucher_out_of_order :
    (after (.applyVoucher (voucherOf 302 200000) (.atOnce .made)) inSetup).readField statusAddress 2 = 0x07 := by decide +kernel

theorem test_voucher_credited :
    (after (.applyVoucher (voucherOf 301 200000) (.atOnce .made)) inSetup).items.descending = 201000 := by decide +kernel

/-- R178. -/
theorem test_close_setup : (after .closeSetup inSetup).part = .operating := by decide +kernel

/-- R183, 10.8: RESTART over a running load aborts it. -/
theorem test_restart_aborts :
    (after .restart { line with command := some .loadRates, load := some { copy := [] } }).readField statusAddress 2 = 0x0A
      ∧ (after .restart { line with command := some .loadRates, load := some { copy := [] } }).part = .start := by
  decide +kernel

/-- R193: without POWER_WARN, PARK completes with NOT_POWER_WARNING; with it, the part is PARKED. -/
theorem test_park :
    (after (.park .made) line).readField statusAddress 2 = 0x09
      ∧ (after (.park .made) { line with powerWarn := true }).part = .parked := by decide +kernel

/-- 8.7: a serial equal to the late serial is discarded and the link goes back to AWAITING. -/
theorem test_late_answer_discarded :
    let s := linkA (dispatched .reading) { (dispatched .reading).links.a with late := some 12043, faults := 2 }
    ((after (.answer .a (answerFrame 12043 1) .made) s).link .a).state = .awaiting
      ∧ ((after (.answer .a (answerFrame 12043 1) .made) s).link .a).late = none := by decide +kernel

/-- 8.7: the third fault halts the lane with PRINTER_FAULT. -/
theorem test_third_fault_halts :
    let s := linkA (dispatched .reading) { (dispatched .reading).links.a with faults := 2 }
    ((after (.answer .a (answerFrame 1 3) .made) s).tracker .a).haltCause = some .printerFault
      ∧ ((after (.answer .a (answerFrame 1 3) .made) s).tracker .a).state = .halted := by decide +kernel

def spoiledOne (serial amount : Nat) : SpoiledEntry :=
  { serial := serial, lane := .a, amount := amount, account := 3, day := 9400, cause := .inkOut }

/-- 8.7: a claim with limit 12,043 keeps 12,044. -/
theorem test_claim :
    (after (.claimSpoiled 12043 (.atOnce .made))
        (withBooks line { books with spoiled := [spoiledOne 12041 279, spoiledOne 12043 160, spoiledOne 12044 85] })).items.spoiled
      = [spoiledOne 12044 85] := by decide +kernel

/-- R170: midnight on the last day leaves the day at 65,535. -/
theorem test_last_midnight :
    (after (.minuteBoundary .made) { line with calendar := { line.calendar with day := 65535, minute := 1439 } }).calendar
      = { line.calendar with day := 65535, minute := 0 } := by decide +kernel

/-- R174: an offset of 8 is out of range. -/
theorem test_postdate_range :
    (after (.setPostdate 8) line).readField statusAddress 2 = 0x05 ∧ (after (.setPostdate 7) line).calendar.postdate = 7 := by
  decide +kernel

/-- R181: a code that names no command. -/
theorem test_unknown_command : (after (.unknownCommand 0x13) line).readField statusAddress 2 = 0x05 := by decide +kernel

/-- R135, R136: START from the state after reset finds a good store without a licence. -/
theorem test_start_locks : (after (.start .made) State.reset).part = .locked := by decide +kernel

/-! ### Witnesses: states and operands that meet the hypotheses of the claims -/

/-- Whether an outcome is a next state. -/
def goesOn : Host.Outcome State Fault Refusal → Bool
  | .next _ => true
  | _ => false

theorem goesOn_next {o : Host.Outcome State Fault Refusal} (h : goesOn o = true) : ∃ t, o = .next t := by
  cases o with
  | next t => exact ⟨t, rfl⟩
  | _ => cases h

/-- A queue with a command that has an effect. -/
def waiting (i : Instr) (s : State) : State := { s with pending := [i] }

theorem witness_StepTakesTheFrontCommand : State.reset.pending = [] := rfl

theorem witness_EveryStepKeepsMemoryCanonical :
    (waiting (.exchangeMemoryWrite 0x2000 7 both) line).CanonicalMemory
      ∧ ∃ t, step (waiting (.exchangeMemoryWrite 0x2000 7 both) line) = .next t :=
  ⟨by unfold State.CanonicalMemory; decide +kernel, goesOn_next (by decide +kernel)⟩

theorem witness_EveryStepKeepsTheQueueLaws :
    (waiting (.entry .a .rising) line).LawfulQueues ∧ ∃ t, step (waiting (.entry .a .rising) line) = .next t :=
  ⟨by unfold State.LawfulQueues Tracker.Lawful; decide +kernel, goesOn_next (by decide +kernel)⟩

theorem witness_EveryStepKeepsTheFundsLaws :
    (waiting (.print .a .rising .made) holding).LawfulFunds
      ∧ ∃ t, step (waiting (.print .a .rising .made) holding) = .next t :=
  ⟨⟨by unfold Items.Balanced; decide +kernel, by decide +kernel, by unfold State.QuietOutsideOperating; decide +kernel, fun _ _ h => by cases h⟩, goesOn_next (by decide +kernel)⟩

theorem witness_EveryStepKeepsTheFundsLaws_books :
    (waiting (.print .a .rising .made) holding).LawfulBooks
      ∧ ∃ t, step (waiting (.print .a .rising .made) holding) = .next t :=
  ⟨⟨by unfold Items.LawfulBooks; decide +kernel, by decide +kernel, (fun _ _ h => by cases h)⟩, goesOn_next (by decide +kernel)⟩

/-- The line with its status block written. -/
def shown : State := line.writeFields (statusFields line)

theorem witness_EveryStepKeepsTheStatusBlockTrue :
    let s := waiting (.entry .a .rising) shown
    s.LawfulStatus ∧ s.supply = true ∧ s.part ≠ .start
      ∧ (∀ address value strobes rest, s.pending = .exchangeMemoryWrite address value strobes :: rest → 0x0100 ≤ address.toNat)
      ∧ ∃ t, step s = .next t :=
  ⟨⟨rfl, fun _ _ => by unfold State.Shows; decide +kernel, (fun _ _ _ h => by cases h)⟩, rfl, by decide +kernel,
    (fun _ _ _ _ h => by cases h), goesOn_next (by decide +kernel)⟩

theorem witness_StatusRewriteIsFramed :
    let s := { line with dirty := { Groups.none with funds := true }, generation := 65534 }
    s.dirty ≠ Groups.none ∧ s.part ≠ .start ∧ s.generation < 65536 ∧ s.generation % 2 = 0 := by decide +kernel

theorem witness_PowerOnResetLeaves_running : line.calendar.running = true := rfl
theorem witness_PowerOnResetLeaves_stopped :
    ({ line with calendar := { line.calendar with running := false } } : State).calendar.running = false := rfl

theorem witness_LineResetAndRestartLeave_line :
    let s := { line with command := some .loadRates }
    s.supply = true ∧ s.inStore = none ∧ s.command = some .loadRates ∧ Instr.loadRates ≠ .restart := by decide +kernel

theorem witness_LineResetAndRestartLeave_restart :
    let s := { line with command := some .loadRates }
    s.supply = true ∧ s.inStore = none ∧ s.part ≠ .parked ∧ s.command = some .loadRates := by decide +kernel

theorem witness_UpdateCompletesBeforeTheHeldReset_empty :
    let s := after (.setAccount 31 1 (.atOnce (.inSteps .filling))) inSetup
    s.supply = true ∧ s.Settled ∧ s.inStore = some .setAccount
      ∧ s.store.record = .inSteps .filling ((s.items.setAccount 31 true).newValues false) ∧ s.held = []
      ∧ s.heldReset = none := by unfold State.Settled; decide +kernel

theorem witness_UpdateCompletesBeforeTheHeldReset_reset :
    inSetup.TakesCommands ∧ inSetup.held = [] ∧ inSetup.heldReset = none ∧ inSetup.part = .setup
      ∧ (31 : Byte).toNat < 32 ∧ (1 : Byte).toNat ≤ 1 := by unfold State.TakesCommands State.Ready; decide +kernel

theorem witness_UpdateCompletesBeforeTheHeldReset_not_begun :
    line.TakesCommands ∧ line.unbegun = none ∧ (after (.setAccount 31 1 .later) line).unbegun ≠ none
      ∧ line.part = .operating ∧ line.items.spoiled.length ≤ 64 := by unfold State.TakesCommands State.Ready; decide +kernel

theorem witness_UpdateCompletesBeforeTheHeldReset_too_late :
    let values := inSetup.items.switchBanks.newValues false
    let s := { inSetup with
      inStore := some .bankSwitch, heldReset := some (.line .two inSetup.order)
      store := { inSetup.store with record := .inSteps .ready values } }
    s.supply = true ∧ s.Settled ∧ s.command = none ∧ s.part = .setup ∧ (31 : Byte).toNat < 32 ∧ (1 : Byte).toNat ≤ 1
      ∧ s.inStore = some .bankSwitch ∧ s.store.record = .inSteps .ready values ∧ s.held = []
      ∧ s.heldReset = some (.line .two s.order) := ⟨rfl, rfl, rfl, rfl, by decide, by decide, rfl, rfl, rfl, rfl⟩

/-- A bank switch in its steps, in SETUP. -/
def switching : State :=
  { inSetup with
    inStore := some .bankSwitch
    store := { inSetup.store with record := .inSteps .ready (inSetup.items.switchBanks.newValues false) } }

/-- An ENTRY of lane A and an EXIT of lane B held behind a debit of lane A. -/
theorem witness_UpdateCompletesBeforeTheHeldReset_held_events :
    let values := holding.items.newValues false
    let s := { holding with
      inStore := some (.debit .a holdOne 1 9400), store := { holding.store with record := .inSteps .filling values }
      held := [Instr.entry .a .rising, .exit .b .rising].map HeldEvent.event }
    s.supply = true ∧ s.Settled ∧ s.inStore = some (.debit .a holdOne 1 9400) ∧ s.store.record = .inSteps .filling values
      ∧ s.heldReset = none ∧ needsNoPost (.entry .a .rising) = true ∧ needsNoPost (.exit .b .rising) = true
      ∧ (after .updateRecordEmpty { s with held := [] }).inStore = none :=
  ⟨rfl, rfl, rfl, rfl, rfl, rfl, rfl, by decide +kernel⟩

/-- START's conversion goes on to a switch in its own steps, and the events go on waiting. -/
theorem witness_UpdateCompletesBeforeTheHeldReset_goes_on :
    let values := pendingBooks.newValues false
    let s := { withBooks line pendingBooks with
      part := .start, inStore := some (.startConversion (some .ready))
      store := { line.store with items := pendingBooks, record := .inSteps .filling values } }
    s.supply = true ∧ s.Settled ∧ s.inStore = some (.startConversion (some .ready))
      ∧ s.store.record = .inSteps .filling values ∧ s.heldReset = none
      ∧ (after .updateRecordEmpty { s with held := [] }).inStore ≠ none := ⟨rfl, rfl, rfl, rfl, rfl, by decide +kernel⟩

theorem witness_UpdateCompletesBeforeTheHeldReset_held_command :
    switching.supply = true ∧ switching.Settled ∧ switching.command = none ∧ switching.part = .setup
      ∧ switching.inStore = some .bankSwitch
      ∧ switching.store.record = .inSteps .ready (inSetup.items.switchBanks.newValues false) ∧ switching.held = []
      ∧ switching.heldReset = none := ⟨rfl, rfl, rfl, rfl, rfl, rfl, rfl, rfl⟩

theorem witness_UpdateCompletesBeforeTheHeldReset_held_line_reset :
    let s := { switching with heldReset := some (.line .one .highFirst), held := [.event (.setAccount 31 1 .later)] }
    s.supply = true ∧ s.Settled ∧ s.inStore = some .bankSwitch ∧ s.heldReset = some (.line .one .highFirst)
      ∧ Work.bankSwitch.ofStart = false := ⟨rfl, rfl, rfl, rfl, rfl⟩

/-- START's switch in its steps, with a line reset held behind it. -/
theorem witness_UpdateCompletesBeforeTheHeldReset_held_line_reset_in_start :
    let s := { switching with part := .start, inStore := some .startSwitch, heldReset := some (.line .one .highFirst) }
    s.supply = true ∧ s.Settled ∧ s.inStore = some .startSwitch ∧ Work.startSwitch.ofStart = true
      ∧ s.store.record = .inSteps .ready (inSetup.items.switchBanks.newValues false) ∧ s.held = [] :=
  ⟨rfl, rfl, rfl, rfl, rfl, rfl⟩

theorem witness_UpdateCompletesBeforeTheHeldReset_held_restart :
    switching.heldReset = none ∧ switching.command = none ∧ switching.part ≠ .parked
      ∧ (after .updateRecordEmpty (after .restart switching)).inStore = none := by decide +kernel

theorem witness_UpdateInStepsComesToTheSame_exactly :
    inSetup.Ready ∧ inSetup.held = [] ∧ inSetup.heldReset = none ∧ inSetup.part ≠ .start
      ∧ (after (.setAccount 31 1 (.atOnce (.inSteps .filling))) inSetup).inStore ≠ none := by unfold State.Ready; decide +kernel

theorem witness_UpdateInStepsComesToTheSame_switch :
    let s := { withBooks line pendingBooks with calendar := { line.calendar with day := 9399, minute := 1439 } }
    s.Ready ∧ s.held = [] ∧ s.heldReset = none ∧ (after (.minuteBoundary (.inSteps .ready)) s).inStore ≠ none := by
  unfold State.Ready; decide +kernel

theorem witness_UpdateInStepsComesToTheSame_start :
    let s := starting markedBooks markedBooks.checkWord
    s.Ready ∧ s.held = [] ∧ s.heldReset = none ∧ (after (.start (.atConversion .filling)) s).inStore ≠ none :=
  ⟨⟨rfl, rfl, rfl⟩, rfl, rfl, by decide +kernel⟩

theorem witness_UpdateInStepsComesToTheSame_later :
    line.TakesCommands ∧ line.unbegun = none ∧ (after (.closePeriod .later) line).unbegun ≠ none := by
  unfold State.TakesCommands State.Ready; decide +kernel

theorem witness_SupplyBatteryAndWarning_supply : line.Settled := rfl
theorem witness_SupplyBatteryAndWarning_assert : line.Ready ∧ line.powerWarn = false := by unfold State.Ready; decide +kernel
theorem witness_SupplyBatteryAndWarning_asserted :
    let s := { line with powerWarn := true }
    s.Ready ∧ s.powerWarn = true := by unfold State.Ready; decide +kernel

theorem witness_StartOnAGoodStore_marks :
    let s := starting markedBooks markedBooks.checkWord
    s.Ready ∧ s.part = .start ∧ s.heldReset = none ∧ s.command = none ∧ s.store.record = .empty ∧ s.store.latch = true
      ∧ s.store.check = s.items.checkWord := ⟨⟨rfl, rfl, rfl⟩, rfl, rfl, rfl, rfl, rfl, rfl⟩

theorem witness_StartOnAGoodStore_due_switch_held_park :
    let s := { starting pendingBooks pendingBooks.checkWord with
      command := some (.park .made), calendar := { Calendar.initial with day := 9400, valid := true } }
    let other := pendingBooks.banks.get pendingBooks.activeBank.other
    s.Ready ∧ s.part = .start ∧ s.heldReset = none ∧ s.command = some (.park .made) ∧ s.store.record = .empty
      ∧ s.store.latch = true ∧ s.store.check = s.items.checkWord ∧ s.calendar.valid = true ∧ other.role = .pending
      ∧ other.effectiveDay = s.calendar.day ∧ other.effectiveMinute ≤ s.calendar.minute :=
  ⟨⟨rfl, rfl, rfl⟩, rfl, rfl, rfl, rfl, rfl, rfl, rfl, rfl, rfl, by decide⟩

/-- A store whose update record stands in a phase, with new values that hold the marked books. -/
def interrupted (phase : Phase) : State :=
  { starting books books.checkWord with
    store := { (starting books books.checkWord).store with record := .inSteps phase (markedBooks.newValues false) } }

theorem witness_StartOnAGoodStore_ready :
    (interrupted .ready).Ready ∧ (interrupted .ready).part = .start ∧ (interrupted .ready).heldReset = none
      ∧ (interrupted .ready).store.record = .inSteps .ready (markedBooks.newValues false)
      ∧ (markedBooks.newValues false).setsLatch = false ∧ (interrupted .ready).store.latch = true
      ∧ (markedBooks.newValues false).check = markedBooks.checkWord := ⟨⟨rfl, rfl, rfl⟩, rfl, rfl, rfl, rfl, rfl, rfl⟩

theorem witness_StartOnAGoodStore_filling :
    (interrupted .filling).Ready ∧ (interrupted .filling).part = .start ∧ (interrupted .filling).heldReset = none
      ∧ (interrupted .filling).store.record = .inSteps .filling (markedBooks.newValues false)
      ∧ (interrupted .filling).store.latch = true
      ∧ (interrupted .filling).store.check = (interrupted .filling).items.checkWord := ⟨⟨rfl, rfl, rfl⟩, rfl, rfl, rfl, rfl, rfl⟩

/-- 6.6: with an interval of 90 days the notice is WARNED from day 83 since the voucher and DUE from day 90. -/
def sinceVoucher (days : Nat) : State :=
  { line with calendar := { line.calendar with day := 9390 + days, minute := 0 } }

theorem witness_NoticeEvaluated_warned :
    (sinceVoucher 83).calendar.valid = true ∧ (sinceVoucher 83).items.licence = some licenceOne
      ∧ 83 < licenceOne.interval ∧ 7 < licenceOne.interval ∧ licenceOne.interval ≤ 83 + 7
      ∧ (after (.minuteBoundary .made) (sinceVoucher 83)).notice = .warned := by decide +kernel

theorem witness_NoticeEvaluated_due :
    (sinceVoucher 90).calendar.valid = true ∧ licenceOne.interval ≤ 90
      ∧ (after (.minuteBoundary .made) (sinceVoucher 90)).notice = .due := by decide +kernel

theorem witness_NoticeEvaluated_none :
    82 < licenceOne.interval ∧ 82 + 7 < licenceOne.interval
      ∧ (after (.minuteBoundary .made) { sinceVoucher 82 with notice := .warned }).notice = .none := by decide +kernel

theorem witness_StartOnAStoreFault_latch :
    let s := { State.reset with store := { State.reset.store with latch := false } }
    s.Ready ∧ s.part = .start ∧ s.command = none ∧ s.heldReset = none ∧ s.store.record = .empty ∧ s.store.latch = false :=
  ⟨⟨rfl, rfl, rfl⟩, rfl, rfl, rfl, rfl, rfl⟩

theorem witness_StartOnAStoreFault_stopped_calendar :
    let s := { State.reset with
      store := { State.reset.store with latch := false }, warnAtReset := true
      calendar := { Calendar.initial with day := 7, running := false } }
    s.Ready ∧ s.part = .start ∧ s.command = none ∧ s.heldReset = none ∧ s.store.record = .empty ∧ s.store.latch = false
      ∧ s.calendar.running = false ∧ s.warnAtReset = true := ⟨⟨rfl, rfl, rfl⟩, rfl, rfl, rfl, rfl, rfl, rfl, rfl⟩

theorem witness_StartOnAStoreFault_check :
    let s := starting State.reset.items 0
    s.Ready ∧ s.part = .start ∧ s.command = none ∧ s.heldReset = none ∧ s.store.record = .empty
      ∧ s.store.check ≠ s.items.checkWord := by unfold State.Ready; decide +kernel

theorem witness_StartOnAStoreFault_filling :
    let s := { interrupted .filling with store := { (interrupted .filling).store with latch := false } }
    s.Ready ∧ s.part = .start ∧ s.command = none ∧ s.heldReset = none
      ∧ s.store.record = .inSteps .filling (markedBooks.newValues false) ∧ s.store.latch = false :=
  ⟨⟨rfl, rfl, rfl⟩, rfl, rfl, rfl, rfl, rfl⟩

theorem witness_StartOnAStoreFault_ready :
    let values := { markedBooks.newValues false with check := markedBooks.checkWord + 1 }
    let s := { interrupted .ready with store := { (interrupted .ready).store with record := .inSteps .ready values } }
    s.Ready ∧ s.part = .start ∧ s.command = none ∧ s.heldReset = none ∧ s.store.record = .inSteps .ready values
      ∧ values.setsLatch = false ∧ values.check ≠ values.items.checkWord :=
  ⟨⟨rfl, rfl, rfl⟩, rfl, rfl, rfl, rfl, rfl, by decide +kernel⟩

theorem witness_StartOnAStoreFault_clearing :
    let s := { interrupted .ready with
      command := some (.park .made)
      store := { (interrupted .ready).store with latch := false, record := .inSteps .ready (Items.cleared.newValues true) } }
    s.Ready ∧ s.part = .start ∧ s.command = some (.park .made) ∧ s.heldReset = none
      ∧ s.store.record = .inSteps .ready (Items.cleared.newValues true) := ⟨⟨rfl, rfl, rfl⟩, rfl, rfl, rfl, rfl⟩

theorem witness_EntryOpensASlot :
    let s := laneA line { runningLane with nextSeq := 16777215 }
    s.Ready ∧ s.Senses .a .entry .rising ∧ (s.tracker .a).state = .running ∧ (s.tracker .a).batch.state = .opened
      ∧ (s.tracker .a).queue.length < 12 ∧ s.slotIs .a ((s.tracker .a).nextSeq % 32) .free = true := by
  unfold State.Ready State.Senses; decide +kernel

theorem witness_EntryWithoutASlot_draining :
    let s := laneA line { runningLane with state := .draining }
    s.Ready ∧ s.Senses .a .entry .rising ∧ (s.tracker .a).queue.length < 12 ∧ (s.tracker .a).state = .draining := by
  unfold State.Ready State.Senses; decide +kernel

theorem witness_EntryWithoutASlot_no_batch :
    let s := laneA line { runningLane with batch := { runningLane.batch with state := .closing } }
    s.Ready ∧ s.Senses .a .entry .rising ∧ (s.tracker .a).queue.length < 12 ∧ (s.tracker .a).state ≠ .draining
      ∧ (s.tracker .a).batch.state ≠ .opened := by unfold State.Ready State.Senses; decide +kernel

theorem witness_EntryWithoutASlot_overrun :
    let s := line.setSlot .a 0 .done
    s.Ready ∧ s.Senses .a .entry .rising ∧ (s.tracker .a).queue.length < 12 ∧ (s.tracker .a).state ≠ .draining
      ∧ (s.tracker .a).batch.state = .opened ∧ s.slotIs .a ((s.tracker .a).nextSeq % 32) .free = false := by
  unfold State.Ready State.Senses; decide +kernel

theorem witness_EntryWithoutASlot_overfill :
    let s := laneA line { runningLane with queue := List.replicate 12 (TrackEntry.slotless 0 .noBatch) }
    s.Ready ∧ s.Senses .a .entry .rising ∧ 12 ≤ (s.tracker .a).queue.length := by unfold State.Ready State.Senses; decide +kernel

theorem witness_StraySensorEvent_stopped :
    inSetup.Ready ∧ inSetup.present .b = true ∧ Edge.rising = (inSetup.tracker .b).config.edge .print
      ∧ (inSetup.tracker .b).state.tracks = false := by unfold State.Ready; decide +kernel

theorem witness_StraySensorEvent_unreached :
    let s := carrying (piece .waitRate .entry)
    s.Ready ∧ s.present .a = true ∧ Edge.rising = (s.tracker .a).config.edge .print ∧ Position.print ≠ .entry
      ∧ ∀ e, (s.tracker .a).queue.find? (fun x => x.position.rank < Position.print.rank) = some e →
          e.position.rank + 1 ≠ Position.print.rank :=
  ⟨⟨rfl, rfl, rfl⟩, rfl, rfl, by decide +kernel, fun e h => by cases h; decide +kernel⟩

theorem witness_StraySensorEvent_reset : line.supply = true ∧ line.inStore = none ∧ line.part ≠ .parked := by decide +kernel

/-- The line with lane A alone. -/
def oneLane : State := { line with laneCount := .one }

theorem witness_StraySensorEvent_no_effect :
    line.Ready ∧ Edge.falling ≠ (line.tracker .a).config.edge .print ∧ oneLane.Ready ∧ oneLane.present .b = false := by
  unfold State.Ready; decide +kernel

/-- A saturated count: no byte of the status block changes (R5). -/
theorem witness_StraySensorEvent_saturated :
    let s := laneA line { Tracker.reset with strays := 65535 }
    s.Ready ∧ s.present .a = true ∧ (s.tracker .a).state.tracks = false ∧ (s.tracker .a).strays = 65535 := by
  unfold State.Ready; decide +kernel

def atRate (slot : SlotState) : State := (carrying { piece .waitRate .entry with input := none }).setSlot .a 0 slot

theorem witness_RateTakesTheSlot_filled :
    (atRate .filled).Ready ∧ (atRate .filled).Senses .a .rate .rising
      ∧ ((atRate .filled).tracker .a).applies .rate = some { piece .waitRate .entry with input := none }
      ∧ (atRate .filled).slotIs .a 0 .filled = true := by unfold State.Ready State.Senses; decide +kernel

/-- A take queue with 8 pieces of lane B. -/
def fullQueue : List QueueEntry := (List.range 8).map (fun k => { lane := .b, seq := k })

theorem witness_RateTakesTheSlot_full :
    let s := { atRate .filled with takeQueue := fullQueue }
    s.Ready ∧ s.Senses .a .rate .rising
      ∧ (s.tracker .a).applies .rate = some { piece .waitRate .entry with input := none }
      ∧ s.slotIs .a 0 .filled = true ∧ s.takeQueue.length = 8 := by unfold State.Ready State.Senses; decide +kernel

theorem witness_RateTakesTheSlot_power_warning :
    let s := { atRate .filled with powerWarn := true, takeQueue := fullQueue.take 7 }
    s.Ready ∧ s.Senses .a .rate .rising
      ∧ (s.tracker .a).applies .rate = some { piece .waitRate .entry with input := none }
      ∧ s.slotIs .a 0 .filled = true ∧ s.takeQueue.length = 7 ∧ s.powerWarn = true := by
  unfold State.Ready State.Senses; decide +kernel

theorem witness_RateTakesTheSlot_opened :
    (atRate .opened).Ready ∧ (atRate .opened).Senses .a .rate .rising
      ∧ ((atRate .opened).tracker .a).applies .rate = some { piece .waitRate .entry with input := none }
      ∧ (atRate .opened).slotIs .a 0 .opened = true := by unfold State.Ready State.Senses; decide +kernel

theorem witness_RateTakesTheSlot_not_franked :
    let s := carrying (TrackEntry.slotless 0 .noBatch)
    s.Ready ∧ s.Senses .a .rate .rising ∧ (s.tracker .a).applies .rate = some (TrackEntry.slotless 0 .noBatch)
      ∧ (TrackEntry.slotless 0 .noBatch).stage = .notFranked := by unfold State.Ready State.Senses; decide +kernel

theorem witness_PrintDebitsAHeldPiece :
    let e := piece .held .rate
    holding.Ready ∧ holding.Senses .a .print .rising ∧ (holding.tracker .a).applies .print = some e
      ∧ (holding.tracker .a).find e.seq = some e ∧ e.slot = some 0 ∧ e.stage = .held
      ∧ holding.holdOf .a e.seq = some holdOne ∧ holding.items.licence = some licenceOne
      ∧ (holding.tracker .a).config.link = true ∧ (holding.link .a).outstanding = none
      ∧ holding.items.spoiled.length + holding.items.marksPresent < 64 ∧ holding.calendar.valid = true := by
  unfold State.Ready State.Senses; decide +kernel

/-- The piece of 11.9.1 with its format and clamped offset, as a rating leaves it. -/
theorem witness_PrintDebitsAHeldPiece_frame :
    let e := { piece .held .rate with format := some 2, offset := some (-32) }
    let s := { carrying e with holds := [holdOne] }
    s.Ready ∧ s.Senses .a .print .rising ∧ (s.tracker .a).applies .print = some e ∧ s.holdOf .a e.seq = some holdOne
      ∧ e.input = some letterFacts ∧ e.format = some 2 ∧ e.offset = some (-32) := by
  unfold State.Ready State.Senses; decide +kernel

/-- The link in a late read: it keeps the imprint as the held dispatch (R147). -/
theorem witness_PrintDebitsAHeldPiece_late_read :
    let s := linkA holding { Link.reset with state := .reading, late := some 7 }
    s.Ready ∧ s.Senses .a .print .rising ∧ (s.tracker .a).applies .print = some (piece .held .rate)
      ∧ (s.tracker .a).config.link = true ∧ (s.link .a).outstanding = none ∧ (s.link .a).state = .reading
      ∧ s.calendar.valid = true := by
  unfold State.Ready State.Senses; decide +kernel

/-- Lane A's configuration with its link disabled. -/
def linkOff : State :=
  laneA holding { holding.lanes.a with config := { holding.lanes.a.config with link := false } }

theorem witness_PrintRefusesAPiece_link_off :
    linkOff.Ready ∧ linkOff.Senses .a .print .rising ∧ (linkOff.tracker .a).applies .print = some (piece .held .rate)
      ∧ (linkOff.tracker .a).config.link = false := by unfold State.Ready State.Senses; decide +kernel

theorem witness_PrintRefusesAPiece_link_busy :
    let s := linkA holding { Link.reset with outstanding := some imprintOne, state := .awaiting }
    s.Ready ∧ s.Senses .a .print .rising ∧ (s.tracker .a).applies .print = some (piece .held .rate)
      ∧ (s.tracker .a).config.link = true ∧ ¬ (s.link .a).outstanding = none := by unfold State.Ready State.Senses; decide +kernel

theorem witness_PrintRefusesAPiece_list_full :
    let s := withBooks holding { books with spoiled := (List.range 64).map (fun n => spoiledOne (n + 1) 1) }
    s.Ready ∧ s.Senses .a .print .rising ∧ (s.tracker .a).applies .print = some (piece .held .rate)
      ∧ (s.tracker .a).config.link = true ∧ (s.link .a).outstanding = none
      ∧ ¬ s.items.spoiled.length + s.items.marksPresent < 64 := by unfold State.Ready State.Senses; decide +kernel

theorem witness_PrintRefusesAPiece_date_invalid :
    let s := { holding with calendar := { holding.calendar with valid := false } }
    s.Ready ∧ s.Senses .a .print .rising ∧ (s.tracker .a).applies .print = some (piece .held .rate)
      ∧ (s.tracker .a).config.link = true ∧ (s.link .a).outstanding = none
      ∧ s.items.spoiled.length + s.items.marksPresent < 64 ∧ s.calendar.valid = false := by
  unfold State.Ready State.Senses; decide +kernel

theorem witness_PrintRefusesAPiece_rating :
    let s := carrying (piece .rating .rate)
    s.Ready ∧ s.Senses .a .print .rising ∧ (s.tracker .a).applies .print = some (piece .rating .rate) := by
  unfold State.Ready State.Senses; decide +kernel

theorem witness_PrintRefusesAPiece_queued :
    let s := { carrying (piece .queued .rate) with takeQueue := [{ lane := .a, seq := 0 }] }
    s.Ready ∧ s.Senses .a .print .rising ∧ (s.tracker .a).applies .print = some (piece .queued .rate) := by
  unfold State.Ready State.Senses; decide +kernel

theorem witness_PrintRefusesAPiece_not_franked :
    let e := { piece .notFranked .rate with cause := some .overCap }
    (carrying e).Ready ∧ (carrying e).Senses .a .print .rising ∧ ((carrying e).tracker .a).applies .print = some e
      ∧ e.stage = .notFranked := by
  unfold State.Ready State.Senses; decide +kernel

theorem witness_ExitEndsAPiece_printed :
    let e := piece .printed .print
    let s := carrying e
    s.Ready ∧ s.Senses .a .exit .rising ∧ (s.tracker .a).applies .exit = some e ∧ (s.tracker .a).find e.seq = some e
      ∧ e.slot = some 0 ∧ e.stage = .printed ∧ (s.tracker .a).batch.state ≠ .none := by
  unfold State.Ready State.Senses; decide +kernel

theorem witness_ExitEndsAPiece_spoiled :
    let e := piece .spoiled .print
    let s := carrying e
    s.Ready ∧ s.Senses .a .exit .rising ∧ (s.tracker .a).applies .exit = some e ∧ (s.tracker .a).find e.seq = some e
      ∧ e.slot = some 0 ∧ e.stage = .spoiled ∧ (s.tracker .a).batch.state ≠ .none := by
  unfold State.Ready State.Senses; decide +kernel

theorem witness_ExitEndsAPiece_not_franked_closing :
    let e := { piece .notFranked .print with cause := some .overCap }
    let s := laneA line { runningLane with
      state := .draining, queue := [e], batch := { runningLane.batch with state := .closing, inFlight := 2 } }
    s.Ready ∧ s.Senses .a .exit .rising ∧ (s.tracker .a).applies .exit = some e ∧ (s.tracker .a).find e.seq = some e
      ∧ e.slot = some 0 ∧ e.stage = .notFranked ∧ e.cause ≠ none ∧ (s.tracker .a).batch.state = .closing
      ∧ 1 < (s.tracker .a).batch.inFlight := by unfold State.Ready State.Senses; decide +kernel

theorem witness_ExitEndsAPiece_last_of_closing :
    let e := piece .printed .print
    let s := laneA line { runningLane with queue := [e], batch := { runningLane.batch with state := .closing, inFlight := 1 } }
    s.Ready ∧ s.Senses .a .exit .rising ∧ (s.tracker .a).applies .exit = some e ∧ (s.tracker .a).find e.seq = some e
      ∧ e.slot = some 0 ∧ e.stage = .printed ∧ (s.tracker .a).batch.state = .closing
      ∧ ((s.tracker .a).batch.after .franked 0).inFlight = 0 := by unfold State.Ready State.Senses; decide +kernel

theorem witness_ExitEndsAPiece_dispatched :
    let e := piece .dispatched .print
    let s := dispatched .awaiting
    s.Ready ∧ s.Senses .a .exit .rising ∧ (s.tracker .a).applies .exit = some e ∧ (s.tracker .a).find e.seq = some e
      ∧ e.slot = some 0 ∧ e.stage = .dispatched := by unfold State.Ready State.Senses; decide +kernel

theorem witness_ExitEndsAPiece_slotless :
    let e := { TrackEntry.slotless 0 .noBatch with position := .print }
    let s := laneA line { runningLane with state := .draining, queue := [e] }
    s.Ready ∧ s.Senses .a .exit .rising ∧ (s.tracker .a).applies .exit = some e ∧ (s.tracker .a).find e.seq = some e
      ∧ e.slot = none ∧ e.stage = .notFranked := by unfold State.Ready State.Senses; decide +kernel

theorem witness_EncoderCountsDistanceOrJams_tracked :
    let s := carrying { piece .waitRate .entry with distance := 3999 }
    s.Ready ∧ s.present .a = true ∧ (s.tracker .a).state.tracks = true
      ∧ ∀ e ∈ (s.tracker .a).queue, e.position ≠ .exit → e.distance < (s.tracker .a).config.limit e.position := by
  unfold State.Ready; decide +kernel

theorem witness_EncoderCountsDistanceOrJams_stopped :
    inSetup.Ready ∧ inSetup.present .a = true ∧ (inSetup.tracker .a).state.tracks = false := by unfold State.Ready; decide +kernel

theorem witness_EncoderCountsDistanceOrJams_jam_free_link :
    let e := { piece .waitRate .entry with distance := 4000 }
    let s := carrying e
    s.Ready ∧ s.present .a = true ∧ (s.tracker .a).state.tracks = true ∧ e ∈ (s.tracker .a).queue ∧ e.position ≠ .exit
      ∧ e.distance = (s.tracker .a).config.limit e.position ∧ (s.link .a).outstanding = none := by
  unfold State.Ready; decide +kernel

theorem witness_EncoderCountsDistanceOrJams_jam_outstanding :
    let e := { piece .dispatched .print with distance := 4000 }
    let s := linkA (carrying e) (dispatched .awaiting).links.a
    s.Ready ∧ s.present .a = true ∧ (s.tracker .a).state.tracks = true ∧ e ∈ (s.tracker .a).queue ∧ e.position ≠ .exit
      ∧ e.distance = (s.tracker .a).config.limit e.position ∧ (s.link .a).outstanding ≠ none := by
  unfold State.Ready; decide +kernel

/-- The hypotheses inside a halt that empties its queue: distinct slots, and a CLOSING batch of just these pieces. -/
theorem witness_EndsAll_closing :
    let queue := [piece .printed .print, { TrackEntry.opened 1 5 with distance := 4001 }]
    let s := laneA line { runningLane with queue := queue, batch := { runningLane.batch with state := .closing, inFlight := 2 } }
    let endings := (queue.map TrackEntry.halted).map (fun e => e.endedFor .jammed)
    (s.link .a).outstanding = none ∧ endings.Pairwise (fun x y => x.entry.slot = none ∨ x.entry.slot ≠ y.entry.slot)
      ∧ (s.tracker .a).batch.state = .closing ∧ 0 < (s.tracker .a).batch.inFlight
      ∧ (s.tracker .a).batch.inFlight = (slotted endings).length := by decide +kernel

theorem witness_RunMovesTheLane_moved :
    line.Ready ∧ line.present .a = true
      ∧ runMoves (line.tracker .a).state false line.part (line.tracker .a).queue.isEmpty = some .stopped := by
  unfold State.Ready; decide +kernel

theorem witness_RunMovesTheLane_ignored :
    inSetup.Ready ∧ runMoves (inSetup.tracker .a).state true inSetup.part (inSetup.tracker .a).queue.isEmpty = none := by
  unfold State.Ready; decide +kernel

theorem witness_RunMovesTheLane_absent :
    let s := { line with laneCount := .one }
    s.Ready ∧ s.present .b = false := by unfold State.Ready; decide +kernel

theorem witness_SlotStateWriteIsARequest_filled :
    let s := line.setSlot .b 31 .opened
    s.Ready ∧ s.present .b = true ∧ s.slotIs .b (31 : BitVec 5).toNat .opened = true := by unfold State.Ready; decide +kernel

theorem witness_SlotStateWriteIsARequest_free :
    let s := line.setSlot .b 31 .done
    s.Ready ∧ s.present .b = true ∧ s.slotIs .b (31 : BitVec 5).toNat .done = true := by unfold State.Ready; decide +kernel

theorem witness_SlotStateWriteIsARequest_refused :
    line.Ready ∧ line.present .a = true
      ∧ ¬ (line.slotIs .a (0 : BitVec 5).toNat .opened = true ∧ (3 : Byte) = slotCode .filled)
      ∧ ¬ (line.slotIs .a (0 : BitVec 5).toNat .done = true ∧ (3 : Byte) = slotCode .free) := by
  unfold State.Ready; decide +kernel

theorem witness_SlotStateWriteIsARequest_saturated :
    let s := laneA line { runningLane with refusals := 65535 }
    s.Ready ∧ s.present .a = true ∧ (s.tracker .a).refusals = 65535
      ∧ ¬ (s.slotIs .a (0 : BitVec 5).toNat .opened = true ∧ (3 : Byte) = slotCode .filled)
      ∧ ¬ (s.slotIs .a (0 : BitVec 5).toNat .done = true ∧ (3 : Byte) = slotCode .free) := by
  unfold State.Ready; decide +kernel

theorem witness_SlotStateWriteIsARequest_absent : oneLane.Ready ∧ oneLane.present .b = false := by
  unfold State.Ready; decide +kernel

theorem witness_ExchangeMemoryWriteStores :
    line.Ready ∧ line.load = none ∧ (Instr.exchangeMemoryWrite 0xFFEE 7 both).wf = true ∧ (0xFFEE : Half).toNat < 0xFFF0
      ∧ managedSlot (0xFFEE : Half).toNat = none := by unfold State.Ready; decide +kernel

/-- R3: a slot state byte of the absent lane B. -/
theorem witness_ExchangeMemoryWriteStores_absent :
    oneLane.Ready ∧ oneLane.load = none ∧ (Instr.exchangeMemoryWrite 0x1000 7 both).wf = true
      ∧ managedSlot (0x1000 : Half).toNat = some (.b, 0) ∧ oneLane.present .b = false := by unfold State.Ready; decide +kernel

theorem witness_ExchangeMemoryWriteStores_load :
    let s := { line with command := some .loadRates, load := some { copy := [0x18, 0x00] } }
    s.Ready ∧ s.load = some { copy := [0x18, 0x00] }
      ∧ (Instr.exchangeMemoryWrite 0x2000 7 both).wf = true ∧ 0x2000 ≤ (0x2000 : Half).toNat := by unfold State.Ready; decide +kernel

/-- R1, R2: the word that holds the state byte of slot 31 of lane B, with one strobe on either side. -/
theorem witness_ExchangeMemoryWriteStores_slot_state :
    line.Ready ∧ line.present .b = true ∧ line.CanonicalMemory ∧ both.wf = true ∧ (⟨true, false⟩ : Strobes).wf = true
      ∧ (⟨false, true⟩ : Strobes).wf = true ∧ BitVec.ofNat 16 (slotAddress .b (31 : BitVec 5).toNat) = 0x17C0#16 := by
  unfold State.Ready State.CanonicalMemory; decide +kernel

theorem witness_RegisterWrites : line.Ready ∧ (0xFFFE : Half) = 0xFFFE := by unfold State.Ready; decide +kernel

theorem witness_RegisterWrites_run :
    let s := { inSetup with part := .operating }
    s.Ready ∧ (0x0300 : Half).getLsbD 0 = false ∧ s.present .b = true
      ∧ runMoves (s.tracker .b).state ((0x0300 : Half).getLsbD 9) s.part (s.tracker .b).queue.isEmpty = some .running := by
  unfold State.Ready; decide +kernel

theorem witness_RegisterWrites_post :
    line.supply = true ∧ (commandCode .closeSetup).isSome = true ∧ Instr.closeSetup.wf = true ∧ (1 : Half).getLsbD 0 = true := by
  decide

theorem witness_LaidCommandReadsBack :
    (commandCode (.claimSpoiled 0xFFFFFFFF (.atOnce .made))).isSome = true ∧ (Instr.claimSpoiled 0xFFFFFFFF (.atOnce .made)).wf = true := by
  decide +kernel

theorem witness_CommandRefusedOrIgnored_refused :
    line.TakesCommands ∧ takenIn .closeSetup line.part = false := by unfold State.TakesCommands State.Ready; decide +kernel

theorem witness_CommandRefusedOrIgnored_ignored :
    let s := { line with command := some .loadRates }
    s.Ready ∧ s.command ≠ none ∧ (commandCode .closeSetup).isSome = true ∧ Instr.closeSetup ≠ .restart := by
  unfold State.Ready; decide +kernel

theorem witness_CommandWithABadArgument_set_date :
    inSetup.TakesCommands ∧ takenIn (.setDate 9400 1440 0 .made) inSetup.part = true ∧ 1439 < (1440 : Half).toNat := by
  unfold State.TakesCommands State.Ready; decide +kernel

def laneArguments (lane : Byte) (window timer : Byte) : LaneArguments :=
  { lane := lane, edges := 0, entryLimit := 1, rateLimit := 1, printLimit := 65535, window := window, timer := timer, link := 1 }

theorem witness_CommandWithABadArgument_configure_lane :
    inSetup.TakesCommands ∧ takenIn (.configureLane (laneArguments 0 128 1)) inSetup.part = true ∧ inSetup.part = .setup
      ∧ 127 < (laneArguments 0 128 1).window.toNat := by unfold State.TakesCommands State.Ready; decide +kernel

theorem witness_CommandWithABadArgument_configure_stopped :
    let x := laneArguments 1 0 0
    let s := { inSetup with part := .operating }
    s.TakesCommands ∧ takenIn (.configureLane x) s.part = true
      ∧ (∀ lane, laneOfCode x.lane.toNat = some lane → (s.tracker lane).state = .stopped) ∧ x.timer = 0 :=
  ⟨⟨⟨rfl, rfl, rfl⟩, rfl⟩, rfl, (fun lane h => by cases h; rfl), rfl⟩

def licenceArguments (interval : Half) : LicenceArguments :=
  { meterId := 40711024, maximumFunds := 999999999999, perPieceCap := 999999, interval := interval, seed := 0, firstSerial := 1 }

def locked : State := { inSetup with part := .locked }

theorem witness_CommandWithABadArgument_install :
    locked.TakesCommands ∧ takenIn (.installLicence (licenceArguments 366) (.atOnce .made)) locked.part = true
      ∧ 365 < (licenceArguments 366).interval.toNat := by unfold State.TakesCommands State.Ready; decide +kernel

theorem witness_CommandWithABadArgument_voucher :
    let x : VoucherArguments := { meterId := 1, serial := 1, amount := 100000000, issueDay := 0, check := 0 }
    line.TakesCommands ∧ takenIn (.applyVoucher x (.atOnce .made)) line.part = true ∧ 99999999 < x.amount.toNat := by
  unfold State.TakesCommands State.Ready; decide +kernel

theorem witness_CommandWithABadArgument_account :
    line.TakesCommands ∧ takenIn (.setAccount 32 0 (.atOnce .made)) line.part = true ∧ 31 < (32 : Byte).toNat := by
  unfold State.TakesCommands State.Ready; decide +kernel

theorem witness_CommandWithABadArgument_alert :
    line.TakesCommands ∧ takenIn (.setFundsAlert 1000000000000 (.atOnce .made)) line.part = true
      ∧ 999999999999 < (1000000000000 : BitVec 48).toNat := by unfold State.TakesCommands State.Ready; decide +kernel

theorem witness_CommandWithABadArgument_open_batch :
    let s := { line with laneCount := .one }
    s.TakesCommands ∧ takenIn (.openBatch 1 7) s.part = true ∧ (1 : Byte) = 1 ∧ s.laneCount = .one := by
  unfold State.TakesCommands State.Ready; decide +kernel

theorem witness_CommandWithABadArgument_close_batch_resume :
    line.TakesCommands ∧ takenIn (.closeBatch 2) line.part = true ∧ takenIn (.resumeLane 2) line.part = true
      ∧ 1 < (2 : Byte).toNat := by unfold State.TakesCommands State.Ready; decide +kernel

theorem witness_CommandWithABadArgument_postdate :
    line.TakesCommands ∧ takenIn (.setPostdate 8) line.part = true ∧ 7 < (8 : Byte).toNat := by
  unfold State.TakesCommands State.Ready; decide +kernel

theorem witness_CommandWithABadArgument_unknown :
    line.TakesCommands ∧ takenIn (.unknownCommand 0x13) line.part = true ∧ (Instr.unknownCommand 0x13).wf = true := by
  unfold State.TakesCommands State.Ready; decide +kernel

theorem witness_SetDateSetsTheCalendar_no_switch :
    inSetup.TakesCommands ∧ inSetup.part = .setup ∧ (1439 : Half).toNat ≤ 1439 ∧ (59 : Byte).toNat ≤ 59
      ∧ inSetup.items.lastImprintDay ≤ (0 : Half).toNat
      ∧ ({ inSetup with calendar := { inSetup.calendar with day := 0, minute := 1439, second := 59, cycles := 0, valid := true } }
          : State).switchDue = false := by unfold State.TakesCommands State.Ready; decide +kernel

theorem witness_SetDateSetsTheCalendar_switch :
    let s := withBooks inSetup pendingBooks
    s.TakesCommands ∧ s.part = .setup ∧ s.items.lastImprintDay ≤ (9400 : Half).toNat
      ∧ ({ s with calendar := { s.calendar with day := 9400, minute := 0, second := 0, cycles := 0, valid := true } }
          : State).switchDue = true := by unfold State.TakesCommands State.Ready; decide +kernel

/-- The same switch found in its steps, with nothing held. -/
theorem witness_SetDateSetsTheCalendar_in_steps :
    let s := withBooks inSetup pendingBooks
    s.held = [] ∧ s.heldReset = none ∧ Pace.inSteps .filling = .inSteps .filling
      ∧ (after (.setDate 9400 0 0 (.inSteps .filling)) s).inStore = some (.setDate 9400 0 0) := by decide +kernel

theorem witness_ConfigureLaneSetsEveryItem_stopped :
    let x := laneArguments 1 127 255
    let s := { inSetup with part := .operating }
    s.TakesCommands ∧ laneOfCode x.lane.toNat = some .b ∧ s.present .b = true ∧ s.part = .operating
      ∧ (s.tracker .b).state = .stopped ∧ x.entryLimit ≠ 0 ∧ x.rateLimit ≠ 0 ∧ x.printLimit ≠ 0 ∧ x.window.toNat ≤ 127
      ∧ x.timer ≠ 0 ∧ x.link.toNat ≤ 1 := by unfold State.TakesCommands State.Ready; decide +kernel

theorem witness_ConfigureLaneSetsEveryItem_running :
    line.TakesCommands ∧ laneOfCode (laneArguments 1 127 255).lane.toNat = some .b ∧ line.present .b = true
      ∧ line.part = .operating ∧ ¬ (line.part = .setup ∨ (line.tracker .b).state = .stopped) := by
  unfold State.TakesCommands State.Ready; decide +kernel

theorem witness_CloseSetupAndSetPostdate_setup : inSetup.TakesCommands ∧ inSetup.part = .setup := by
  unfold State.TakesCommands State.Ready; decide +kernel

theorem witness_CloseSetupAndSetPostdate_operating :
    line.TakesCommands ∧ line.part = .operating ∧ (7 : Byte).toNat ≤ 7 := by unfold State.TakesCommands State.Ready; decide +kernel

theorem witness_InstallLicenceStartsTheBooks :
    let x := licenceArguments 365
    locked.TakesCommands ∧ locked.part = .locked ∧ x.meterId ≠ 0 ∧ x.maximumFunds ≠ 0
      ∧ x.maximumFunds.toNat ≤ 999999999999 ∧ x.perPieceCap ≠ 0 ∧ x.perPieceCap.toNat ≤ 999999 ∧ x.interval ≠ 0
      ∧ x.interval.toNat ≤ 365 ∧ x.firstSerial ≠ 0 := by unfold State.TakesCommands State.Ready; decide +kernel

theorem witness_LoadRatesBeginsOrIsBusy_begins :
    line.TakesCommands ∧ line.part = .operating ∧ line.useCounts.get line.items.activeBank.other = 0 := by
  unfold State.TakesCommands State.Ready; decide +kernel

theorem witness_LoadRatesBeginsOrIsBusy_busy :
    let s := { line with useCounts := { one := 1, two := 1 } }
    s.TakesCommands ∧ s.part = .operating ∧ 0 < s.useCounts.get s.items.activeBank.other := by
  unfold State.TakesCommands State.Ready; decide +kernel

/-- A LOAD RATES in progress that has read nothing, over a staging area whose image length is 0. -/
def loadingNothing : State :=
  { line with mem := line.mem.writeBytes 0x2000 [0, 0, 0, 0], command := some .loadRates, load := some { copy := [] } }

theorem witness_FailedLoadChangesNoBank :
    loadingNothing.Ready ∧ loadingNothing.load = some { copy := [] }
      ∧ loadingNothing.validateImage [] = .error { status := .badArgument, report := LoadReport.bare 1 } := by
  unfold State.Ready; exact ⟨by decide +kernel, rfl, rfl⟩

theorem witness_ValidationFindsTheFirstFault_length :
    ofField loadingNothing.order (loadingNothing.staged [] 4) < 24 := by decide +kernel

/-- The image of a table without a chart, with one class of one format, effective on a day at minute 0. -/
def image (day : Nat) : List Byte :=
  let n := fieldBytes .lowFirst
  let cls := n 1 1 ++ n 4 10 ++ n 1 0 ++ List.replicate 40 0 ++ n 1 0 ++ n 1 1
  let format := n 2 3000 ++ n 2 2000 ++ n 2 200 ++ n 2 5000 ++ n 1 0 ++ n 1 1 ++ n 2 1000 ++ n 4 85000 ++ n 1 0 ++ n 1 255
  let rest := n 2 42 ++ n 2 day ++ n 2 0 ++ n 1 1 ++ n 1 1 ++ n 4 999999 ++ n 1 0 ++ List.replicate 3 0 ++ cls ++ format
    ++ List.replicate 48 0
  n 4 138 ++ n 4 (crc32 rest).toNat ++ rest

/-- A LOAD RATES in progress that has read a whole image. -/
def loading (day : Nat) : State := { line with command := some .loadRates, load := some { copy := image day } }

/-- The contents a validation built, if it passed. -/
def built : Except LoadFailure Bank → Option Bank
  | .ok bank => some bank
  | .error _ => none

theorem built_ok {r : Except LoadFailure Bank} (h : (built r).isSome = true) : ∃ bank, r = .ok bank := by
  cases r with
  | ok bank => exact ⟨bank, rfl⟩
  | error _ => cases h

theorem witness_CommitPutsTheImageInTheInactiveBank_now :
    (loading 9400).Ready ∧ (loading 9400).load = some { copy := image 9400 }
      ∧ (∃ bank, (loading 9400).validateImage (image 9400) = .ok bank)
      ∧ (loading 9400).useCounts.get (loading 9400).items.activeBank.other = 0
      ∧ ((loading 9400).calendar.valid && (loading 9400).calendar.reached 9400 0) = true :=
  ⟨⟨rfl, rfl, rfl⟩, rfl, built_ok (by decide +kernel), rfl, rfl⟩

theorem witness_CommitPutsTheImageInTheInactiveBank_later :
    (loading 9401).Ready ∧ (loading 9401).load = some { copy := image 9401 }
      ∧ (∃ bank, (loading 9401).validateImage (image 9401) = .ok bank)
      ∧ (loading 9401).useCounts.get (loading 9401).items.activeBank.other = 0
      ∧ ((loading 9401).calendar.valid && (loading 9401).calendar.reached 9401 0) = false :=
  ⟨⟨rfl, rfl, rfl⟩, rfl, built_ok (by decide +kernel), rfl, rfl⟩

theorem witness_CommitPutsTheImageInTheInactiveBank_busy :
    let s := { loading 9400 with useCounts := { one := 0, two := 1 } }
    s.Ready ∧ s.load = some { copy := image 9400 } ∧ (∃ bank, s.validateImage (image 9400) = .ok bank)
      ∧ 0 < s.useCounts.get s.items.activeBank.other := ⟨⟨rfl, rfl, rfl⟩, rfl, built_ok (by decide +kernel), by decide +kernel⟩

/-- A table of one class with one format of the breaks given and a minimum. -/
def tableOf (breaks : List Break) (minimum : Nat) : RawImage :=
  { tableId := 42, day := 9400, minute := 1439, rounding := 3, cap := 999999, chart := none
    classes :=
      [{ defined := true, minimum := minimum, defaultZone := 15, zoneFactors := List.replicate 16 4096,
         tierFactors := List.replicate 4 4096, tierMask := 0,
         formats := [{ letterFormat with breaks := breaks, divisor := some 1, extension := some { step := 1, price := 9 } }] }]
    services := List.replicate 8 noService }

def rising : List Break := [{ bound := 200, price := 1 }, { bound := 201, price := 2 }]

/-- A flag byte that is not 0 where it is set. -/
def flagByte (set : Byte) (flag : Bool) : Byte := if flag then set else 0

theorem flagByte_reads {set : Byte} (h : set ≠ 0) (flag : Bool) : FlagByte flag (flagByte set flag) := by
  cases flag <;> simp [FlagByte, flagByte]
  exact h

def formatOf (order : BusOrder) (set : Byte) (f : Format) : List Byte :=
  let n := fieldBytes order
  n 2 f.maxLength ++ n 2 f.maxWidth ++ n 2 f.maxThickness ++ n 2 f.maxWeight
    ++ [flagByte set f.divisor.isSome] ++ (match f.divisor with | some divisor => n 4 divisor | none => [])
    ++ n 1 f.breaks.length ++ f.breaks.flatMap (fun x => n 2 x.bound ++ n 4 x.price)
    ++ [flagByte set f.extension.isSome] ++ (match f.extension with | some x => n 2 x.step ++ n 4 x.price | none => [])
    ++ [f.services]

def classOf (order : BusOrder) (set : Byte) (c : ClassRecord) : List Byte :=
  let n := fieldBytes order
  [flagByte set c.defined] ++ n 4 c.minimum ++ n 1 c.defaultZone ++ c.zoneFactors.flatMap (n 2) ++ c.tierFactors.flatMap (n 2)
    ++ [c.tierMask] ++ n 1 c.formats.length ++ c.formats.flatMap (formatOf order set)

def serviceOf (order : BusOrder) (set : Byte) (k : Service) : List Byte :=
  [flagByte set k.defined] ++ fieldBytes order 4 (unsignedOf 32 k.amount) ++ [k.excludes]

/-- The records of a table with every set flag byte at one value. -/
def recordsOf (order : BusOrder) (set : Byte) (x : RawImage) : List Byte :=
  ((x.chart.map (fun zones => zones.flatMap (fieldBytes order 1))).getD []) ++ x.classes.flatMap (classOf order set)
    ++ x.services.flatMap (serviceOf order set)

/-- The header of a table, its last three bytes 7, 8 and 9. -/
def headerOf (order : BusOrder) (set : Byte) (x : RawImage) : List Byte :=
  let n := fieldBytes order
  n 2 x.tableId ++ n 2 x.day ++ n 2 x.minute ++ n 1 x.classes.length ++ n 1 x.rounding ++ n 4 x.cap
    ++ [flagByte set x.chart.isSome] ++ [7, 8, 9]

theorem encodesEach_flatMap {α : Type} {encodes : α → List Byte → Prop} {f : α → List Byte} (h : ∀ x, encodes x (f x)) :
    ∀ xs, EncodesEach encodes xs (xs.flatMap f)
  | [] => rfl
  | x :: xs => ⟨f x, xs.flatMap f, rfl, h x, encodesEach_flatMap h xs⟩

theorem encodes_records (order : BusOrder) {set : Byte} (h : set ≠ 0) (x : RawImage) :
    EncodesRecords order x (recordsOf order set x) :=
  ⟨_, _,
    encodesEach_flatMap (fun _ => ⟨_, _, flagByte_reads h _,
      encodesEach_flatMap (fun _ => ⟨_, _, flagByte_reads h _, flagByte_reads h _, rfl⟩) _, rfl⟩) _,
    encodesEach_flatMap (fun _ => ⟨_, flagByte_reads h _, rfl⟩) _, rfl⟩

theorem encodes_header (order : BusOrder) {set : Byte} (h : set ≠ 0) (x : RawImage) :
    EncodesHeader order x (headerOf order set x) := ⟨_, _, flagByte_reads h _, rfl, rfl⟩

/-- The line with an image in its staging area: its length, a check word and the bytes that the check word covers. -/
def staging (covered : List Byte) (check : Nat) : State :=
  let staged := fieldBytes .lowFirst 4 (covered.length + 8) ++ fieldBytes .lowFirst 4 check ++ covered
  { line with mem := line.mem.writeBytes 0x2000 staged }

/-- The bytes that the check word of a table's image covers, every set flag byte 0x80. -/
def coveredBy (x : RawImage) : List Byte := headerOf .lowFirst 0x80 x ++ recordsOf .lowFirst 0x80 x

def goodCheck (covered : List Byte) : Nat := (crc32 covered).toNat

theorem fits_tableOf {breaks : List Break} {minimum : Nat} (length : breaks.length < 256) (small : minimum < 256 ^ 4)
    (fields : ∀ k ∈ breaks, k.bound < 256 ^ 2 ∧ k.price < 256 ^ 4) : (tableOf breaks minimum).Fits := by
  simp +decide [RawImage.Fits, tableOf, letterFormat, noService]
  exact ⟨by simpa using small, by simpa using length, by simpa using fields⟩

theorem witness_ValidationFindsTheFirstFault_check :
    let x := tableOf rising 0
    let header := headerOf .lowFirst 1 x
    EncodesHeader .lowFirst x header ∧ (staging header 0).Stages [] (header ++ []) 0 ∧ 0 < 256 ^ 4
      ∧ 0 ≠ (crc32 (header ++ [])).toNat :=
  ⟨encodes_header _ (by decide) _, by unfold State.Stages; decide +kernel, by decide, by decide +kernel⟩

theorem witness_ValidationFindsTheFirstFault_passes :
    let x := tableOf rising 999999
    x.Fits ∧ EncodesHeader .lowFirst x (headerOf .lowFirst 0x80 x) ∧ EncodesRecords .lowFirst x (recordsOf .lowFirst 0x80 x)
      ∧ (staging (coveredBy x) (goodCheck (coveredBy x))).Stages [] (coveredBy x) (goodCheck (coveredBy x))
      ∧ firstFailed (countChecks x ++ breakChecks x ++ rangeChecks x ++ capChecks x) = none :=
  ⟨fits_tableOf (by decide) (by decide) (by decide), encodes_header _ (by decide) _, encodes_records _ (by decide) _,
    by unfold State.Stages; decide +kernel, by decide +kernel⟩

theorem witness_ValidationFindsTheFirstFault_fails :
    let x := tableOf [{ bound := 200, price := 1 }, { bound := 200, price := 2 }] 1000000
    x.Fits ∧ EncodesHeader .lowFirst x (headerOf .lowFirst 0x80 x) ∧ EncodesRecords .lowFirst x (recordsOf .lowFirst 0x80 x)
      ∧ (staging (coveredBy x) (goodCheck (coveredBy x))).Stages [] (coveredBy x) (goodCheck (coveredBy x))
      ∧ firstFailed (countChecks x ++ breakChecks x ++ rangeChecks x ++ capChecks x)
        = some { LoadReport.bare 4 with cls := some 0, format := some 1, priceBreak := some 2 } :=
  ⟨fits_tableOf (by decide) (by decide) (by decide), encodes_header _ (by decide) _, encodes_records _ (by decide) _,
    by unfold State.Stages; decide +kernel, by decide +kernel⟩

theorem witness_ValidationFindsTheFirstFault_too_short :
    let x := tableOf rising 0
    let whole := recordsOf .lowFirst 1 x
    let covered := headerOf .lowFirst 1 x ++ whole.take 47
    x.Fits ∧ firstFailed (countChecks x) = none ∧ EncodesRecords .lowFirst x whole
      ∧ (∃ rest, rest ≠ [] ∧ (whole.take 47 ++ rest = whole ∨ whole.take 47 = whole ++ rest))
      ∧ (staging covered (goodCheck covered)).Stages [] covered (goodCheck covered) :=
  ⟨fits_tableOf (by decide) (by decide) (by decide), by decide +kernel, encodes_records _ (by decide) _,
    ⟨(recordsOf .lowFirst 1 (tableOf rising 0)).drop 47, by decide +kernel, .inl (List.take_append_drop _ _)⟩,
    by unfold State.Stages; decide +kernel⟩

/-- The load has read the first six bytes, the image length and half the check word, before the line controller wrote over them. -/
theorem witness_ValidationFindsTheFirstFault_read_before :
    let covered := coveredBy (tableOf rising 999999)
    let s := staging covered (goodCheck covered)
    ({ s with mem := s.mem.writeBytes 0x2000 (List.replicate 6 0) }).Stages (s.readBytes 0x2000 6) covered (goodCheck covered) := by
  unfold State.Stages; decide +kernel

/-- R100: the second break of a format is out of order; the validation reports its class, format and break. -/
theorem test_break_out_of_order :
    let covered := coveredBy (tableOf [{ bound := 200, price := 1 }, { bound := 200, price := 2 }] 1000000)
    (match (staging covered (goodCheck covered)).validateImage [] with
      | .error failure => decide (failure.status = .badArgument
          ∧ failure.report = { LoadReport.bare 4 with cls := some 0, format := some 1, priceBreak := some 2 })
      | .ok _ => false) = true := by
  decide +kernel

/-- The check word chapter 7 gives a voucher under the licence's seed. -/
def voucherWord (x : VoucherArguments) : Word :=
  crc32 (highFirstBytes 4 x.meterId.toNat ++ highFirstBytes 4 x.serial.toNat ++ highFirstBytes 4 x.amount.toNat
    ++ highFirstBytes 2 x.issueDay.toNat ++ highFirstBytes 4 licenceOne.seed.toNat)

theorem witness_VoucherRefusedAtItsFirstFailedCheck_meter :
    let x := { voucherOf 301 99999999 with meterId := 1 }
    line.TakesCommands ∧ line.part = .operating ∧ line.items.licence = some licenceOne ∧ x.amount ≠ 0
      ∧ x.amount.toNat ≤ 99999999 ∧ ¬ x.meterId.toNat = licenceOne.meterId := by
  unfold State.TakesCommands State.Ready; decide +kernel

theorem witness_VoucherRefusedAtItsFirstFailedCheck_word :
    let x := { voucherOf 301 1 with check := 0 }
    line.TakesCommands ∧ line.part = .operating ∧ line.items.licence = some licenceOne ∧ x.amount ≠ 0
      ∧ x.meterId.toNat = licenceOne.meterId ∧ ¬ x.check = voucherWord x := by
  unfold State.TakesCommands State.Ready; decide +kernel

theorem witness_VoucherRefusedAtItsFirstFailedCheck_serial :
    let x := voucherOf 302 1
    line.TakesCommands ∧ line.part = .operating ∧ line.items.licence = some licenceOne ∧ x.amount ≠ 0
      ∧ x.meterId.toNat = licenceOne.meterId ∧ x.check = voucherWord x
      ∧ ¬ x.serial.toNat = line.items.voucherSerial + 1 := by unfold State.TakesCommands State.Ready; decide +kernel

theorem witness_VoucherRefusedAtItsFirstFailedCheck_limit :
    let x := voucherOf 301 499001
    line.TakesCommands ∧ line.part = .operating ∧ line.items.licence = some licenceOne ∧ x.amount ≠ 0
      ∧ x.meterId.toNat = licenceOne.meterId ∧ x.check = voucherWord x ∧ x.serial.toNat = line.items.voucherSerial + 1
      ∧ ¬ line.items.descending + x.amount.toNat ≤ licenceOne.maximumFunds := by
  unfold State.TakesCommands State.Ready; decide +kernel

theorem witness_VoucherCredited :
    let x := voucherOf 301 499000
    line.TakesCommands ∧ line.part = .operating ∧ line.items.licence = some licenceOne ∧ x.amount ≠ 0
      ∧ x.amount.toNat ≤ 99999999 ∧ x.meterId.toNat = licenceOne.meterId
      ∧ x.check = crc32 (voucherMessage x licenceOne.seed) ∧ x.serial.toNat = line.items.voucherSerial + 1
      ∧ line.items.descending + x.amount.toNat ≤ licenceOne.maximumFunds
      ∧ line.items.credit + x.amount.toNat ≤ 999999999999 := by unfold State.TakesCommands State.Ready; decide +kernel

theorem witness_SetAccountSetsOneState :
    line.TakesCommands ∧ line.part = .operating ∧ (31 : Byte).toNat < 32 ∧ (1 : Byte).toNat ≤ 1
      ∧ line.items.accounts[31]? = some { isOpen := false, usage := 0, pieces := 0 } := by
  unfold State.TakesCommands State.Ready; decide +kernel

theorem witness_SetFundsAlertSetsTheThreshold :
    line.TakesCommands ∧ line.part = .operating ∧ (999999999999 : BitVec 48).toNat ≤ 999999999999 := by
  unfold State.TakesCommands State.Ready; decide +kernel

theorem witness_ReportFundsShowsTheFunds :
    line.TakesCommands ∧ line.part = .operating ∧ line.items.licence = some licenceOne ∧ line.calendar.valid = true := by
  unfold State.TakesCommands State.Ready; decide +kernel

/-- A mark outstanding on each lane. -/
theorem witness_ReportFundsShowsTheFunds_marks :
    let mark : Mark := { serial := 4294967295, amount := 999999, account := 31, day := 65535 }
    let s := withBooks line { books with marks := { a := some mark, b := some { mark with serial := 1 } } }
    s.TakesCommands ∧ s.part = .operating ∧ s.items.marks.a = some mark ∧ s.items.marks.b = some { mark with serial := 1 } := by
  unfold State.TakesCommands State.Ready; decide +kernel

theorem witness_ReportFundsShowsTheFunds_locked :
    let s := { withBooks locked State.reset.items with calendar := Calendar.initial }
    s.TakesCommands ∧ s.part = .locked ∧ s.items.licence = none ∧ s.calendar.valid = false := by
  unfold State.TakesCommands State.Ready; decide +kernel

theorem witness_ReadAccountsShowsTheAccounts :
    line.TakesCommands ∧ line.part = .operating ∧ line.items.accounts.length = 32
      ∧ line.items.accounts[3]? = some { isOpen := true, usage := 0, pieces := 0 } := by
  unfold State.TakesCommands State.Ready; decide +kernel

theorem witness_OpenBatchOpensARecord_none :
    let s := { line with lanes := State.reset.lanes }
    s.TakesCommands ∧ s.part = .operating ∧ laneOfCode (1 : Byte).toNat = some .b ∧ s.present .b = true
      ∧ (s.tracker .b).batch.state = .none := by unfold State.TakesCommands State.Ready; decide +kernel

theorem witness_OpenBatchOpensARecord_open :
    line.TakesCommands ∧ line.part = .operating ∧ laneOfCode (1 : Byte).toNat = some .b ∧ line.present .b = true
      ∧ ¬ (line.tracker .b).batch.state = .none := by unfold State.TakesCommands State.Ready; decide +kernel

theorem witness_CloseBatchClosesOrEnds_in_flight :
    let s := carrying (piece .held .rate)
    s.TakesCommands ∧ s.part = .operating ∧ laneOfCode (0 : Byte).toNat = some .a ∧ s.present .a = true
      ∧ (s.tracker .a).batch.state = .opened ∧ 0 < (s.tracker .a).batch.inFlight := by
  unfold State.TakesCommands State.Ready; decide +kernel

theorem witness_CloseBatchClosesOrEnds_empty :
    line.TakesCommands ∧ line.part = .operating ∧ laneOfCode (0 : Byte).toNat = some .a ∧ line.present .a = true
      ∧ (line.tracker .a).batch.state = .opened ∧ (line.tracker .a).batch.inFlight = 0 := by
  unfold State.TakesCommands State.Ready; decide +kernel

theorem witness_CloseBatchClosesOrEnds_not_open :
    let s := { line with lanes := State.reset.lanes }
    s.TakesCommands ∧ s.part = .operating ∧ laneOfCode (0 : Byte).toNat = some .a ∧ s.present .a = true
      ∧ (s.tracker .a).batch.state ≠ .opened := by unfold State.TakesCommands State.Ready; decide +kernel

theorem witness_ResumeLaneRunsAHaltedLane_halted :
    let s := laneA line { runningLane with state := .halted, haltCause := some .jam }
    s.TakesCommands ∧ s.part = .operating ∧ laneOfCode (0 : Byte).toNat = some .a ∧ s.present .a = true
      ∧ (s.tracker .a).state = .halted := by unfold State.TakesCommands State.Ready; decide +kernel

theorem witness_ResumeLaneRunsAHaltedLane_running :
    line.TakesCommands ∧ line.part = .operating ∧ laneOfCode (0 : Byte).toNat = some .a ∧ line.present .a = true
      ∧ ¬ (line.tracker .a).state = .halted := by unfold State.TakesCommands State.Ready; decide +kernel

theorem witness_ClosePeriodStartsANewPeriod :
    line.TakesCommands ∧ line.part = .operating ∧ line.items.accounts.length = 32
      ∧ line.items.accounts[0]? = some { isOpen := false, usage := 0, pieces := 0 } := by
  unfold State.TakesCommands State.Ready; decide +kernel

theorem witness_ClaimSpoiledRemovesWhatItReports :
    let s := withBooks line { books with spoiled := (List.range 64).map (fun n => spoiledOne (n + 1) 1) }
    s.TakesCommands ∧ s.part = .operating ∧ s.items.spoiled.length ≤ 64 := by
  unfold State.TakesCommands State.Ready; decide +kernel

theorem witness_ParkEndsEverything :
    let s := { dispatched .awaiting with powerWarn := true }
    s.TakesCommands ∧ s.powerWarn = true ∧ s.part ≠ .start ∧ s.part ≠ .parked := by
  unfold State.TakesCommands State.Ready; decide +kernel

theorem witness_ParkEndsEverything_slots :
    let s := { dispatched .awaiting with powerWarn := true, rating := some { lane := .a, seq := 9, bank := .one, window := 0, input := letterFacts, working := Working.created } }
    s.TakesCommands ∧ s.powerWarn = true ∧ s.part ≠ .start ∧ s.part ≠ .parked ∧ s.items.marksPresent ≠ 0
      ∧ (∀ x ∈ (s.tracker .a).queue, ∀ index, x.slot = some index → index < 32)
      ∧ (s.tracker .a).queue.Pairwise (fun x y => x.seq ≠ y.seq ∧ (x.slot = none ∨ x.slot ≠ y.slot))
      ∧ piece .dispatched .print ∈ (s.tracker .a).queue ∧ (piece .dispatched .print).slot = some 0
      ∧ (s.link .a).outstanding = some imprintOne ∧ imprintOne.seq = (piece .dispatched .print).seq := by
  refine ⟨by unfold State.TakesCommands State.Ready; decide +kernel, rfl, by decide +kernel, by decide +kernel, by decide +kernel,
    ?_, by decide +kernel, by decide +kernel, rfl, rfl, rfl⟩
  intro x h index hi
  rw [List.mem_singleton.mp h] at hi
  cases hi
  decide

theorem witness_ParkEndsEverything_not_power_warning : line.TakesCommands ∧ line.powerWarn = false := by
  unfold State.TakesCommands State.Ready; decide +kernel

theorem witness_ParkEndsEverything_parked :
    let s := { inSetup with part := .parked, powerWarn := true }
    s.TakesCommands ∧ s.part = .parked := by unfold State.TakesCommands State.Ready; decide +kernel

theorem witness_ParkEndsEverything_in_start :
    let s := { State.reset with powerWarn := true }
    s.TakesCommands ∧ s.powerWarn = true ∧ s.part = .start := by unfold State.TakesCommands State.Ready; decide +kernel

/-- A QUEUED piece at the head of the take queue, with bank one holding the table of 4.13.1. -/
def queued : State :=
  { withBooks (carrying (piece .queued .rate)) { books with banks := { books.banks with one := bankOne } } with
    takeQueue := [{ lane := .a, seq := 0 }] }

theorem witness_TakeBindsTheHead :
    queued.Ready ∧ queued.rating = none ∧ queued.takeQueue = [{ lane := .a, seq := 0 }]
      ∧ (queued.tracker .a).find 0 = some (piece .queued .rate) ∧ (piece .queued .rate).input = some letterFacts := by
  unfold State.Ready; decide +kernel

def recordOf (facts : InputCopy) : RatingRecord :=
  { lane := .a, seq := 0, bank := .one, window := 32, input := facts, working := worked bankOne facts 32 }

/-- The rating in progress of the piece of 4.13.1. -/
def rating (e : TrackEntry) (facts : InputCopy) : State :=
  { withBooks (carrying e) { books with banks := { books.banks with one := bankOne } } with
    rating := some (recordOf facts), useCounts := { one := 1, two := 0 } }

theorem witness_CompletionPricesOrRefusesAPiece_priced :
    let e := piece .rating .rate
    let s := rating e letterFacts
    s.Ready ∧ s.rating = some (recordOf letterFacts) ∧ (s.tracker .a).state.tracks = true ∧ (s.tracker .a).find 0 = some e
      ∧ e.seq = 0 ∧ e.stage = .rating ∧ e.requested = false ∧ e.slot = some 0 ∧ (s.items.banks.get .one).tableId ≠ 0
      ∧ ((recordOf letterFacts).working.result (s.items.banks.get .one) letterFacts (s.items.licence.map Licence.perPieceCap)).rated
          = .priced 279 2 3 1234 := by
  unfold State.Ready; decide +kernel

theorem witness_CompletionPricesOrRefusesAPiece_refused :
    let e := piece .rating .rate
    let facts := { letterFacts with status := .unstable }
    let s := rating e facts
    s.Ready ∧ s.rating = some (recordOf facts) ∧ (s.tracker .a).state.tracks = true ∧ (s.tracker .a).find 0 = some e
      ∧ e.seq = 0 ∧ e.stage = .rating ∧ e.requested = false ∧ e.slot = some 0 ∧ (s.items.banks.get .one).tableId ≠ 0
      ∧ ((recordOf facts).working.result (s.items.banks.get .one) facts (s.items.licence.map Licence.perPieceCap)).rated
          = .refused .weightUnsettled := by
  unfold State.Ready; decide +kernel

/-- The bound bank holds no table (R57). -/
theorem witness_CompletionPricesOrRefusesAPiece_no_table :
    let e := piece .rating .rate
    let record := { recordOf letterFacts with working := worked { bankOne with tableId := 0 } letterFacts 32 }
    let s := { rating e letterFacts with
      rating := some record
      store := { (rating e letterFacts).store with
        items := { books with banks := { books.banks with one := { bankOne with tableId := 0 } } } } }
    s.Ready ∧ s.rating = some record ∧ (s.tracker .a).find 0 = some e ∧ e.slot = some 0
      ∧ (s.items.banks.get .one).tableId = 0
      ∧ (record.working.result (s.items.banks.get .one) letterFacts (s.items.licence.map Licence.perPieceCap)).rated
          = .refused .classUndefined := by
  unfold State.Ready; decide +kernel

theorem witness_WorkForAGoneEntryIsDropped_completion :
    let s := rating { piece .notFranked .print with cause := some .rateLate } letterFacts
    s.Ready ∧ s.rating = some (recordOf letterFacts)
      ∧ ∀ e, (s.tracker .a).find 0 = some e → e.stage ≠ .rating ∨ e.requested = true :=
  ⟨⟨rfl, rfl, rfl⟩, rfl, fun e h => by cases h; decide +kernel⟩

theorem witness_WorkForAGoneEntryIsDropped_halted :
    let s := laneA (rating (piece .rating .rate) letterFacts) { runningLane with state := .halted }
    s.Ready ∧ s.rating = some (recordOf letterFacts) ∧ (s.tracker .a).state.tracks = false := ⟨⟨rfl, rfl, rfl⟩, rfl, rfl⟩

theorem witness_WorkForAGoneEntryIsDropped_request :
    let s := { line with requests := [holdOne] }
    s.Ready ∧ s.requests = [holdOne] ∧ ∀ e, (s.tracker .a).find 0 = some e → e.stage ≠ .rating ∨ e.requested = false :=
  ⟨⟨rfl, rfl, rfl⟩, rfl, fun e h => by cases h⟩

theorem witness_PostageIsWithinItsLimits :
    (rate bankOne letterFacts 32 (some 50000)).rated = .priced 279 2 3 1234 := by decide +kernel

theorem witness_PostageIsWithinItsLimits_unsettled :
    ¬ ({ letterFacts with status := .none } : InputCopy).status = .stable := by decide

theorem witness_PostageIsWithinItsLimits_missing :
    let x := { letterFacts with thickness := 0 }
    x.status = .stable ∧ ¬ (x.length ≠ 0 ∧ x.width ≠ 0 ∧ x.thickness ≠ 0) := by decide

theorem defines_classTwo : bankOne.Defines 2 classTwo := ⟨by decide, by decide, rfl, rfl⟩

/-- Class 15 is within the range and not defined, class 16 is outside it. -/
theorem witness_PostageIsWithinItsLimits_undefined :
    letterFacts.status = .stable ∧ (letterFacts.length ≠ 0 ∧ letterFacts.width ≠ 0 ∧ letterFacts.thickness ≠ 0)
      ∧ (¬ ∃ record, bankOne.Defines 15 record) ∧ ¬ ∃ record, bankOne.Defines 16 record :=
  ⟨rfl, by decide, fun ⟨_, h⟩ => (by cases h.2.2.1), fun ⟨_, h⟩ => absurd h.2.1 (by decide)⟩

theorem witness_PostageIsWithinItsLimits_hand_hold :
    let x := { letterFacts with handHold := true }
    x.status = .stable ∧ (∃ record, bankOne.Defines x.cls record) ∧ x.handHold = true := ⟨rfl, ⟨_, defines_classTwo⟩, rfl⟩

theorem witness_PostageIsWithinItsLimits_out_of_format :
    let x := { letterFacts with thickness := 251 }
    x.status = .stable ∧ x.thickness ≠ 0 ∧ bankOne.Defines x.cls classTwo ∧ x.handHold = false
      ∧ ∀ f ∈ classTwo.formats, ¬ f.Admits x :=
  ⟨rfl, by decide, defines_classTwo, rfl, by unfold Format.Admits; decide +kernel⟩

/-- The bank of 4.13.1 with other records for its large letter. -/
def classWith (f : Format) : ClassRecord := { classTwo with formats := [letterFormat, f] }
def bankWith (f : Format) : Bank := { bankOne with classes := [ClassRecord.undefined, ClassRecord.undefined, classWith f] }

theorem firstFit_large {f : Format} {x : InputCopy} (letter : ¬ letterFormat.Admits x) (large : f.Admits x) :
    (classWith f).FirstFit x 2 f :=
  ⟨by decide, rfl, large, fun k g hk hg => by
    obtain rfl : k = 0 := by omega
    cases hg; exact letter⟩

/-- 4.13.1: the piece is priced at the second break of the second format, its service is allowed and zone 3 has a factor. -/
theorem witness_PostageIsWithinItsLimits_priced :
    let w := worked (bankWith largeLetter) letterFacts 32
    (bankWith largeLetter).Defines letterFacts.cls (classWith largeLetter)
      ∧ (classWith largeLetter).FirstFit letterFacts 2 largeLetter
      ∧ largeLetter.Prices w.weight 168000 ∧ (∀ k ∈ w.kept, largeLetter.services.getLsbD k = true)
      ∧ (classWith largeLetter).zoneFactors[w.zone]? = some 4710 :=
  ⟨⟨by decide, by decide, rfl, rfl⟩, firstFit_large (by unfold Format.Admits; decide) (by unfold Format.Admits; decide),
    .inl ⟨1, { bound := 2500, price := 168000 }, rfl, by decide +kernel, fun j c hj hc => by
      obtain rfl : j = 0 := by omega
      cases hc; decide +kernel, rfl⟩,
    by decide +kernel, by decide +kernel⟩

/-- One unit above the last bound: with an extension a whole step is counted, and without one the piece is over weight. -/
theorem witness_PostageIsWithinItsLimits_above_last_bound :
    let wide := { largeLetter with maxWeight := 65535 }
    let steps := { wide with extension := some { step := 65535, price := 9 } }
    let x := { letterFacts with weight := 7501 }
    (classWith wide).FirstFit x 2 wide ∧ wide.extension = none
      ∧ (∀ b ∈ wide.breaks, b.bound < (worked (bankWith wide) x 32).weight)
      ∧ (classWith steps).FirstFit x 2 steps ∧ steps.Prices (worked (bankWith steps) x 32).weight 301009 :=
  ⟨firstFit_large (by unfold Format.Admits; decide) (by unfold Format.Admits; decide), rfl, by decide +kernel,
    firstFit_large (by unfold Format.Admits; decide) (by unfold Format.Admits; decide),
    .inr ⟨{ bound := 7500, price := 301000 }, { step := 65535, price := 9 }, rfl, rfl, by decide +kernel, by decide +kernel⟩⟩

theorem witness_PostageIsWithinItsLimits_not_allowed :
    let bare := { largeLetter with services := 0xFD }
    (classWith bare).FirstFit letterFacts 2 bare
      ∧ ∃ k ∈ (worked (bankWith bare) letterFacts 32).kept, bare.services.getLsbD k = false :=
  ⟨firstFit_large (by unfold Format.Admits; decide) (by unfold Format.Admits; decide), 1, by decide +kernel, rfl⟩

/-- The limit stage: a postage below the minimum of 85, one at the cap, one above it, and OVERFLOW. -/
theorem witness_PostageIsWithinItsLimits_limits :
    let w := worked bankOne letterFacts 32
    w.refusal = none ∧ w.flags.overflow = false ∧ bankOne.Defines letterFacts.cls classTwo
      ∧ max w.postage classTwo.minimum = min bankOne.cap 279 ∧ min bankOne.cap 278 < max w.postage classTwo.minimum
      ∧ ({ w with postage := 84 } : Working).postage < classTwo.minimum
      ∧ ({ w with flags := { w.flags with overflow := true } } : Working).flags.overflow = true :=
  ⟨by decide +kernel, by decide +kernel, defines_classTwo, by decide +kernel, by decide +kernel, by decide +kernel, rfl⟩

/-- A piece that awaits its hold, its request of an amount against an account before the funds unit. -/
def requesting (account amount : Nat) : State :=
  { carrying { piece .rating .rate with requested := true } with requests := [{ holdOne with account := account, amount := amount }] }

theorem witness_HoldRequestPlacedOrRefused_placed :
    let s := requesting 3 1000
    s.Ready ∧ (s.tracker .a).find 0 = some { piece .rating .rate with requested := true }
      ∧ (∃ x, s.items.accounts[3]? = some x ∧ x.isOpen = true) ∧ s.calendar.day - s.items.voucherDay < licenceOne.interval
      ∧ 1000 ≤ s.available ∧ s.items.pieceCount + s.holds.length < 4294967295 :=
  ⟨⟨rfl, rfl, rfl⟩, rfl, ⟨_, rfl, rfl⟩, by decide +kernel, by decide +kernel, by decide +kernel⟩

theorem witness_HoldRequestPlacedOrRefused_closed :
    let s := requesting 32 1
    s.Ready ∧ ¬ ∃ x, s.items.accounts[32]? = some x ∧ x.isOpen = true :=
  ⟨⟨rfl, rfl, rfl⟩, fun ⟨x, h, _⟩ => by cases h⟩

theorem witness_HoldRequestPlacedOrRefused_inspection :
    let s := { requesting 3 1 with calendar := { line.calendar with day := 9480 } }
    s.Ready ∧ (∃ x, s.items.accounts[3]? = some x ∧ x.isOpen = true) ∧ s.calendar.valid = true
      ∧ s.items.licence = some licenceOne ∧ ¬ s.calendar.day - s.items.voucherDay < licenceOne.interval :=
  ⟨⟨rfl, rfl, rfl⟩, ⟨_, rfl, rfl⟩, rfl, rfl, by decide +kernel⟩

theorem witness_HoldRequestPlacedOrRefused_no_funds :
    let s := requesting 3 1001
    s.Ready ∧ (∃ x, s.items.accounts[3]? = some x ∧ x.isOpen = true)
      ∧ s.calendar.day - s.items.voucherDay < licenceOne.interval ∧ ¬ 1001 ≤ s.available :=
  ⟨⟨rfl, rfl, rfl⟩, ⟨_, rfl, rfl⟩, by decide +kernel, by decide +kernel⟩

theorem witness_LinkSendsAndReads_sending :
    (dispatched .sending).Ready ∧ (dispatched .sending).present .a = true ∧ ((dispatched .sending).link .a).state = .sending := by
  unfold State.Ready; decide +kernel

theorem witness_LinkSendsAndReads_awaiting :
    (dispatched .awaiting).Ready ∧ (dispatched .awaiting).present .a = true
      ∧ ((dispatched .awaiting).link .a).state = .awaiting := by unfold State.Ready; decide +kernel

theorem witness_LinkSendsAndReads_late :
    let s := linkA line { Link.reset with late := some 7 }
    s.Ready ∧ s.present .a = true ∧ (s.link .a).state = .idle ∧ (s.link .a).late ≠ none := by unfold State.Ready; decide +kernel

theorem witness_LinkSendsAndReads_ignored :
    line.Ready ∧ line.present .a = true ∧ (line.link .a).state = .idle ∧ (line.link .a).late = none := by
  unfold State.Ready; decide +kernel

/-- A link that reads the answer to its outstanding imprint, with a fault count, a late serial and a held expiry. -/
def readingAnswer (faults : Nat) (late : Option Half) (expiryHeld : Bool) : State :=
  linkA (dispatched .reading)
    { (dispatched .reading).links.a with faults := faults, late := late, expiryHeld := expiryHeld }

theorem witness_AnswerSettlesOrIsLate_result :
    let s := readingAnswer 2 none false
    let frame := answerFrame 1 5
    s.Ready ∧ s.present .a = true ∧ (s.link .a).state = .reading ∧ (s.link .a).outstanding = some imprintOne
      ∧ (s.link .a).heldDispatch = false
      ∧ (crc16 0xFFFF#16 ((answerBytes frame).take 4)).toNat = frame.toNat % 65536 ∧ frame.toNat / 2 ^ 40 = 0x52
      ∧ frame.toNat / 2 ^ 24 % 65536 = imprintOne.serial % 65536
      ∧ frame.toNat / 2 ^ 16 % 256 = printResultCode .frameRejected := by unfold State.Ready; decide +kernel

theorem witness_AnswerSettlesOrIsLate_bad_check :
    let frame := answerFrame 1 1 + 1
    (readingAnswer 0 (some 1) true).Ready
      ∧ ¬ (crc16 0xFFFF#16 ((answerBytes frame).take 4)).toNat = frame.toNat % 65536 := by unfold State.Ready; decide +kernel

theorem witness_AnswerSettlesOrIsLate_bad_serial :
    let s := readingAnswer 0 (some 7) false
    let frame := answerFrame 8 1
    s.Ready ∧ (crc16 0xFFFF#16 ((answerBytes frame).take 4)).toNat = frame.toNat % 65536 ∧ frame.toNat / 2 ^ 40 = 0x52
      ∧ ¬ frame.toNat / 2 ^ 24 % 65536 = imprintOne.serial % 65536
      ∧ ¬ (s.link .a).late = some (BitVec.ofNat 16 (frame.toNat / 2 ^ 24 % 65536)) := by unfold State.Ready; decide +kernel

theorem witness_AnswerSettlesOrIsLate_bad_result :
    let frame := answerFrame 1 6
    (crc16 0xFFFF#16 ((answerBytes frame).take 4)).toNat = frame.toNat % 65536 ∧ frame.toNat / 2 ^ 40 = 0x52
      ∧ frame.toNat / 2 ^ 24 % 65536 = imprintOne.serial % 65536 ∧ 5 < frame.toNat / 2 ^ 16 % 256 := by decide +kernel

theorem witness_AnswerSettlesOrIsLate_late (expiryHeld : Bool) :
    let s := readingAnswer 0 (some 7) expiryHeld
    let frame := answerFrame 7 1
    s.Ready ∧ (s.link .a).state = .reading ∧ (s.link .a).outstanding = some imprintOne ∧ (s.link .a).heldDispatch = false
      ∧ (crc16 0xFFFF#16 ((answerBytes frame).take 4)).toNat = frame.toNat % 65536 ∧ frame.toNat / 2 ^ 40 = 0x52
      ∧ ¬ frame.toNat / 2 ^ 24 % 65536 = imprintOne.serial % 65536
      ∧ (s.link .a).late = some (BitVec.ofNat 16 (frame.toNat / 2 ^ 24 % 65536)) ∧ (s.link .a).expiryHeld = expiryHeld := by
  cases expiryHeld <;> (unfold State.Ready; decide +kernel)

theorem witness_AnswerSettlesOrIsLate_late_read :
    let s := linkA line { Link.reset with state := .reading, late := some 7 }
    s.Ready ∧ s.present .a = true ∧ (s.link .a).state = .reading ∧ (s.link .a).outstanding = none := by
  unfold State.Ready; decide +kernel

theorem witness_AnswerSettlesOrIsLate_held_dispatch :
    let s := linkA (dispatched .reading) { (dispatched .reading).links.a with heldDispatch := true, late := some 7 }
    s.Ready ∧ s.present .a = true ∧ (s.link .a).state = .reading ∧ (s.link .a).outstanding = some imprintOne
      ∧ (s.link .a).heldDispatch = true := by unfold State.Ready; decide +kernel

/-- The hypotheses inside a settling: a piece before EXIT, one past it, a third fault and a HALTING lane. -/
theorem witness_SettlesExchange_before_exit :
    let s := readingAnswer 1 none false
    let e := piece .dispatched .print
    (s.tracker .a).find imprintOne.seq = some e ∧ e.slot = some 0 ∧ (s.tracker .a).state.tracks = true
      ∧ ¬ 2 ≤ (s.link .a).faults ∧ e.position ≠ .exit := by decide +kernel

theorem witness_SettlesExchange_past_exit :
    let e := piece .dispatched .exit
    let s := linkA (carrying e) (dispatched .reading).links.a
    (s.tracker .a).find imprintOne.seq = some e ∧ e.slot = some 0 ∧ (s.tracker .a).state.tracks = true
      ∧ ¬ 2 ≤ (s.link .a).faults ∧ e.position = .exit ∧ (s.tracker .a).batch.state ≠ .none := by decide +kernel

theorem witness_SettlesExchange_third_fault :
    let s := laneA (readingAnswer 2 none false) { (dispatched .reading).lanes.a with state := .draining }
    2 ≤ (s.link .a).faults ∧ (s.tracker .a).state.tracks = true := by decide +kernel

theorem witness_SettlesExchange_halting :
    let s := laneA (dispatched .reading) { (dispatched .reading).lanes.a with state := .halting, haltCause := some .jam }
    s.Ready ∧ (s.tracker .a).state = .halting := by unfold State.Ready; decide +kernel

/-- A third fault, with the piece past EXIT and an entry behind it. -/
theorem witness_SettlesExchange_halts_past_exit :
    let e := piece .dispatched .exit
    let s := linkA (laneA line { runningLane with queue := [e, TrackEntry.opened 1 5], nextSeq := 2 })
      { (dispatched .reading).links.a with faults := 2 }
    (s.tracker .a).find imprintOne.seq = some e ∧ e.slot = some 0 ∧ e.position = .exit ∧ 2 ≤ (s.link .a).faults
      ∧ (s.tracker .a).state.tracks = true
      ∧ ∀ x ∈ (s.tracker .a).queue, ∀ index, x.slot = some index → index < 32 := by
  refine ⟨by decide +kernel, rfl, rfl, by decide +kernel, rfl, ?_⟩
  intro x h index hi
  simp only [State.tracker, linkA, laneA, PerLane.get, List.mem_cons, List.not_mem_nil, or_false] at h
  rcases h with rfl | rfl <;> cases hi <;> decide

theorem witness_TimerExpirySpoils_awaiting :
    let s := linkA (dispatched .awaiting) { (dispatched .awaiting).links.a with faults := 2 }
    s.Ready ∧ s.present .a = true ∧ (s.link .a).timer = some 40 ∧ (s.link .a).outstanding = some imprintOne
      ∧ (s.link .a).state = .awaiting := by unfold State.Ready; decide +kernel

theorem witness_TimerExpirySpoils_reading :
    let s := dispatched .reading
    s.Ready ∧ s.present .a = true ∧ (s.link .a).timer = some 40 ∧ (s.link .a).outstanding = some imprintOne
      ∧ (s.link .a).state = .reading := by unfold State.Ready; decide +kernel

theorem witness_SpoiledListAndMarksStayLawful_placed :
    let list := [spoiledOne 899 5, spoiledOne 901 7]
    list.Pairwise (fun x y => x.serial < y.serial) ∧ ∀ x ∈ list, x.serial ≠ (spoiledOne 900 6).serial := by decide +kernel

theorem witness_SpoiledListAndMarksStayLawful_step :
    let s := waiting (.print .a .rising .made) holding
    s.LawfulFunds ∧ s.LawfulImprints ∧ ∃ t, step s = .next t :=
  ⟨witness_EveryStepKeepsTheFundsLaws.1,
    ⟨⟨.nil, by decide +kernel, (fun _ h => by cases h), (fun lane _ h => by cases lane <;> cases h), (fun _ _ h => by cases h)⟩,
      (fun _ lane => by cases lane <;> rfl), (fun h => absurd rfl h), (fun _ h => by cases h), (fun _ _ h => by cases h)⟩,
    goesOn_next (by decide +kernel)⟩

theorem witness_CalendarCounts_second :
    let s := { line with calendar := { line.calendar with second := 58 } }
    s.Settled ∧ s.calendar.running = true ∧ s.calendar.second < 59 := by unfold State.Settled; decide +kernel

theorem witness_CalendarCounts_minute :
    let s := { line with calendar := { line.calendar with second := 59 } }
    s.Settled ∧ s.calendar.running = true ∧ s.calendar.second = 59 := by unfold State.Settled; decide +kernel

theorem witness_CalendarCounts_stopped :
    let s := { line with calendar := { line.calendar with running := false } }
    s.Settled ∧ s.calendar.running = false := by unfold State.Settled; decide +kernel

theorem witness_CalendarCounts_start :
    State.reset.Ready ∧ State.reset.calendar.running = true ∧ State.reset.part = .start := by unfold State.Ready; decide +kernel

theorem witness_CalendarCounts_midnight :
    let s := { withBooks line pendingBooks with calendar := { line.calendar with day := 9399, minute := 1439 } }
    s.Ready ∧ s.calendar.running = true ∧ s.part ≠ .start ∧ 1439 ≤ s.calendar.minute
      ∧ ({ s with calendar := { s.calendar with day := 9400, minute := 0, second := 0, cycles := 0 } } : State).switchDue = true := by
  unfold State.Ready; decide +kernel

end Sys2Proof.Tests
end

section
/-! SUPPORT. Which bytes of exchange memory an update leaves alone, where the fields of the status block lie, and what the
rewrite at the end of an event comes to (R4, R5). -/

namespace Sys2Proof.Machine

/-! ### Bytes left alone -/

theorem UnchangedOutside.of_mem {s t : State} (ranges : List (Nat × Nat)) (mem : t.mem = s.mem)
    (powerOns : t.powerOns = s.powerOns) : UnchangedOutside ranges s t := by
  intro a _
  simp [State.readByte, mem, powerOns]

theorem UnchangedOutside.trans {ranges : List (Nat × Nat)} {s t u : State} (first : UnchangedOutside ranges s t)
    (second : UnchangedOutside ranges t u) : UnchangedOutside ranges s u :=
  fun a outside => (second a outside).trans (first a outside)

/-- Ranges may grow. -/
theorem UnchangedOutside.mono {small large : List (Nat × Nat)} {s t : State} (h : UnchangedOutside small s t)
    (covered : ∀ r ∈ small, ∃ q ∈ large, q.1 ≤ r.1 ∧ r.1 + r.2 ≤ q.1 + q.2) : UnchangedOutside large s t := by
  intro a outside
  refine h a fun r hr inside => ?_
  obtain ⟨q, hq, low, high⟩ := covered r hr
  exact outside q hq ⟨by have := inside.1; omega, by have := inside.2; omega⟩

/-- A field that lies off every range reads as before. -/
theorem UnchangedOutside.readField {ranges : List (Nat × Nat)} {s t : State} (h : UnchangedOutside ranges s t)
    (order : t.order = s.order) {a width : Nat} (off : ∀ r ∈ ranges, a + width ≤ r.1 ∨ r.1 + r.2 ≤ a) :
    t.readField a width = s.readField a width := by
  refine readField_congr a width order fun k hk => h _ fun r hr inside => ?_
  obtain ⟨low, high⟩ := inside
  have := off r hr
  omega

/-- Equal memories give equal fields. -/
theorem readField_of_mem {s t : State} (mem : t.mem = s.mem) (powerOns : t.powerOns = s.powerOns) (order : t.order = s.order)
    (a width : Nat) : t.readField a width = s.readField a width :=
  (UnchangedOutside.of_mem [] mem powerOns).readField order fun _ hr => nomatch hr

theorem unchangedOutside_writeByte (s : State) (a : Nat) (v : Byte) : UnchangedOutside [(a, 1)] s (s.writeByte a v) := by
  intro b outside
  have : ¬ Within (a, 1) b := outside _ List.mem_cons_self
  exact readByte_writeByte_other s a b v (by rintro rfl; exact this ⟨le_rfl, Nat.lt_succ_self _⟩)

theorem unchangedOutside_writeFields (s : State) (fs : List Field) :
    UnchangedOutside (fs.map fun f => (f.address, f.width)) s (s.writeFields fs) := by
  intro a outside
  refine readByte_writeFields s fs a fun f hf => ?_
  have : ¬ Within (f.address, f.width) a := outside _ (List.mem_map_of_mem hf)
  simpa [Within, Field.covers] using this

/-! ### Fields that lie apart -/

/-- Two fields with no byte in common. -/
def Field.Apart (f g : Field) : Prop := f.address + f.width ≤ g.address ∨ g.address + g.width ≤ f.address

/-- Of fields written together that lie apart each reads as the number it shows. -/
theorem readField_writeFields_of_mem (s : State) {fs : List Field} (apart : fs.Pairwise Field.Apart) {f : Field}
    (hf : f ∈ fs) : (s.writeFields fs).readField f.address f.width = f.value % 256 ^ f.width := by
  obtain ⟨before, after, rfl⟩ := List.append_of_mem hf
  obtain ⟨-, fromHere, -⟩ := List.pairwise_append.mp apart
  exact readField_writeFields s before after f fun g hg => (List.rel_of_pairwise_cons fromHere hg).symm

/-- Fields that follow one another upward, from one address to another. -/
def LaidOut : Nat → Nat → List Field → Prop
  | low, high, [] => low ≤ high
  | low, high, f :: fs => low ≤ f.address ∧ LaidOut (f.address + f.width) high fs

theorem LaidOut.le {low high : Nat} {fs : List Field} (h : LaidOut low high fs) : low ≤ high := by
  induction fs generalizing low with
  | nil => exact h
  | cons f fs ih =>
    obtain ⟨above, rest⟩ := h
    have := ih rest
    omega

theorem LaidOut.of_le {low lower high : Nat} {fs : List Field} (h : LaidOut low high fs) (le : lower ≤ low) :
    LaidOut lower high fs := by
  cases fs with
  | nil => exact le.trans h
  | cons f fs => exact ⟨le.trans h.1, h.2⟩

theorem LaidOut.append {low mid high : Nat} {fs gs : List Field} (hf : LaidOut low mid fs) (hg : LaidOut mid high gs) :
    LaidOut low high (fs ++ gs) := by
  induction fs generalizing low with
  | nil => exact hg.of_le hf
  | cons f fs ih => exact ⟨hf.1, ih hf.2⟩

/-- A group of fields may be left out. -/
theorem LaidOut.ite {low high : Nat} {fs : List Field} (h : LaidOut low high fs) (shown : Bool) :
    LaidOut low high (if shown then fs else []) := by
  cases shown
  · exact h.le
  · exact h

theorem LaidOut.within {low high : Nat} {fs : List Field} (h : LaidOut low high fs) {f : Field} (hf : f ∈ fs) :
    low ≤ f.address ∧ f.address + f.width ≤ high := by
  induction fs generalizing low with
  | nil => cases hf
  | cons g gs ih =>
    obtain ⟨above, rest⟩ := h
    rcases List.mem_cons.mp hf with rfl | hf
    · exact ⟨above, rest.le⟩
    · have := ih rest hf
      omega

theorem LaidOut.apart {low high : Nat} {fs : List Field} (h : LaidOut low high fs) : fs.Pairwise Field.Apart := by
  induction fs generalizing low with
  | nil => exact .nil
  | cons f fs ih => exact .cons (fun g hg => .inl (h.2.within hg).1) (ih h.2)

/-! ### The status block's groups (11.4) -/

theorem laidOut_partFields (s : State) : LaidOut 0x02 0x04 (partFields s) := by simp [partFields, LaidOut]

theorem laidOut_calendarFields (s : State) : LaidOut 0x04 0x09 (calendarFields s) := by simp [calendarFields, LaidOut]

theorem laidOut_banksFields (s : State) : LaidOut 0x09 0x16 (banksFields s) := by simp [banksFields, LaidOut]

theorem laidOut_spoiledFields (s : State) : LaidOut 0x16 0x18 (spoiledFields s) := by simp [spoiledFields, LaidOut]

theorem laidOut_fundsFields (s : State) : LaidOut 0x18 0x30 (fundsFields s) := by simp [fundsFields, LaidOut]

theorem laidOut_laneFields (base : Nat) (t : Tracker) : LaidOut base (base + 0x12) (laneFields base t) := by
  cases assigned : t.lastAssigned <;> cases done : t.lastDone <;> simp [laneFields, optionField, LaidOut, assigned, done]

theorem laidOut_dirtyFields (s : State) : LaidOut 0x02 0x54 (dirtyFields s) :=
  ((((((laidOut_partFields s).ite _).append ((laidOut_calendarFields s).ite _)).append
    ((laidOut_banksFields s).ite _)).append ((laidOut_spoiledFields s).ite _)).append
    ((laidOut_fundsFields s).ite _)).append ((laidOut_laneFields 0x30 _).ite _) |>.append ((laidOut_laneFields 0x42 _).ite _)

/-- The fields of one rewrite lie apart, the generation word among them. -/
theorem dirtyFields_generation_apart (s : State) (g : Nat) : (dirtyFields s ++ [Field.mk 0x00 2 g]).Pairwise Field.Apart := by
  refine List.pairwise_append.mpr ⟨(laidOut_dirtyFields s).apart, List.pairwise_singleton _ _, fun f hf word hword => ?_⟩
  rw [List.mem_singleton.mp hword]
  exact .inr ((laidOut_dirtyFields s).within hf).1

/-! ### The rewrite at the end of an event -/

/-- With no change to show there is no rewrite. -/
theorem flush_clean {s : State} (h : s.dirty = Groups.none) : s.flush = s := by simp [State.flush, h]

theorem flush_eq (s : State) :
    s.flush = { s with mem := s.flush.mem, generation := s.flush.generation, dirty := Groups.none } := by
  unfold State.flush
  split_ifs with clean
  · rw [← clean]
  · rfl
  · rfl

/-- Outside START the changed groups are written, framed by the generation word (R4). -/
theorem flush_mem {s : State} (changed : s.dirty ≠ Groups.none) (started : s.part ≠ .start) :
    s.flush.mem = (s.writeFields (dirtyFields s ++ [⟨0x00, 2, nextGeneration (nextGeneration s.generation)⟩])).mem := by
  simp [State.flush, changed, started]

/-- A rewrite writes the status block alone (R5). -/
theorem unchangedOutside_flush (s : State) : UnchangedOutside [statusBlock] s s.flush := by
  unfold State.flush
  split_ifs
  · exact .of_mem _ rfl rfl
  · exact .of_mem _ rfl rfl
  · refine UnchangedOutside.mono (unchangedOutside_writeFields s (dirtyFields s ++ [⟨0x00, 2, _⟩])) fun r hr => ?_
    obtain ⟨f, hf, rfl⟩ := List.mem_map.mp hr
    refine ⟨statusBlock, List.mem_singleton_self _, Nat.zero_le _, ?_⟩
    rcases List.mem_append.mp hf with hf | hf
    · exact ((laidOut_dirtyFields s).within hf).2.trans (by decide)
    · rw [List.mem_singleton.mp hf]
      exact (by decide : 0x00 + 2 ≤ 0x0100)

/-- Outside START a changed group shows its fields (R5). -/
theorem readField_flush {s : State} (started : s.part ≠ .start) {f : Field} (hf : f ∈ dirtyFields s) :
    s.flush.readField f.address f.width = f.value % 256 ^ f.width := by
  have changed : s.dirty ≠ Groups.none := by
    intro clean
    simp [dirtyFields, clean, Groups.none] at hf
  exact (readField_of_mem (flush_mem changed started) (by simp) (by simp) _ _).trans
    (readField_writeFields_of_mem s (dirtyFields_generation_apart s _) (List.mem_append_left _ hf))

/-- A lane's group is among the fields to be rewritten once it is marked; an absent lane's is never marked (R3). -/
theorem laneFields_subset_dirtyFields {s t : State} {lane : Lane} (present : s.present lane = true)
    (marked : t.dirty = (s.touchLane lane).dirty) : laneFields (laneGroup lane) (t.tracker lane) ⊆ dirtyFields t := by
  intro f hf
  cases lane with
  | a => simp [dirtyFields, marked, State.touchLane, show f ∈ laneFields 0x30 t.lanes.a from hf]
  | b =>
    have two : (s.laneCount == .two) = true := present
    simp [dirtyFields, marked, State.touchLane, two, show f ∈ laneFields 0x42 t.lanes.b from hf]

/-! ### Slots (R9) -/

/-- Slots lie above the status block. -/
theorem slotAddress_ge (lane : Lane) (index : Nat) : 0x0800 ≤ slotAddress lane index := by
  cases lane <;> simp only [slotAddress, slotsBase] <;> omega

/-- A slot is out of reach of a rewrite of the status block. -/
theorem slot_off_statusBlock (lane : Lane) (index offset width : Nat) :
    ∀ r ∈ [statusBlock], slotAddress lane index + offset + width ≤ r.1 ∨ r.1 + r.2 ≤ slotAddress lane index + offset := by
  intro r hr
  rw [List.mem_singleton.mp hr]
  have := slotAddress_ge lane index
  exact .inr (by simp only [statusBlock]; omega)

theorem readByte_flush_slot (s : State) (lane : Lane) (index offset : Nat) :
    s.flush.readByte (slotAddress lane index + offset) = s.readByte (slotAddress lane index + offset) := by
  refine unchangedOutside_flush s _ fun r hr inside => ?_
  obtain ⟨low, high⟩ := inside
  have := slot_off_statusBlock lane index offset 1 r hr
  omega

theorem readField_flush_slot (s : State) (lane : Lane) (index offset width : Nat) :
    s.flush.readField (slotAddress lane index + offset) width = s.readField (slotAddress lane index + offset) width :=
  (unchangedOutside_flush s).readField (by simp) (slot_off_statusBlock lane index offset width)

end Sys2Proof.Machine
end

section
/-! SUPPORT. An ENTRY event that opens a slot, and what the line controller's write to a slot state byte comes to. -/

namespace Sys2Proof.Machine

/-! ### ENTRY (R28, R34, R35) -/

/-- A leading edge of the ENTRY photocell of a lane that tracks its pieces is an ENTRY event. -/
theorem exec_entry_sensed {lane : Lane} {edge : Edge} {s : State} (ready : s.Ready)
    (senses : s.Senses lane .entry edge) : exec (.entry lane edge) s = .next (s.enter lane).flush := by
  obtain ⟨supply, idle, -⟩ := ready
  obtain ⟨present, leading, tracks⟩ := senses
  have plan : entryPlan lane edge s = .done (s.enter lane) := State.sensorPlan_tracked _ present leading tracks
  have taken : s.occur (.entry lane edge) = s.enter lane := by
    rw [State.occur_idle idle, show eventPlan (.entry lane edge) s = _ from plan]
    rfl
  rw [show exec (.entry lane edge) s = powered (fun s => s.occur (.entry lane edge)) s from rfl, powered_on _ supply, taken]

/-- With room in the queue and no check of R34 failed an ENTRY event opens the slot. -/
theorem State.enter_opens {s : State} {lane : Lane} (room : (s.tracker lane).queue.length < queueLimit)
    (running : (s.tracker lane).state = .running) (batch : (s.tracker lane).batch.state = .opened)
    (free : s.slotIs lane (slotIndex (s.tracker lane).nextSeq) .free = true) : s.enter lane = s.openSlot lane := by
  have passes : s.entryRefusal lane = none := by simp [State.entryRefusal, running, batch, free]
  simp [State.enter, Nat.not_le.mpr room, passes]

theorem identityFields_apart (lane : Lane) (index seq batchId : Nat) :
    (identityFields lane index seq batchId).Pairwise Field.Apart := by
  simp only [identityFields, slotField, List.pairwise_cons, List.mem_cons, List.not_mem_nil, Field.Apart, forall_eq_or_imp]
  simp

/-- The identity fields lie between the state byte and the input fields, and the condition flags word lies at 0x20 (11.3). -/
theorem identityFields_within {lane : Lane} {index seq batchId : Nat} {f : Field}
    (hf : f ∈ identityFields lane index seq batchId) :
    let at_ := slotAddress lane index
    at_ + 1 ≤ f.address ∧ f.address + f.width ≤ at_ + 12 ∨ at_ + 0x20 ≤ f.address ∧ f.address + f.width ≤ at_ + 0x22 := by
  simp only [identityFields, slotField, List.mem_cons, List.not_mem_nil, or_false] at hf
  rcases hf with rfl | rfl | rfl | rfl | rfl <;> simp

/-- The fields that an ENTRY event writes into the slot of the lane's next sequence number (R10). -/
def State.openingFields (s : State) (lane : Lane) : List Field :=
  identityFields lane (slotIndex (s.tracker lane).nextSeq) (s.tracker lane).nextSeq (s.tracker lane).batch.id

/-- Opening a slot writes its fields and then its state byte (R13), raises SLOT_OPEN and enters the piece in the lane's queue
and batch. -/
theorem State.openSlot_eq (s : State) (lane : Lane) :
    let r := s.tracker lane
    s.openSlot lane =
      { (s.writeFields (s.openingFields lane)).setSlot lane (slotIndex r.nextSeq) .opened with
        dirty := (s.touchLane lane).dirty, notices := s.notices.raise (slotOpenCause lane)
        lanes := s.lanes.set lane { r.enter (TrackEntry.opened r.nextSeq r.batch.id) with batch := r.batch.join r.nextSeq } } := by
  cases lane <;> rfl

/-- After the opening fields only the slot's state byte is written. -/
theorem unchangedOutside_openSlot_state (s : State) (lane : Lane) :
    UnchangedOutside [(slotAddress lane (slotIndex (s.tracker lane).nextSeq), 1)]
      (s.writeFields (s.openingFields lane)) (s.openSlot lane) :=
  (unchangedOutside_writeByte _ _ (slotCode .opened)).trans
    (.of_mem _ (by rw [State.openSlot_eq]; rfl) (by rw [State.openSlot_eq]; rfl))

/-- Opening a slot writes its state byte, its identity fields and its two result words (R10). -/
theorem unchangedOutside_openSlot (s : State) (lane : Lane) :
    let at_ := slotAddress lane (slotIndex (s.tracker lane).nextSeq)
    UnchangedOutside [(at_, 12), (at_ + 0x20, 2)] s (s.openSlot lane) := by
  intro at_
  have fields : UnchangedOutside [(at_, 12), (at_ + 0x20, 2)] s (s.writeFields (s.openingFields lane)) := by
    refine (unchangedOutside_writeFields s _).mono fun r hr => ?_
    obtain ⟨f, hf, rfl⟩ := List.mem_map.mp hr
    rcases identityFields_within hf with ⟨low, high⟩ | ⟨low, high⟩
    · exact ⟨_, List.mem_cons_self, (Nat.le_succ _).trans low, high⟩
    · exact ⟨_, List.mem_cons_of_mem _ List.mem_cons_self, low, high⟩
  exact fields.trans ((unchangedOutside_openSlot_state s lane).mono (by simp [at_]))

/-- The open slot shows its identity fields and its cleared result words (R10). -/
theorem readField_openSlot (s : State) (lane : Lane) {f : Field} (hf : f ∈ s.openingFields lane) :
    (s.openSlot lane).readField f.address f.width = f.value % 256 ^ f.width := by
  have kept : (s.openSlot lane).readField f.address f.width
      = (s.writeFields (s.openingFields lane)).readField f.address f.width := by
    refine (unchangedOutside_openSlot_state s lane).readField (by rw [State.openSlot_eq]; rfl) fun r hr => ?_
    rw [List.mem_singleton.mp hr]
    have := identityFields_within hf
    exact .inr (by dsimp only at this ⊢; omega)
  rw [kept]
  exact readField_writeFields_of_mem s (identityFields_apart _ _ _ _) hf

/-- The slot is OPEN. -/
theorem readByte_openSlot (s : State) (lane : Lane) :
    (s.openSlot lane).readByte (slotAddress lane (slotIndex (s.tracker lane).nextSeq)) = slotCode .opened := by
  rw [State.openSlot_eq]
  exact readByte_writeByte_same (s.writeFields (s.openingFields lane)) _ _

/-- The lane's group shows the sequence number last assigned (R5, 11.4). -/
theorem lastAssigned_mem_laneFields (base : Nat) {t : Tracker} {seq : Nat} (h : t.lastAssigned = some seq) :
    Field.mk (base + 0x04) 4 seq ∈ laneFields base t := by
  simp [laneFields, optionField, h]

/-- Outside START an opened slot's sequence number is shown as the lane's last. -/
theorem readField_flush_openSlot {s : State} {lane : Lane} (present : s.present lane = true) (started : s.part ≠ .start) :
    (s.openSlot lane).flush.readField (laneGroup lane + 0x04) 4 = (s.tracker lane).nextSeq % 256 ^ 4 := by
  have group : Field.mk (laneGroup lane + 0x04) 4 (s.tracker lane).nextSeq
      ∈ laneFields (laneGroup lane) ((s.openSlot lane).tracker lane) :=
    lastAssigned_mem_laneFields _ (by rw [State.openSlot_eq]; cases lane <;> rfl)
  refine readField_flush (f := ⟨laneGroup lane + 0x04, 4, _⟩) (by rw [State.openSlot_eq]; exact started) ?_
  exact laneFields_subset_dirtyFields present (by rw [State.openSlot_eq]) group

/-- Settles O15: with R34's checks passed the event is `State.openSlot` and the rewrite of the status block, which is off the
slot. -/
theorem entryOpensASlot : Obligations.EntryOpensASlot := by
  intro lane edge s ready senses r at_ running batch room free
  have opens : s.enter lane = s.openSlot lane := State.enter_opens room running batch free
  have shows : ∀ offset width value, slotField lane (slotIndex r.nextSeq) offset width value ∈ s.openingFields lane →
      (s.openSlot lane).flush.readField (at_ + offset) width = value % 256 ^ width := fun offset width value hf =>
    (readField_flush_slot _ lane _ offset width).trans (readField_openSlot s lane hf)
  refine ⟨(s.openSlot lane).flush, by rw [exec_entry_sensed ready senses, opens], ?_, ?_, ?_, ?_, ?_, ?_, ?_,
    readField_flush_openSlot senses.1, ?_⟩
  · refine (flush_eq _).trans ?_
    generalize (s.openSlot lane).flush = t
    have ⟨_, _, clean⟩ := ready
    rw [State.openSlot_eq, ← clean]
    rfl
  · exact beq_iff_eq.mpr ((readByte_flush_slot _ lane _ 0).trans (readByte_openSlot s lane))
  · rw [shows 0x01 1 (laneCode lane) (by simp [State.openingFields, identityFields, r])]
    cases lane <;> rfl
  · exact shows 0x04 4 r.nextSeq (by simp [State.openingFields, identityFields, r])
  · exact shows 0x08 4 r.batch.id (by simp [State.openingFields, identityFields, r])
  · exact shows 0x02 2 0 (by simp [State.openingFields, identityFields, r])
  · exact shows 0x20 2 0 (by simp [State.openingFields, identityFields, r])
  · exact ((unchangedOutside_openSlot s lane).mono (by simp [at_, r, slotIndex])).trans
      ((unchangedOutside_flush _).mono (by simp))

/-! ### SLOT_STATE_WRITE (R14, R15, R16) -/

theorem exec_slotStateWrite {s : State} (ready : s.Ready) (lane : Lane) (slot : BitVec 5) (code : Byte)
    (other : Option Byte) :
    exec (.slotStateWrite lane slot code other) s = .next (s.slotStateWrite lane slot.toNat code other).flush := by
  obtain ⟨supply, -, -⟩ := ready
  exact powered_on (fun s => s.slotStateWrite lane slot.toNat code other) supply

theorem State.mayMove_iff (s : State) (lane : Lane) (index : Nat) (code : Byte) :
    s.mayMove lane index code = true
      ↔ s.slotIs lane index .opened = true ∧ code = slotCode .filled ∨ s.slotIs lane index .done = true ∧ code = slotCode .free := by
  simp [State.mayMove]

/-- The byte beside the state byte is written when a value comes for it (R2). -/
def State.writeBeside (s : State) (lane : Lane) (index : Nat) : Option Byte → State
  | some value => s.writeByte (slotAddress lane index + 1) value
  | none => s

theorem State.slotStateWrite_eq (s : State) (lane : Lane) (index : Nat) (code : Byte) (other : Option Byte) :
    s.slotStateWrite lane index code other = (s.transitionRequest lane index code).writeBeside lane index other := by
  cases other <;> rfl

theorem State.writeBeside_eq (s : State) (lane : Lane) (index : Nat) (other : Option Byte) :
    s.writeBeside lane index other = { s with mem := (s.writeBeside lane index other).mem } := by
  cases other <;> rfl

theorem readByte_writeBeside (s : State) (lane : Lane) (index : Nat) {other : Option Byte} {value : Byte}
    (h : other = some value) : (s.writeBeside lane index other).readByte (slotAddress lane index + 1) = value := by
  subst h
  exact readByte_writeByte_same s _ value

theorem unchangedOutside_writeBeside (s : State) (lane : Lane) (index : Nat) (other : Option Byte) :
    UnchangedOutside (if other.isSome then [(slotAddress lane index + 1, 1)] else []) s (s.writeBeside lane index other) := by
  cases other with
  | none => exact .of_mem _ rfl rfl
  | some value => exact unchangedOutside_writeByte s _ value

/-- The state byte itself is left. -/
theorem readByte_writeBeside_state (s : State) (lane : Lane) (index : Nat) (other : Option Byte) :
    (s.writeBeside lane index other).readByte (slotAddress lane index) = s.readByte (slotAddress lane index) := by
  cases other with
  | none => rfl
  | some value => exact readByte_writeByte_other s _ _ value (Nat.ne_of_lt (Nat.lt_succ_self _))

/-- A write to a byte that is plain, or one that asks for an allowed transition, is stored and changes nothing else. -/
theorem exec_slotStateWrite_stores {lane : Lane} {slot : BitVec 5} {code : Byte} (other : Option Byte) {s : State}
    (ready : s.Ready) (stores : s.present lane = false ∨ s.mayMove lane slot.toNat code = true) :
    let at_ := slotAddress lane slot.toNat
    ∃ t, exec (.slotStateWrite lane slot code other) s = .next t ∧ t = { s with mem := t.mem }
      ∧ t.readByte at_ = code ∧ (∀ value, other = some value → t.readByte (at_ + 1) = value)
      ∧ UnchangedOutside (if other.isSome then [(at_, 2)] else [(at_, 1)]) s t := by
  intro at_
  have written : s.slotStateWrite lane slot.toNat code other = (s.writeByte at_ code).writeBeside lane slot.toNat other := by
    rw [State.slotStateWrite_eq, State.transitionRequest, if_pos stores]
  have clean : ((s.writeByte at_ code).writeBeside lane slot.toNat other).dirty = Groups.none := by
    have ⟨_, _, clean⟩ := ready
    rw [State.writeBeside_eq]
    exact clean
  refine ⟨(s.writeByte at_ code).writeBeside lane slot.toNat other,
    by rw [exec_slotStateWrite ready, written, flush_clean clean], State.writeBeside_eq _ _ _ _,
    (readByte_writeBeside_state _ _ _ _).trans (readByte_writeByte_same s at_ code),
    fun value => readByte_writeBeside _ _ _, ?_⟩
  have state := unchangedOutside_writeByte s at_ code
  have beside := unchangedOutside_writeBeside (s.writeByte at_ code) lane slot.toNat other
  cases other with
  | none => exact state.trans (beside.mono (by simp))
  | some value => exact (state.mono (by simp)).trans (beside.mono (by simp [at_]))

/-- A refusal counts and raises LANE_IRREGULAR; but for the mark on the lane's group that is all. -/
theorem State.refuseSlotWrite_eq (s : State) (lane : Lane) :
    s.refuseSlotWrite lane =
      { s with
        dirty := (s.refuseSlotWrite lane).dirty, notices := s.notices.raise .laneIrregular
        lanes := s.lanes.set lane { s.tracker lane with refusals := count16 (s.tracker lane).refusals } } := by
  rcases s.changeLane_cases lane (fun t => { t with refusals := count16 t.refusals }) with ⟨-, unshown⟩ | ⟨-, shown⟩
  · rw [State.refuseSlotWrite, unshown]
    rfl
  · rw [State.refuseSlotWrite, shown]
    cases lane <;> rfl

/-- At the end of its range the count stays, and the status block has nothing new to show (R5, R6). -/
theorem State.refuseSlotWrite_dirty_saturated {s : State} {lane : Lane} (h : (s.tracker lane).refusals = 65535) :
    (s.refuseSlotWrite lane).dirty = s.dirty := by
  simp [State.refuseSlotWrite, State.changeLane, h, count16, laneFields, seqPresence]

theorem unchangedOutside_refuseSlotWrite (s : State) (lane : Lane) (ranges : List (Nat × Nat)) :
    UnchangedOutside ranges s (s.refuseSlotWrite lane) :=
  .of_mem _ (by rw [State.refuseSlotWrite_eq]) (by rw [State.refuseSlotWrite_eq])

/-- A write that asks for no allowed transition is refused; the byte beside the state byte is stored all the same. -/
theorem State.slotStateWrite_refused {s : State} {lane : Lane} {index : Nat} {code : Byte} (other : Option Byte)
    (present : s.present lane = true) (refused : s.mayMove lane index code = false) :
    s.slotStateWrite lane index code other = (s.refuseSlotWrite lane).writeBeside lane index other := by
  rw [State.slotStateWrite_eq, State.transitionRequest, if_neg (by simp [present, refused])]

/-- Settles O24: what is stored and what is refused part at `State.mayMove`. -/
theorem slotStateWriteIsARequest : Obligations.SlotStateWriteIsARequest := by
  refine ⟨fun lane slot code other s ready _ allowed =>
      exec_slotStateWrite_stores other ready (.inr ((s.mayMove_iff _ _ _).mpr allowed)), ?_,
    fun lane slot code other s ready absent => exec_slotStateWrite_stores other ready (.inl absent)⟩
  intro lane slot code other s ready present notFilled notFree at_
  have ⟨_, _, clean⟩ := ready
  have refused : s.mayMove lane slot.toNat code = false :=
    Bool.eq_false_iff.mpr fun moves => ((s.mayMove_iff _ _ _).mp moves).elim notFilled notFree
  refine ⟨((s.refuseSlotWrite lane).writeBeside lane slot.toNat other).flush,
    by rw [exec_slotStateWrite ready, State.slotStateWrite_refused other present refused], ?_, ?_, ?_, ?_, ?_⟩
  · refine (flush_eq _).trans ?_
    generalize ((s.refuseSlotWrite lane).writeBeside lane slot.toNat other).flush = t
    rw [State.writeBeside_eq, State.refuseSlotWrite_eq, ← clean]
    rfl
  · rintro saturated rfl
    have unmarked : (s.refuseSlotWrite lane).dirty = Groups.none :=
      (State.refuseSlotWrite_dirty_saturated saturated).trans clean
    rw [State.writeBeside, flush_clean unmarked, State.refuseSlotWrite_eq]
    exact ⟨rfl, rfl⟩
  · calc _ = ((s.refuseSlotWrite lane).writeBeside lane slot.toNat other).readByte at_ := readByte_flush_slot _ lane _ 0
      _ = (s.refuseSlotWrite lane).readByte at_ := readByte_writeBeside_state _ _ _ _
      _ = s.readByte at_ := unchangedOutside_refuseSlotWrite s lane [] at_ fun _ hr => nomatch hr
  · exact fun value given => (readByte_flush_slot _ lane _ 1).trans (readByte_writeBeside _ _ _ given)
  · exact ((unchangedOutside_refuseSlotWrite s lane _).trans
      ((unchangedOutside_writeBeside _ lane slot.toNat other).mono fun r hr =>
        ⟨r, List.mem_cons_of_mem _ hr, le_rfl, le_rfl⟩)).trans
      ((unchangedOutside_flush _).mono (by simp))

end Sys2Proof.Machine
end

section
/-! SUPPORT. Photocell transitions that are strays or no events (R24, R28, R29), and what a RATE event does with its entry
(R11, R36, R37). -/

namespace Sys2Proof.Machine

/-! ### Events that ask for no whole update -/

/-- An event that the store may hold, on a part at rest: the state its plan gives, with the status block rewritten. -/
theorem exec_of_eventPlan_done {i : Instr} {s t : State} (ready : s.Ready)
    (event : exec i s = powered (fun s => s.occur i) s) (plan : eventPlan i s = .done t) : exec i s = .next t.flush := by
  obtain ⟨supply, idle, -⟩ := ready
  have taken : s.occur i = t := by
    rw [State.occur_idle idle, plan]
    rfl
  rw [event, powered_on _ supply, taken]

/-- With no group of the status block changed that state is the next one. -/
theorem exec_of_eventPlan_done_unmarked {i : Instr} {s t : State} (ready : s.Ready)
    (event : exec i s = powered (fun s => s.occur i) s) (plan : eventPlan i s = .done t) (unmarked : t.dirty = s.dirty) :
    exec i s = .next t := by
  have ⟨_, _, clean⟩ := ready
  rw [exec_of_eventPlan_done ready event plan, flush_clean (unmarked.trans clean)]

/-! ### Photocells (R28) -/

/-- An instruction that is a transition of the lane's photocell. -/
def IsTransition (lane : Lane) (photocell : Position) (edge : Edge) (pace : Pace) (i : Instr) : Prop :=
  photocell = .entry ∧ i = .entry lane edge ∨ photocell = .rate ∧ i = .rate lane edge
    ∨ photocell = .print ∧ i = .print lane edge pace ∨ photocell = .exit ∧ i = .exit lane edge

/-- What a leading edge of a photocell comes to on a lane that tracks its pieces. -/
def State.photocellPlan (lane : Lane) : Position → State → Plan
  | .entry, s => .done (s.enter lane)
  | .rate, s => .done (s.ratePhotocell lane)
  | .print, s => s.printPhotocell lane
  | .exit, s => .done (s.exitPhotocell lane)

section
variable {i : Instr} {lane : Lane} {photocell : Position} {edge : Edge} {pace : Pace}

theorem IsTransition.exec_eq (transition : IsTransition lane photocell edge pace i) (s : State) :
    exec i s = powered (fun s => s.occur i) s := by
  rcases transition with ⟨-, rfl⟩ | ⟨-, rfl⟩ | ⟨-, rfl⟩ | ⟨-, rfl⟩ <;> rfl

theorem IsTransition.eventPlan_eq (transition : IsTransition lane photocell edge pace i) (s : State) :
    eventPlan i s = s.sensorPlan lane photocell edge (State.photocellPlan lane photocell) := by
  rcases transition with ⟨rfl, rfl⟩ | ⟨rfl, rfl⟩ | ⟨rfl, rfl⟩ | ⟨rfl, rfl⟩ <;> rfl

end

/-- A photocell has no entry to apply to exactly when the oldest entry not past it has not passed the one before it (R28). -/
theorem Tracker.applies_eq_none_iff {t : Tracker} {photocell : Position} :
    t.applies photocell = none
      ↔ ∀ e, t.queue.find? (fun x => x.position.rank < photocell.rank) = some e → e.position.rank + 1 ≠ photocell.rank := by
  unfold Tracker.applies
  split
  case h_1 e oldest => simp [oldest]
  case h_2 passed => simp [passed]

/-- A RATE, PRINT or EXIT with no entry to apply to is a stray. -/
theorem State.photocellPlan_stray {s : State} {lane : Lane} {photocell : Position} (beyond : photocell ≠ .entry)
    (unreached : (s.tracker lane).applies photocell = none) : State.photocellPlan lane photocell s = .done (s.stray lane) := by
  cases photocell with
  | entry => exact absurd rfl beyond
  | rate => simp [State.photocellPlan, State.ratePhotocell, unreached]
  | print => simp [State.photocellPlan, State.printPhotocell, unreached]
  | exit => simp [State.photocellPlan, State.exitPhotocell, unreached]

/-- A trailing edge and an edge of an absent lane are no events (R24, R28). -/
theorem State.sensorPlan_silent {s : State} {lane : Lane} {photocell : Position} {edge : Edge} (tracked : State → Plan)
    (silent : s.present lane = false ∨ edge ≠ (s.tracker lane).config.edge photocell) :
    s.sensorPlan lane photocell edge tracked = .done s := if_pos silent

/-- R29's two strays: the lane does not track its pieces, or the photocell has no entry to apply to. -/
theorem State.sensorPlan_eq_stray {s : State} {lane : Lane} {photocell : Position} {edge : Edge}
    (present : s.present lane = true) (leading : edge = (s.tracker lane).config.edge photocell)
    (stray : (s.tracker lane).state.tracks = false
      ∨ photocell ≠ .entry ∧ (s.tracker lane).applies photocell = none) :
    s.sensorPlan lane photocell edge (State.photocellPlan lane photocell) = .done (s.stray lane) := by
  cases tracks : (s.tracker lane).state.tracks with
  | false => exact State.sensorPlan_stray _ present leading tracks
  | true =>
    obtain ⟨beyond, unreached⟩ := stray.resolve_left (by simp [tracks])
    rw [State.sensorPlan_tracked _ present leading tracks, State.photocellPlan_stray beyond unreached]

/-! ### A stray (R29) -/

/-- A lane's tracker changed: but for the mark on the lane's group that is all. -/
theorem State.changeLane_eq (s : State) (lane : Lane) (f : Tracker → Tracker) :
    s.changeLane lane f
      = { s with dirty := (s.changeLane lane f).dirty, lanes := s.lanes.set lane (f (s.tracker lane)) } := by
  rcases s.changeLane_cases lane f with ⟨-, unshown⟩ | ⟨-, shown⟩
  · rw [unshown]
    rfl
  · rw [shown]
    cases lane <;> rfl

theorem State.stray_eq (s : State) (lane : Lane) :
    s.stray lane =
      { s with
        dirty := (s.stray lane).dirty, notices := s.notices.raise .laneIrregular
        lanes := s.lanes.set lane { s.tracker lane with strays := count16 (s.tracker lane).strays } } := by
  rw [State.stray, State.changeLane_eq]
  rfl

/-- At the end of its range the count stays, and the status block has nothing new to show (R5, R6). -/
theorem State.stray_dirty_saturated {s : State} {lane : Lane} (h : (s.tracker lane).strays = 65535) :
    (s.stray lane).dirty = s.dirty := by
  simp [State.stray, State.changeLane, h, count16, laneFields, seqPresence]

theorem unchangedOutside_flush_stray (s : State) (lane : Lane) : UnchangedOutside [statusBlock] s (s.stray lane).flush :=
  (UnchangedOutside.of_mem _ (by rw [State.stray_eq]) (by rw [State.stray_eq])).trans (unchangedOutside_flush _)

/-- A stray counts, raises LANE_IRREGULAR and changes nothing else. -/
theorem flush_stray_eq {s : State} (ready : s.Ready) (lane : Lane) :
    (s.stray lane).flush =
      { s with
        mem := (s.stray lane).flush.mem, generation := (s.stray lane).flush.generation
        notices := s.notices.raise .laneIrregular
        lanes := s.lanes.set lane { s.tracker lane with strays := min ((s.tracker lane).strays + 1) 65535 } } := by
  obtain ⟨-, -, clean⟩ := ready
  refine (flush_eq _).trans ?_
  generalize (s.stray lane).flush = t
  rw [State.stray_eq, ← clean]
  rfl

/-- A stray at the end of the count rewrites nothing (R5, R6). -/
theorem flush_stray_saturated {s : State} (ready : s.Ready) {lane : Lane} (saturated : (s.tracker lane).strays = 65535) :
    (s.stray lane).flush.mem = s.mem ∧ (s.stray lane).flush.generation = s.generation := by
  obtain ⟨-, -, clean⟩ := ready
  rw [flush_clean ((State.stray_dirty_saturated saturated).trans clean), State.stray_eq]
  exact ⟨rfl, rfl⟩

/-! ### Resets (R6, R49) -/

@[simp] theorem State.resetEvent_lanes (s : State) (cause : ResetCause) :
    (s.resetEvent cause).lanes = { a := Tracker.reset, b := Tracker.reset } := rfl

/-- With no update in its steps a line reset takes effect at once (R134). -/
theorem State.lineReset_idle {s : State} (idle : s.inStore = none) (lanes : LaneCount) (order : BusOrder) :
    s.lineReset lanes order = s.lineResetNow lanes order := by
  simp [State.lineReset, State.busy, idle]

/-- With no update in its steps a RESTART outside PARKED takes effect at once (R183). -/
theorem State.issue_restart_idle {s : State} (idle : s.inStore = none) (unparked : s.part ≠ .parked) :
    s.issue .restart = (s.layCommand .restart).restartNow := by
  simp [State.issue, State.post, State.postRestart, State.restart, State.busy, idle, unparked]

/-- A reset lane has counted no strays. -/
theorem strays_of_reset_lanes {t : State} (reset : t.lanes = { a := Tracker.reset, b := Tracker.reset }) (lane : Lane) :
    (t.tracker lane).strays = 0 := by
  cases lane <;> simp [State.tracker, PerLane.get, reset, Tracker.reset]

/-- Every reset leaves the count of strays 0. -/
theorem exec_reset_strays (lanes : LaneCount) (order : BusOrder) (lane : Lane) (s : State) :
    (∃ t, exec (.powerOnReset lanes order) s = .next t ∧ (t.tracker lane).strays = 0)
      ∧ (s.supply = true → s.inStore = none →
          (∃ t, exec (.lineReset lanes order) s = .next t ∧ (t.tracker lane).strays = 0)
            ∧ (s.part ≠ .parked → ∃ t, exec .restart s = .next t ∧ (t.tracker lane).strays = 0)) := by
  refine ⟨⟨_, rfl, strays_of_reset_lanes (by simp [State.powerOn]) lane⟩, fun supply idle => ⟨?_, fun unparked => ?_⟩⟩
  · exact ⟨_, powered_on (fun s => s.lineReset lanes order) supply,
      strays_of_reset_lanes (by simp [State.lineReset_idle idle, State.lineResetNow]) lane⟩
  · exact ⟨_, powered_on (fun s => s.issue .restart) supply,
      strays_of_reset_lanes (by simp [State.issue_restart_idle idle unparked, State.restartNow]) lane⟩

/-! ### An absent lane (R24) -/

theorem State.encoderCount_absent {s : State} {lane : Lane} (absent : s.present lane = false) : s.encoderCount lane = s := by
  simp [State.encoderCount, absent]

theorem State.linkPlan_absent {s : State} {lane : Lane} (plan : State → Plan) (absent : s.present lane = false) :
    s.linkPlan lane plan = .done s := by
  simp [State.linkPlan, absent]

/-- The encoder and link events of an absent lane come to nothing. -/
theorem eventPlan_absent {s : State} {lane : Lane} {frame : BitVec 48} {pace : Pace} {i : Instr}
    (event : i = .encoderCount lane ∨ i = .frameSent lane ∨ i = .answerReady lane ∨ i = .answer lane frame pace
      ∨ i = .answerTimerExpiry lane pace) (absent : s.present lane = false) : eventPlan i s = .done s := by
  rcases event with rfl | rfl | rfl | rfl | rfl
  · exact congrArg Plan.done (State.encoderCount_absent absent)
  · exact State.linkPlan_absent (fun s => .done (s.frameSent lane)) absent
  · exact State.linkPlan_absent (fun s => .done (s.answerReady lane)) absent
  · exact State.linkPlan_absent (fun s => s.answerPlan lane frame) absent
  · exact State.linkPlan_absent (fun s => s.expiryPlan lane) absent

/-- Settles O17: R29's strays are one plan, `State.stray`, and a trailing edge or an absent lane plans nothing. -/
theorem straySensorEvent : Obligations.StraySensorEvent := by
  refine ⟨?_, exec_reset_strays, ?_⟩
  · intro lane photocell edge pace i s ready present leading transition stray
    replace transition : IsTransition lane photocell edge pace i := transition
    have plan : eventPlan i s = .done (s.stray lane) := by
      rw [transition.eventPlan_eq]
      exact State.sensorPlan_eq_stray present leading (stray.imp_right (And.imp_right Tracker.applies_eq_none_iff.mpr))
    exact ⟨_, exec_of_eventPlan_done ready (transition.exec_eq s) plan, flush_stray_eq ready lane,
      flush_stray_saturated ready, unchangedOutside_flush_stray s lane⟩
  · rintro lane photocell edge pace frame i s ready (⟨transition, silent⟩ | ⟨event, absent⟩)
    · replace transition : IsTransition lane photocell edge pace i := transition
      exact exec_of_eventPlan_done_unmarked ready (transition.exec_eq s)
        ((transition.eventPlan_eq s).trans (State.sensorPlan_silent _ silent)) rfl
    · have occurs : exec i s = powered (fun s => s.occur i) s := by rcases event with rfl | rfl | rfl | rfl | rfl <;> rfl
      exact exec_of_eventPlan_done_unmarked ready occurs (eventPlan_absent event absent) rfl

/-! ### The input fields of a slot (R11, 11.3) -/

/-- A field of one byte reads as that byte in either order (R195). -/
theorem readField_one (s : State) (a : Nat) : s.readField a 1 = (s.readByte a).toNat := by
  simp only [State.readField, State.readBytes]
  cases s.order <;> simp [ofField, ofHighFirst, ofLowFirst]

theorem weightStatusOfCode_eq (code : Nat) :
    weightStatusOfCode code = if code = 1 then .stable else if code = 2 then .unstable else .none := by
  unfold weightStatusOfCode
  split <;> simp_all

/-- A byte in two's complement (R195). -/
theorem signedOf_byte {n : Nat} (h : n < 256) : signedOf 8 n = if n ≤ 127 then (n : Int) else (n : Int) - 256 := by
  rw [signedOf, BitVec.toInt_eq_toNat_cond, BitVec.toNat_ofNat]
  split_ifs <;> omega

/-! ### RATE (R36, R37) -/

/-- A leading edge of the RATE photocell of a lane that tracks its pieces is a RATE event; one that changes no group of the
status block writes nothing after it. -/
theorem exec_rate_sensed {lane : Lane} {edge : Edge} {s t : State} (ready : s.Ready) (senses : s.Senses lane .rate edge)
    (rates : s.ratePhotocell lane = t) (unmarked : t.dirty = s.dirty) : exec (.rate lane edge) s = .next t := by
  obtain ⟨present, leading, tracks⟩ := senses
  have plan : ratePlan lane edge s = .done (s.ratePhotocell lane) := State.sensorPlan_tracked _ present leading tracks
  exact exec_of_eventPlan_done_unmarked ready rfl (plan.trans (congrArg Plan.done rates)) unmarked

/-- Two changes of one entry are one, when the first keeps its sequence number. -/
theorem Tracker.onEntry_onEntry (t : Tracker) (seq : Nat) (f g : TrackEntry → TrackEntry) (keeps : ∀ x, (f x).seq = x.seq) :
    (t.onEntry seq f).onEntry seq g = t.onEntry seq (fun x => g (f x)) := by
  simp only [Tracker.onEntry, List.map_map]
  congr 1
  refine List.map_congr_left fun x _ => ?_
  by_cases h : x.seq = seq <;> simp [h, keeps]

theorem State.onEntry_onEntry (s : State) (lane : Lane) (seq : Nat) (f g : TrackEntry → TrackEntry)
    (keeps : ∀ x, (f x).seq = x.seq) :
    (s.onEntry lane seq f).onEntry lane seq g = s.onEntry lane seq (fun x => g (f x)) := by
  simp only [State.onEntry, State.onTracker, State.setTracker, State.tracker, PerLane.get_set_same, PerLane.set_set,
    Tracker.onEntry_onEntry _ _ _ _ keeps]

/-- A RATE event on a piece that waits for it looks at its slot (R36). -/
theorem State.ratePhotocell_waitRate {s : State} {lane : Lane} {e : TrackEntry} {index : Nat}
    (applies : (s.tracker lane).applies .rate = some e) (waits : e.stage = .waitRate) (slot : e.slot = some index) :
    s.ratePhotocell lane
      = if s.slotIs lane index .filled then s.rateFilled lane e index else s.rateLateFill lane e index := by
  simp [State.ratePhotocell, applies, waits, slot]

/-- A RATE event on a NOT_FRANKED piece only records the photocell (R37). -/
theorem State.ratePhotocell_notFranked {s : State} {lane : Lane} {e : TrackEntry}
    (applies : (s.tracker lane).applies .rate = some e) (ended : e.stage = .notFranked) :
    s.ratePhotocell lane = s.onEntry lane e.seq (fun x => x.pass .rate) := by
  simp [State.ratePhotocell, applies, ended]

/-- A slot that is OPEN is not FILLED. -/
theorem State.slotIs_filled_of_opened {s : State} {lane : Lane} {index : Nat} (h : s.slotIs lane index .opened = true) :
    s.slotIs lane index .filled = false := by
  have opened : s.readByte (slotAddress lane index) = slotCode .opened := beq_iff_eq.mp h
  rw [State.slotIs, opened]
  rfl

/-- A RATE event on a FILLED slot up to R36's conditions: the input fields copied, the slot TAKEN, the entry past RATE. -/
def State.copySlot (s : State) (lane : Lane) (e : TrackEntry) (index : Nat) : State :=
  (s.setSlot lane index .taken).onEntry lane e.seq
    (fun x => { x.pass .rate with input := some (s.inputCopy lane index) })

/-- With what the rest of the event does to the entry that is one change of it. -/
theorem State.onEntry_copySlot (s : State) (lane : Lane) (e : TrackEntry) (index : Nat) (g : TrackEntry → TrackEntry) :
    (s.copySlot lane e index).onEntry lane e.seq g =
      { s with
        mem := s.mem.write (slotAddress lane index) (slotCode .taken)
        lanes := s.lanes.set lane ((s.tracker lane).onEntry e.seq
          (fun x => g { x.pass .rate with input := some (s.inputCopy lane index) })) } :=
  State.onEntry_onEntry _ lane e.seq (fun x => { x.pass .rate with input := some (s.inputCopy lane index) }) g fun _ => rfl

/-- What RATE makes of a piece whose slot is FILLED: the first of R36's conditions that holds, or the take queue. -/
def TrackEntry.rated (input : InputCopy) (full warn : Bool) (x : TrackEntry) : TrackEntry :=
  { x with
    position := .rate, distance := 0, input := some input
    stage := if !full && !warn then .queued else .notFranked
    cause := if full then some .rateQueueFull else if warn then some .powerWarning else x.cause }

/-- A FILLED slot's piece joins the take queue unless R36's conditions keep it out. -/
theorem State.rateFilled_eq (s : State) (lane : Lane) (e : TrackEntry) (index : Nat) :
    let full := decide (8 ≤ s.takeQueue.length)
    s.rateFilled lane e index =
      { s with
        mem := s.mem.write (slotAddress lane index) (slotCode .taken)
        takeQueue := if !full && !s.powerWarn then s.takeQueue ++ [{ lane := lane, seq := e.seq }] else s.takeQueue
        lanes := s.lanes.set lane
          ((s.tracker lane).onEntry e.seq (TrackEntry.rated (s.inputCopy lane index) full s.powerWarn)) } := by
  intro full
  have branches : s.rateFilled lane e index =
      if 8 ≤ s.takeQueue.length then (s.copySlot lane e index).onEntry lane e.seq (fun x => x.divert .rateQueueFull)
      else if s.powerWarn then (s.copySlot lane e index).onEntry lane e.seq (fun x => x.divert .powerWarning)
      else
        { (s.copySlot lane e index).onEntry lane e.seq (fun x => { x with stage := .queued }) with
          takeQueue := s.takeQueue ++ [{ lane := lane, seq := e.seq }] } := rfl
  simp only [branches, State.onEntry_copySlot, full]
  by_cases room : 8 ≤ s.takeQueue.length
  · simp only [room]
    rfl
  · cases warn : s.powerWarn <;> simp only [room] <;> rfl

/-- The input fields as R11 reads them. -/
theorem State.inputCopy_eq (s : State) (lane : Lane) (index : Nat) :
    let at_ := slotAddress lane index
    let status := s.readField (at_ + 0x16) 1
    let slogan := s.readField (at_ + 0x1B) 1
    let offset := s.readField (at_ + 0x1C) 1
    s.inputCopy lane index =
      { weight := s.readField (at_ + 0x0C) 2, length := s.readField (at_ + 0x0E) 2, width := s.readField (at_ + 0x10) 2
        thickness := s.readField (at_ + 0x12) 2, area := s.readField (at_ + 0x14) 2
        status := if status = 1 then .stable else if status = 2 then .unstable else .none
        cls := s.readField (at_ + 0x17) 1, services := s.readByte (at_ + 0x18), tier := s.readField (at_ + 0x19) 1
        handHold := decide (s.readField (at_ + 0x1A) 1 ≠ 0), slogan := if slogan ≤ 31 then slogan else 255
        offset := if offset ≤ 127 then (offset : Int) else (offset : Int) - 256, account := s.readField (at_ + 0x1D) 1 } := by
  intro at_ status slogan offset
  have handHold : (s.readByte (at_ + 0x1A) != 0) = decide (s.readField (at_ + 0x1A) 1 ≠ 0) := by
    rw [readField_one, Bool.eq_iff_iff, bne_iff_ne, decide_eq_true_iff, ← BitVec.toNat_ne_iff_ne]
    rfl
  have slogan31 : sloganOf slogan = if slogan ≤ 31 then slogan else 255 := by simp only [sloganOf, Nat.lt_succ_iff]
  have signed : signedOf 8 offset = if offset ≤ 127 then (offset : Int) else (offset : Int) - 256 :=
    signedOf_byte (by simpa only [offset, readField_one] using BitVec.isLt _)
  rw [← weightStatusOfCode_eq, ← handHold, ← slogan31, ← signed]
  rfl

/-- Settles O18: a RATE event shows nothing in the status block, so its next state is what `State.ratePhotocell` makes of the
slot's state and the entry's stage. -/
theorem rateTakesTheSlot : Obligations.RateTakesTheSlot := by
  refine ⟨?_, ?_, ?_⟩
  · intro lane edge s e index ready senses applies waits slot filled full joined at_ status slogan offset input
    have copied : s.inputCopy lane index = input := s.inputCopy_eq lane index
    have rates : s.ratePhotocell lane = s.rateFilled lane e index := by
      rw [State.ratePhotocell_waitRate applies waits slot, if_pos filled]
    rw [State.rateFilled_eq, copied] at rates
    exact ⟨_, exec_rate_sensed ready senses rates rfl, rfl⟩
  · intro lane edge s e index ready senses applies waits slot opened
    have rates : s.ratePhotocell lane = s.rateLateFill lane e index := by
      rw [State.ratePhotocell_waitRate applies waits slot, State.slotIs_filled_of_opened opened]
      rfl
    exact exec_rate_sensed ready senses rates rfl
  · intro lane edge s e ready senses applies ended
    exact exec_rate_sensed ready senses (State.ratePhotocell_notFranked applies ended) rfl

end Sys2Proof.Machine
end

section
/-! SUPPORT. The rating unit's completion and the funds unit's taking of a hold request when no entry awaits them (R39, R55,
R58). -/

namespace Sys2Proof.Machine

/-! ### Which entry awaits what -/

theorem TrackEntry.inRating_iff (e : TrackEntry) : e.inRating = true ↔ e.stage = .rating ∧ e.requested = false := by
  simp [TrackEntry.inRating]

theorem TrackEntry.awaitsHold_iff (e : TrackEntry) : e.awaitsHold = true ↔ e.stage = .rating ∧ e.requested = true := by
  simp [TrackEntry.awaitsHold]

/-- A result is kept for no entry of a lane that has stopped tracking, and for none that does not await it (R55). -/
theorem State.keptEntry_eq_none_iff (s : State) (record : RatingRecord) :
    s.keptEntry record = none
      ↔ (s.tracker record.lane).state.tracks = false
        ∨ ∀ e, (s.tracker record.lane).find record.seq = some e → e.stage ≠ .rating ∨ e.requested = true := by
  cases tracks : (s.tracker record.lane).state.tracks
  · simp [State.keptEntry, tracks]
  · simp [State.keptEntry, tracks, Option.filter_eq_none_iff, TrackEntry.inRating_iff, imp_iff_not_or]

/-- No hold is placed for an entry that is gone or does not await it (R39). -/
theorem find_filter_awaitsHold_eq_none_iff (t : Tracker) (seq : Nat) :
    (t.find seq).filter TrackEntry.awaitsHold = none
      ↔ ∀ e, t.find seq = some e → e.stage ≠ .rating ∨ e.requested = false := by
  simp [Option.filter_eq_none_iff, TrackEntry.awaitsHold_iff, imp_iff_not_or]

/-! ### The work dropped -/

/-- The rating unit IDLE again, with the rating no longer counted as a use of its bank (R55). -/
def State.endRating (s : State) (record : RatingRecord) : State :=
  { s with rating := none, useCounts := s.useCounts.set record.bank (s.useCounts.get record.bank - 1) }

/-- A completion ends the rating; with no entry to keep the result for, that is all (R58). -/
theorem State.ratingCompletion_discarded {s : State} {record : RatingRecord} (rating : s.rating = some record)
    (unkept : s.keptEntry record = none) : s.ratingCompletion = s.endRating record := by
  have unkept : (s.endRating record).keptEntry record = none := unkept
  rw [State.endRating] at unkept ⊢
  simp only [State.ratingCompletion, rating, unkept]

/-- A void request only leaves the list of requests (R39, R58). -/
theorem State.takeRequest_void {s : State} {request : Hold} {rest : List Hold} (requests : s.requests = request :: rest)
    (void : ((s.tracker request.lane).find request.seq).filter TrackEntry.awaitsHold = none) :
    s.takeRequest = { s with requests := rest } := by
  have void : ((State.tracker { s with requests := rest } request.lane).find request.seq).filter TrackEntry.awaitsHold
      = none := void
  simp only [State.takeRequest, requests, void]

/-- Settles O53: neither event asks for a whole update, and what is left of each changes no group of the status block. -/
theorem workForAGoneEntryIsDropped : Obligations.WorkForAGoneEntryIsDropped := by
  constructor
  · intro s record ready rating gone
    have plan : eventPlan .ratingCompletion s = .done (s.endRating record) :=
      congrArg Plan.done (State.ratingCompletion_discarded rating ((s.keptEntry_eq_none_iff record).mpr gone))
    exact exec_of_eventPlan_done_unmarked ready rfl plan rfl
  · intro s request rest ready requests gone
    have plan : eventPlan .holdRequest s = .done { s with requests := rest } :=
      congrArg Plan.done (State.takeRequest_void requests ((find_filter_awaitsHold_eq_none_iff _ _).mpr gone))
    exact exec_of_eventPlan_done_unmarked ready rfl plan rfl

end Sys2Proof.Machine
end

section
/-! SUPPORT. A command of the command block taken at its post (R179, R181), and the credit of a voucher (R141, R142). -/

namespace Sys2Proof.Machine

/-! ### A command taken (R179, R181) -/

/-- The part with a command laid in the command block, recorded and IN_PROGRESS. -/
def State.inProgress (s : State) (i : Instr) : State := { s.layCommand i with command := some i }.writeStatus .inProgress

theorem State.inProgress_eq (s : State) (i : Instr) :
    s.inProgress i = { s with mem := (s.inProgress i).mem, command := some i } := by
  simp only [State.inProgress, State.layCommand]
  split <;> rfl

/-- What the post looks at is not in the command block (R182). -/
theorem State.refusalAtPost_inProgress (s : State) (i j : Instr) :
    (s.inProgress j).refusalAtPost i = s.refusalAtPost i := by
  rw [State.inProgress_eq]
  rfl

/-- A command other than RESTART that its post does not refuse is carried out then, unless its update begins later. -/
theorem exec_of_command_taken {i : Instr} {s : State} (takes : s.TakesCommands)
    (command : exec i s = powered (fun s => s.issue i) s) (other : i ≠ .restart) (accepted : s.refusalAtPost i = none)
    (now : beginsLater i = false) :
    exec i s = .next ((commandPlan i (s.inProgress i)).carryOut (paceOf i)).flush := by
  obtain ⟨⟨supply, idle, -⟩, free⟩ := takes
  have posted : s.issue i = (s.layCommand i).takeCommand i := by
    have free : (s.layCommand i).command.isSome = false := by simp [free]
    unfold State.issue State.post
    split
    case h_1 => exact absurd rfl other
    case h_2 => simp only [free, Bool.false_eq_true, if_false]
  have idle : (s.inProgress i).inStore = none := by rw [State.inProgress_eq, idle]
  have taken : (s.layCommand i).takeCommand i = (s.inProgress i).takeUp i := by
    rw [← s.refusalAtPost_inProgress i i] at accepted
    rw [State.inProgress] at accepted ⊢
    simp only [State.takeCommand, accepted]
  rw [command, powered_on _ supply, posted, taken, State.takeUp_idle idle now]

/-! ### The command block's bytes (11.5) -/

theorem unchangedOutside_writeStatus (s : State) (status : Status) :
    UnchangedOutside [codeAndStatus] s (s.writeStatus status) :=
  (unchangedOutside_writeFields s [⟨statusAddress, 2, statusCode status⟩]).mono (by simp [codeAndStatus, statusAddress])

theorem unchangedOutside_complete (s : State) (status : Status) :
    UnchangedOutside [codeAndStatus] s (s.complete status) :=
  (unchangedOutside_writeStatus s status).trans (.of_mem _ rfl rfl)

/-- A command's argument fields take the first bytes of the argument area, and nothing else is laid beside its code. -/
theorem unchangedOutside_inProgress (s : State) {i : Instr} {size : Nat}
    (laid : LaidOut argumentAddress (argumentAddress + size) (argumentFields i)) :
    UnchangedOutside [codeAndStatus, argumentsOf size] s (s.inProgress i) := by
  have lays : UnchangedOutside [codeAndStatus, argumentsOf size] s (s.layCommand i) := by
    unfold State.layCommand
    split
    case h_1 code _ =>
      refine (unchangedOutside_writeFields s (⟨commandCodeAddress, 2, code⟩ :: argumentFields i)).mono fun r hr => ?_
      obtain ⟨f, hf, rfl⟩ := List.mem_map.mp hr
      rcases List.mem_cons.mp hf with rfl | hf
      · exact ⟨codeAndStatus, List.mem_cons_self, le_rfl, by simp [codeAndStatus, commandCodeAddress]⟩
      · exact ⟨argumentsOf size, by simp, laid.within hf⟩
    case h_2 => exact .of_mem _ rfl rfl
  refine lays.trans ((UnchangedOutside.of_mem _ rfl rfl).trans
    ((unchangedOutside_writeStatus { s.layCommand i with command := some i } .inProgress).mono ?_))
  simp

/-! ### A completion (R181) -/

/-- A cause raised is set (R188). -/
theorem Notices.flag_raise_same (n : Notices) (c : Cause) : (n.raise c).flag c = true := by
  cases c <;> simp [Notices.raise, Notices.flag, withBit, Cause.number]

theorem statusCode_lt (status : Status) : statusCode status < 256 ^ 2 := by cases status <;> decide

/-- The rewrite of the status block leaves a completion as it is. -/
theorem completed_flush_complete (s : State) (status : Status) : (s.complete status).flush.Completed status := by
  refine ⟨?_, by simp, by simp [Notices.flag_raise_same]⟩
  calc (s.complete status).flush.readField statusAddress 2
      = (s.complete status).readField statusAddress 2 := (unchangedOutside_flush _).readField (by simp) (by decide)
    _ = (s.writeStatus status).readField statusAddress 2 := readField_of_mem rfl rfl rfl _ _
    _ = statusCode status % 256 ^ 2 := readField_writeFields s [] [] ⟨statusAddress, 2, statusCode status⟩ (by simp)
    _ = statusCode status := Nat.mod_eq_of_lt (statusCode_lt status)

/-! ### APPLY VOUCHER (R141, R142) -/

/-- R141's four checks. -/
theorem voucherRefusal_eq_none_iff {items : Items} {licence : Licence} {x : VoucherArguments} :
    voucherRefusal items licence x = none
      ↔ x.meterId.toNat = licence.meterId ∧ x.check = crc32 (voucherMessage x licence.seed)
        ∧ x.serial.toNat = items.voucherSerial + 1 ∧ items.descending + x.amount.toNat ≤ licence.maximumFunds
        ∧ items.credit + x.amount.toNat ≤ largestMoney := by
  unfold voucherRefusal
  split_ifs with meter word inOrder above
  · exact iff_of_false nofun fun ⟨meter', _⟩ => meter meter'
  · exact iff_of_false nofun fun ⟨_, word', _⟩ => word word'
  · exact iff_of_false nofun fun ⟨_, _, inOrder', _⟩ => inOrder inOrder'
  · exact iff_of_false nofun fun ⟨_, _, _, funds, credit⟩ => above.elim (not_lt.mpr funds) (not_lt.mpr credit)
  · obtain ⟨funds, credit⟩ := not_or.mp above
    exact iff_of_true rfl ⟨not_not.mp meter, not_not.mp word, not_not.mp inOrder, not_lt.mp funds, not_lt.mp credit⟩

/-- APPLY VOUCHER is taken in SETUP and OPERATING (R182). -/
theorem takenInPart_applyVoucher {x : VoucherArguments} {pace : CommandPace} {part : PartState}
    (open_ : part = .setup ∨ part = .operating) : takenInPart (.applyVoucher x pace) part = true := by
  rcases open_ with rfl | rfl <;> rfl

/-- The new values of a voucher's credit: its day is the calendar's while that is valid (R142). -/
def State.voucherValues (s : State) (x : VoucherArguments) : Items :=
  s.items.creditVoucher x.amount.toNat x.serial.toNat (s.calendar.dayOr x.issueDay.toNat)

/-- A voucher in range that no check refuses asks for its credit as one whole update. -/
theorem commandPlan_applyVoucher_credits {x : VoucherArguments} {pace : CommandPace} {licence : Licence} {s : State}
    (part : s.part = .setup ∨ s.part = .operating) (licensed : s.items.licence = some licence) (nonzero : x.amount ≠ 0)
    (range : x.amount.toNat ≤ 99999999) (passes : voucherRefusal s.items licence x = none) :
    commandPlan (.applyVoucher x pace) s = .update .credit (s.voucherValues x) s := by
  have inRange : ¬ (x.amount = 0 ∨ 99999999 < x.amount.toNat) := not_or.mpr ⟨nonzero, not_lt.mpr range⟩
  calc commandPlan (.applyVoucher x pace) s
      = applyVoucherPlan x s := if_pos (takenInPart_applyVoucher part)
    _ = .update .credit (s.voucherValues x) s := by
      simp only [applyVoucherPlan, if_neg inRange, licensed, passes, State.voucherValues]

/-- The part with a credit's whole update made and its event completed, its status block not yet rewritten. -/
def State.credited (s : State) (values : Items) : State := (s.makeUpdate .credit values).after .credit

theorem State.credited_eq (s : State) (values : Items) :
    s.credited values =
      { s with
        mem := (s.credited values).mem, command := none, notices := s.notices.raise .commandDone, notice := .none
        dirty := { s.dirty with funds := true }, store := (s.credited values).store, inStore := none } := rfl

theorem State.credited_items (s : State) (values : Items) : (s.credited values).items = values := rfl

/-- The new values lie in the store under their check word (R133). -/
theorem flush_credited_store (s : State) (values : Items) :
    (s.credited values).flush.items = values
      ∧ (s.credited values).flush.store.check = (s.credited values).flush.items.checkWord := by
  have store : (s.credited values).flush.store = (s.credited values).store := by simp
  rw [State.items, store]
  exact ⟨rfl, rfl⟩

theorem completed_flush_credited (s : State) (values : Items) : (s.credited values).flush.Completed .done :=
  completed_flush_complete _ .done

theorem unchangedOutside_flush_credited (s : State) (values : Items) :
    UnchangedOutside [statusBlock, codeAndStatus] s (s.credited values).flush := by
  have completes : UnchangedOutside [codeAndStatus] s (s.credited values) :=
    (UnchangedOutside.of_mem _ rfl rfl).trans
      (unchangedOutside_complete { s.makeUpdate .credit values with notice := .none }.touchFunds .done)
  exact (completes.mono (by simp)).trans ((unchangedOutside_flush _).mono (by simp))

/-- Beyond the credit and its completion only the status block is rewritten. -/
theorem State.flush_credited_eq (s : State) (values : Items) :
    (s.credited values).flush =
      { s with
        mem := (s.credited values).flush.mem, generation := (s.credited values).flush.generation
        command := none, notices := s.notices.raise .commandDone, notice := .none, dirty := Groups.none
        store := (s.credited values).flush.store, inStore := none } := by
  have store : (s.credited values).flush.store = (s.credited values).store := by simp
  rw [store]
  exact flush_eq _

/-- With the command taken at its post only the credit's own effects are left. -/
theorem flush_credited_inProgress_eq {s : State} (takes : s.TakesCommands) (i : Instr) (values : Items) :
    ((s.inProgress i).credited values).flush =
      { s with
        mem := ((s.inProgress i).credited values).flush.mem
        generation := ((s.inProgress i).credited values).flush.generation
        notices := s.notices.raise .commandDone, notice := .none
        store := ((s.inProgress i).credited values).flush.store } := by
  obtain ⟨⟨-, idle, clean⟩, free⟩ := takes
  refine (State.flush_credited_eq _ values).trans ?_
  generalize ((s.inProgress i).credited values).flush = t
  rw [State.inProgress_eq, ← clean, ← idle, ← free]

/-- The status block shows the descending register a credit leaves (R5). -/
theorem readField_flush_credited {s : State} (started : s.part ≠ .start) (values : Items) :
    (s.credited values).flush.readField 0x18 6 = values.descending % 256 ^ 6 := by
  have marked : (s.credited values).dirty.funds = true := by rw [State.credited_eq]
  have field : Field.mk 0x18 6 values.descending ∈ fundsFields (s.credited values) := by
    rw [fundsFields, State.credited_items]
    exact List.mem_cons_self
  have shown : Field.mk 0x18 6 values.descending ∈ dirtyFields (s.credited values) := by simp [dirtyFields, marked, field]
  exact readField_flush (by rwa [State.credited_eq]) shown

/-- The arguments of APPLY VOUCHER take 18 bytes (11.5). -/
theorem laidOut_applyVoucher (x : VoucherArguments) (pace : CommandPace) :
    LaidOut argumentAddress (argumentAddress + 18) (argumentFields (.applyVoucher x pace)) :=
  ⟨le_rfl, le_rfl, le_rfl, le_rfl, le_rfl, le_rfl⟩

/-- A voucher that passes every check is credited at its post. -/
theorem exec_applyVoucher_credits {x : VoucherArguments} {licence : Licence} {s : State} (takes : s.TakesCommands)
    (part : s.part = .setup ∨ s.part = .operating) (licensed : s.items.licence = some licence) (nonzero : x.amount ≠ 0)
    (range : x.amount.toNat ≤ 99999999) (passes : voucherRefusal s.items licence x = none) :
    exec (.applyVoucher x (.atOnce .made)) s
      = .next ((s.inProgress (.applyVoucher x (.atOnce .made))).credited (s.voucherValues x)).flush := by
  have accepted : s.refusalAtPost (.applyVoucher x (.atOnce .made)) = none := if_pos (takenInPart_applyVoucher part)
  have plan : commandPlan (.applyVoucher x (.atOnce .made)) (s.inProgress (.applyVoucher x (.atOnce .made)))
      = .update .credit (s.voucherValues x) (s.inProgress (.applyVoucher x (.atOnce .made))) := by
    rw [State.inProgress_eq]
    exact commandPlan_applyVoucher_credits part licensed nonzero range passes
  rw [exec_of_command_taken takes rfl (by simp) accepted rfl, plan]
  rfl

/-- Settles O40: the voucher passes every check of its plan, so its post asks for the credit as one whole update, made within
the event. -/
theorem voucherCredited : Obligations.VoucherCredited := by
  intro x licence s takes part licensed nonzero range meter word inOrder funds credit
  have passes : voucherRefusal s.items licence x = none :=
    voucherRefusal_eq_none_iff.mpr ⟨meter, word, inOrder, funds, credit⟩
  have started : (s.inProgress (.applyVoucher x (.atOnce .made))).part ≠ .start := by
    rw [State.inProgress_eq]
    rcases part with part | part <;> simp [part]
  obtain ⟨items, check⟩ := flush_credited_store (s.inProgress (.applyVoucher x (.atOnce .made))) (s.voucherValues x)
  exact ⟨_, exec_applyVoucher_credits takes part licensed nonzero range passes, completed_flush_credited _ _, items, check,
    readField_flush_credited started _, flush_credited_inProgress_eq takes _ _,
    ((unchangedOutside_inProgress s (laidOut_applyVoucher x _)).mono (by simp)).trans
      ((unchangedOutside_flush_credited _ _).mono (by simp))⟩

end Sys2Proof.Machine
end

section
/-! SUPPORT. The end of the IMPRINT frame and the assertion of ANSWER_READY, in each state of the lane's link (R149, R150). -/

namespace Sys2Proof.Machine

/-- A present lane's link takes its events (8.1). -/
theorem State.linkPlan_present {s : State} {lane : Lane} (plan : State → Plan) (present : s.present lane = true) :
    s.linkPlan lane plan = plan s :=
  if_pos present

/-- A link event that asks for no whole update and changes no group of the status block: what it makes of the state is the
next one. -/
theorem exec_of_linkPlan_done {i : Instr} {s t : State} {lane : Lane} (f : State → State) (ready : s.Ready)
    (present : s.present lane = true) (event : exec i s = powered (fun s => s.occur i) s)
    (plan : eventPlan i s = s.linkPlan lane (fun s => .done (f s))) (comes : f s = t) (unmarked : t.dirty = s.dirty) :
    exec i s = .next t := by
  have done : eventPlan i s = .done t := by rw [plan, State.linkPlan_present _ present, comes]
  exact exec_of_eventPlan_done_unmarked ready event done unmarked

/-! ### FRAME_SENT (R149) -/

theorem State.frameSent_sending {s : State} {lane : Lane} (sending : (s.link lane).state = .sending) :
    s.frameSent lane
      = s.setLink lane { s.link lane with state := .awaiting, timer := some (s.tracker lane).config.timer } := by
  simp only [State.frameSent, sending]

theorem exec_frameSent_sending {lane : Lane} {s : State} (ready : s.Ready) (present : s.present lane = true)
    (sending : (s.link lane).state = .sending) :
    exec (.frameSent lane) s = .next
      (s.setLink lane { s.link lane with state := .awaiting, timer := some (s.tracker lane).config.timer }) :=
  exec_of_linkPlan_done (fun s => s.frameSent lane) ready present rfl rfl (State.frameSent_sending sending) rfl

/-! ### ANSWER_READY (R150) -/

theorem State.answerReady_reads {s : State} {lane : Lane}
    (reads : (s.link lane).state = .awaiting ∨ (s.link lane).state = .idle ∧ (s.link lane).late ≠ none) :
    s.answerReady lane = s.setLink lane { s.link lane with state := .reading } := by
  rcases reads with awaiting | ⟨idle, late⟩
  · simp only [State.answerReady, awaiting]
  · simp only [State.answerReady, idle, Option.isSome_iff_ne_none.mpr late, if_true]

theorem State.answerReady_ignored {s : State} {lane : Lane}
    (ignores : (s.link lane).state = .sending ∨ (s.link lane).state = .reading
      ∨ (s.link lane).state = .idle ∧ (s.link lane).late = none) :
    s.answerReady lane = s := by
  rcases ignores with sending | reading | ⟨idle, late⟩
  · simp only [State.answerReady, sending]
  · simp only [State.answerReady, reading]
  · simp [State.answerReady, idle, late]

theorem exec_answerReady_present {lane : Lane} {s t : State} (ready : s.Ready) (present : s.present lane = true)
    (comes : s.answerReady lane = t) (unmarked : t.dirty = s.dirty) : exec (.answerReady lane) s = .next t :=
  exec_of_linkPlan_done (fun s => s.answerReady lane) ready present rfl rfl comes unmarked

/-- Settles O56: both events are plans of the link alone, so the next state is the link's own rule for the state it is in. -/
theorem linkSendsAndReads : Obligations.LinkSendsAndReads := by
  intro lane s ready present
  refine ⟨fun sending => ?_, fun reads => ?_, fun ignores => ?_⟩
  · exact exec_frameSent_sending ready present sending
  · exact exec_answerReady_present ready present (State.answerReady_reads reads) rfl
  · exact exec_answerReady_present ready present (State.answerReady_ignored ignores) rfl

end Sys2Proof.Machine
end

section
/-! SUPPORT. The order in which the set flags that may interrupt are serviced, and VECTOR as the first of them (R189, R190). -/

namespace Sys2Proof.Machine

/-! ### The flags that may interrupt (R189) -/

@[simp] theorem Notices.unmasked_iff (n : Notices) (k : Nat) :
    n.unmasked k = true ↔ n.cause.getLsbD k = true ∧ (k < 2 ∨ n.mask.getLsbD k = false) := by
  simp [Notices.unmasked]

theorem Notices.int_iff (n : Notices) : n.int = true ↔ ∃ k < 16, n.unmasked k = true := by
  simp only [Notices.int, List.any_eq_true, List.mem_range]

/-- With flags 0 and 1 clear, only the maskable causes are left to interrupt. -/
theorem Notices.two_le_of_unmasked {n : Notices} {k : Nat} (clear₀ : n.cause.getLsbD 0 = false)
    (clear₁ : n.cause.getLsbD 1 = false) (may : n.unmasked k = true) : 2 ≤ k := by
  obtain ⟨set, -⟩ := (n.unmasked_iff k).mp may
  match k with
  | 0 => exact absurd set (Bool.eq_false_iff.mp clear₀)
  | 1 => exact absurd set (Bool.eq_false_iff.mp clear₁)
  | k + 2 => omega

/-! ### The order of service (R190) -/

/-- Cause v is serviced before cause k: causes 0 and 1 come before every later number, then the urgent causes before the
routine ones, and within a group the lower number. -/
def Notices.Before (n : Notices) (v k : Nat) : Prop :=
  v < 2 ∧ v < k
    ∨ 2 ≤ v ∧ 2 ≤ k ∧ n.group.getLsbD v = true ∧ n.group.getLsbD k = false
    ∨ 2 ≤ v ∧ n.group.getLsbD v = n.group.getLsbD k ∧ v < k

/-- Cause v may interrupt and is serviced before every other cause that may. -/
def Notices.Chosen (n : Notices) (v : Nat) : Prop :=
  v < 16 ∧ n.unmasked v = true ∧ ∀ k < 16, n.unmasked k = true → k ≠ v → n.Before v k

theorem Notices.chosen_zero {n : Notices} (set : n.cause.getLsbD 0 = true) : n.Chosen 0 :=
  ⟨by omega, by simp [set], fun _ _ _ other => .inl ⟨by omega, by omega⟩⟩

theorem Notices.chosen_one {n : Notices} (clear₀ : n.cause.getLsbD 0 = false) (set : n.cause.getLsbD 1 = true) :
    n.Chosen 1 := by
  refine ⟨by omega, by simp [set], fun k _ may other => .inl ⟨by omega, ?_⟩⟩
  have nonzero : k ≠ 0 := by
    rintro rfl
    obtain ⟨set₀, -⟩ := (n.unmasked_iff 0).mp may
    exact absurd set₀ (Bool.eq_false_iff.mp clear₀)
  omega

/-- The lowest urgent cause that may interrupt is chosen when flags 0 and 1 are clear. -/
theorem Notices.chosen_urgent {n : Notices} {v : Nat} (clear₀ : n.cause.getLsbD 0 = false)
    (clear₁ : n.cause.getLsbD 1 = false)
    (lowest : (List.range 16).find? (fun k => n.unmasked k && n.group.getLsbD k) = some v) : n.Chosen v := by
  obtain ⟨found, inRange, below⟩ := List.find?_range_eq_some.mp lowest
  obtain ⟨may, urgent⟩ := Bool.and_eq_true_iff.mp found
  refine ⟨List.mem_range.mp inRange, may, fun k _ mayK other => .inr ?_⟩
  have maskable : 2 ≤ v := two_le_of_unmasked clear₀ clear₁ may
  by_cases group : n.group.getLsbD k = true
  · have notBelow : ¬ k < v := fun lt => absurd (below k lt) (by simp [mayK, group])
    exact .inr ⟨maskable, urgent.trans group.symm, by omega⟩
  · exact .inl ⟨maskable, two_le_of_unmasked clear₀ clear₁ mayK, urgent, Bool.eq_false_of_not_eq_true group⟩

/-- Without an urgent cause that may interrupt, the lowest routine one is chosen when flags 0 and 1 are clear. -/
theorem Notices.chosen_routine {n : Notices} {v : Nat} (clear₀ : n.cause.getLsbD 0 = false)
    (clear₁ : n.cause.getLsbD 1 = false) (noUrgent : ∀ k < 16, n.unmasked k = true → n.group.getLsbD k = false)
    (lowest : (List.range 16).find? (fun k => n.unmasked k && !n.group.getLsbD k) = some v) : n.Chosen v := by
  obtain ⟨found, inRange, below⟩ := List.find?_range_eq_some.mp lowest
  obtain ⟨may, -⟩ := Bool.and_eq_true_iff.mp found
  have lt := List.mem_range.mp inRange
  refine ⟨lt, may, fun k ltK mayK other => .inr (.inr ⟨two_le_of_unmasked clear₀ clear₁ may, ?_, ?_⟩)⟩
  · rw [noUrgent v lt may, noUrgent k ltK mayK]
  · have notBelow : ¬ k < v := fun lt => absurd (below k lt) (by simp [mayK, noUrgent k ltK mayK])
    omega

/-! ### VECTOR (R190) -/

/-- All that VECTOR can read: the cause chosen, or 0x00FF when no cause may interrupt. -/
theorem Notices.vector_chosen_or_none (n : Notices) :
    n.Chosen n.vector ∨ n.vector = 0x00FF ∧ ∀ k < 16, n.unmasked k = false := by
  unfold Notices.vector
  split
  next set₀ => exact .inl (chosen_zero set₀)
  next unset₀ =>
    have clear₀ := Bool.eq_false_of_not_eq_true unset₀
    split
    next set₁ => exact .inl (chosen_one clear₀ set₁)
    next unset₁ =>
      have clear₁ := Bool.eq_false_of_not_eq_true unset₁
      split
      next v lowest => exact .inl (chosen_urgent clear₀ clear₁ lowest)
      next none =>
        have noUrgent : ∀ k < 16, n.unmasked k = true → n.group.getLsbD k = false := fun k lt may => by
          simpa [may] using List.find?_range_eq_none.mp none k lt
        split
        next v lowest => exact .inl (chosen_routine clear₀ clear₁ noUrgent lowest)
        next none =>
          refine .inr ⟨rfl, fun k lt => Bool.eq_false_of_not_eq_true fun may => ?_⟩
          exact absurd (List.find?_range_eq_none.mp none k lt) (by simp [may, noUrgent k lt may])

theorem Notices.int_of_chosen {n : Notices} {v : Nat} (chosen : n.Chosen v) : n.int = true :=
  let ⟨lt, may, _⟩ := chosen
  n.int_iff.mpr ⟨v, lt, may⟩

theorem Notices.int_eq_false_of_none {n : Notices} (silent : ∀ k < 16, n.unmasked k = false) : n.int = false := by
  refine Bool.eq_false_of_not_eq_true fun int => ?_
  obtain ⟨k, lt, may⟩ := n.int_iff.mp int
  exact Bool.false_ne_true ((silent k lt).symm.trans may)

/-- While INT is asserted VECTOR gives the chosen cause; a deasserted INT leaves none to choose. -/
theorem Notices.chosen_vector_of_int {n : Notices} (int : n.int = true) : n.Chosen n.vector := by
  rcases n.vector_chosen_or_none with chosen | ⟨-, silent⟩
  · exact chosen
  · exact absurd int (by simp [int_eq_false_of_none silent])

theorem Notices.vector_eq_none_iff (n : Notices) : n.vector = 0x00FF ↔ n.int = false := by
  rcases n.vector_chosen_or_none with chosen | ⟨none, silent⟩
  · have asserted := int_of_chosen chosen
    obtain ⟨lt, -, -⟩ := chosen
    simp only [asserted, Bool.true_eq_false, iff_false]
    omega
  · simp only [none, int_eq_false_of_none silent]

/-- Settles O27: VECTOR is the cause chosen in the order of service, or 0x00FF when there is none to choose. -/
theorem vectorAgreesWithInt : Obligations.VectorAgreesWithInt := by
  intro n
  refine ⟨?_, n.vector_eq_none_iff, fun int => ?_⟩
  · simp only [n.int_iff, Notices.unmasked_iff]
  · obtain ⟨lt, may, first⟩ := Notices.chosen_vector_of_int int
    obtain ⟨set, maySignal⟩ := (n.unmasked_iff _).mp may
    exact ⟨lt, set, maySignal, fun k ltK setK maySignalK => first k ltK ((n.unmasked_iff k).mpr ⟨setK, maySignalK⟩)⟩

end Sys2Proof.Machine
end

section
/-! SUPPORT. One step (log entry 2), the laws at reset (log entry 1), the frame of a rewrite of the status block (R4), and
the supply, the battery and POWER_WARN (R134, R175, R192). -/

namespace Sys2Proof.Machine

/-- Settles O1: `step` looks at the front of the queue alone. -/
theorem stepTakesTheFrontCommand : Obligations.StepTakesTheFrontCommand := by
  refine ⟨fun i s => rfl, fun s empty => ?_⟩
  unfold step
  rw [empty]

/-! ### The laws at reset -/

theorem lawfulStatus_reset : State.reset.LawfulStatus :=
  ⟨rfl, fun _ started => absurd rfl started, fun _ _ _ inSteps => nomatch inSteps⟩

theorem lawfulQueues_reset : State.reset.LawfulQueues :=
  ⟨⟨Nat.zero_le _, fun _ => rfl⟩, ⟨Nat.zero_le _, fun _ => rfl⟩, Nat.zero_le _⟩

theorem lawfulFunds_reset : State.reset.LawfulFunds :=
  ⟨rfl, le_rfl, fun _ => ⟨⟨rfl, rfl⟩, ⟨rfl, rfl⟩, rfl⟩, fun _ _ inSteps => nomatch inSteps⟩

/-- A store fault leaves 32 closed accounts with no usage, and bank 1 ACTIVE (R110, R136). -/
theorem lawfulBooks_cleared : Items.cleared.LawfulBooks := by
  refine ⟨by simp [Items.cleared], ?_, ?_, ?_⟩ <;> simp [Items.cleared, Account.cleared, Bank.cleared]

theorem lawfulBooks_reset : State.reset.LawfulBooks :=
  ⟨lawfulBooks_cleared, fun _ h => (nomatch h), fun _ _ inSteps => nomatch inSteps⟩

/-- A store fault leaves no spoiled entry and no mark (R136). -/
theorem lawfulSpoiled_cleared : Items.cleared.LawfulSpoiled := by
  refine ⟨.nil, Nat.zero_le _, fun _ h => (nomatch h), fun lane mark present => ?_, fun _ _ h => nomatch h⟩
  cases lane <;> exact nomatch present

theorem lawfulImprints_reset : State.reset.LawfulImprints := by
  refine ⟨lawfulSpoiled_cleared, fun started => absurd rfl started, fun _ lane => by cases lane <;> rfl, fun running => ?_,
    fun _ _ inSteps => nomatch inSteps⟩
  rcases running with part | part <;> exact nomatch part

/-- Settles O2: the part has been reset and its store cleared, so every list is empty and every count 0. -/
theorem lawsHoldAtReset : Obligations.LawsHoldAtReset :=
  ⟨powerOnMemory_wf .lowFirst, lawfulStatus_reset, lawfulQueues_reset, lawfulFunds_reset, lawfulBooks_reset,
    lawfulImprints_reset⟩

/-! ### The frame of a rewrite (R4) -/

theorem nextGeneration_twice (g : Nat) : nextGeneration (nextGeneration g) = (g + 2) % 65536 := by
  simp only [nextGeneration]
  omega

/-- A rewrite counts the generation word on by two and shows it. -/
theorem flush_generation {s : State} (changed : s.dirty ≠ Groups.none) (started : s.part ≠ .start) :
    s.flush.generation = (s.generation + 2) % 65536 := by
  simp [State.flush, changed, started, nextGeneration_twice]

theorem readField_flush_generation {s : State} (changed : s.dirty ≠ Groups.none) (started : s.part ≠ .start) :
    s.flush.readField 0x00 2 = (s.generation + 2) % 65536 := by
  have shown := readField_writeFields_of_mem s
    (dirtyFields_generation_apart s (nextGeneration (nextGeneration s.generation)))
    (f := ⟨0x00, 2, nextGeneration (nextGeneration s.generation)⟩) (by simp)
  rw [readField_of_mem (flush_mem changed started) (by simp) (by simp), shown, nextGeneration_twice]
  exact Nat.mod_mod _ _

/-- Settles O7: the generation word is among the fields of the rewrite, which all lie in the status block. -/
theorem statusRewriteIsFramed : Obligations.StatusRewriteIsFramed := by
  intro s changed started _ even
  have counted := flush_generation changed started
  exact ⟨readField_flush_generation changed started, counted, by omega, flush_eq s, unchangedOutside_flush s⟩

/-! ### The supply, the battery and POWER_WARN -/

/-- POWER_WARNING is never masked (R189). -/
theorem int_of_powerWarning (n : Notices) : ({ n with cause := n.cause ||| 2#16 } : Notices).int = true :=
  (Notices.int_iff _).mpr ⟨1, by decide, by simp⟩

theorem exec_powerWarnAssert_change {s : State} (ready : s.Ready) (quiet : s.powerWarn = false) :
    exec .powerWarnAssert s = .next
      { s with powerWarn := true, notices := { s.notices with cause := s.notices.cause ||| 2#16 } } := by
  obtain ⟨supply, -, clean⟩ := ready
  have asserts : s.powerWarnAssert = { s with powerWarn := true }.raise .powerWarning := by
    simp [State.powerWarnAssert, quiet, supply]
  show Host.Outcome.next s.powerWarnAssert.flush = _
  rw [asserts, flush_clean (by exact clean)]
  rfl

/-- Settles O12: none of these events changes a group of the status block, so each is its own state. -/
theorem supplyBatteryAndWarning : Obligations.SupplyBatteryAndWarning := by
  refine ⟨fun s settled => ⟨?_, ?_⟩, fun s ready => ⟨fun quiet => ?_, fun warned => ?_, ?_⟩⟩
  · exact congrArg Host.Outcome.next (flush_clean settled)
  · exact ⟨s.batteryLoss, congrArg Host.Outcome.next (flush_clean settled), rfl, rfl, rfl, rfl⟩
  · exact ⟨exec_powerWarnAssert_change ready quiet, int_of_powerWarning s.notices⟩
  · obtain ⟨-, -, clean⟩ := ready
    show Host.Outcome.next s.powerWarnAssert.flush = _
    rw [State.powerWarnAssert, if_pos warned, flush_clean clean]
  · obtain ⟨-, -, clean⟩ := ready
    exact congrArg Host.Outcome.next (flush_clean (s := s.powerWarnDeassert) clean)

end Sys2Proof.Machine
end

section
/-! SUPPORT. What the trackers' operations leave alone: each moves memory, the lanes, the marks of the status block and the
notices, and a halt the take queue and the holds as well. -/

namespace Sys2Proof.Machine

/-- Nothing but memory, the lanes, the notices, the marks on the status block, the take queue and the holds differs. -/
abbrev OnBelt (s t : State) : Prop :=
  t.supply = s.supply ∧ t.powerWarn = s.powerWarn ∧ t.warnAtReset = s.warnAtReset ∧ t.laneCount = s.laneCount
    ∧ t.order = s.order ∧ t.powerOns = s.powerOns ∧ t.part = s.part ∧ t.resetCause = s.resetCause ∧ t.command = s.command
    ∧ t.heldReset = s.heldReset ∧ t.generation = s.generation ∧ t.links = s.links ∧ t.rating = s.rating
    ∧ t.useCounts = s.useCounts ∧ t.load = s.load ∧ t.requests = s.requests ∧ t.notice = s.notice ∧ t.calendar = s.calendar
    ∧ t.store = s.store ∧ t.inStore = s.inStore ∧ t.held = s.held ∧ t.unbegun = s.unbegun ∧ t.freeCount = s.freeCount
    ∧ t.pending = s.pending

/-- The same with the take queue and the holds as they were. -/
abbrev OnLanes (s t : State) : Prop := OnBelt s t ∧ t.takeQueue = s.takeQueue ∧ t.holds = s.holds

@[simp] theorem State.stray_onLanes (s : State) (lane : Lane) : OnLanes s (s.stray lane) := by simp [OnLanes, OnBelt, State.stray]

@[simp] theorem State.endBatch_onLanes (s : State) (lane : Lane) : OnLanes s (s.endBatch lane) := by
  unfold State.endBatch
  dsimp only
  split <;> simp [OnLanes, OnBelt]

@[simp] theorem State.slotDone_onLanes (s : State) (lane : Lane) (e : TrackEntry) (index : Nat) (outcome : PieceOutcome)
    (cause : Option DivertCause) : OnLanes s (s.slotDone lane e index outcome cause) := by
  simp [OnLanes, OnBelt, State.slotDone]

@[simp] theorem State.endEntry_onLanes (s : State) (lane : Lane) (e : TrackEntry) (outcome : PieceOutcome)
    (cause : Option DivertCause) : OnLanes s (s.endEntry lane e outcome cause) := by
  unfold State.endEntry
  cases e.slot <;> simp [OnLanes, OnBelt]

@[simp] theorem State.drainCheck_onLanes (s : State) (lane : Lane) : OnLanes s (s.drainCheck lane) := by
  unfold State.drainCheck
  dsimp only
  split <;> simp [OnLanes, OnBelt]

@[simp] theorem State.endEntries_onLanes (s : State) (lane : Lane) (otherwise : DivertCause) (es : List TrackEntry) :
    OnLanes s (s.endEntries lane otherwise es) := by
  induction es generalizing s with
  | nil => simp [OnLanes, OnBelt, State.endEntries]
  | cons e es ih => simp [OnLanes, OnBelt, State.endEntries, ih]

@[simp] theorem State.emptyHalted_onLanes (s : State) (lane : Lane) : OnLanes s (s.emptyHalted lane) := by
  unfold State.emptyHalted
  dsimp only
  split <;> simp [OnLanes, OnBelt]

@[simp] theorem State.enterWithoutSlot_onLanes (s : State) (lane : Lane) (cause : DivertCause) :
    OnLanes s (s.enterWithoutSlot lane cause) := by
  unfold State.enterWithoutSlot
  dsimp only
  split <;> simp [OnLanes, OnBelt]

@[simp] theorem State.openSlot_onLanes (s : State) (lane : Lane) : OnLanes s (s.openSlot lane) := by
  simp [OnLanes, OnBelt, State.openSlot]

@[simp] theorem State.driveGate_onLanes (s : State) (lane : Lane) (e : TrackEntry) : OnLanes s (s.driveGate lane e) := by
  simp [OnLanes, OnBelt, State.driveGate]

@[simp] theorem State.endAtExit_onLanes (s : State) (lane : Lane) (e : TrackEntry) : OnLanes s (s.endAtExit lane e) := by
  unfold State.endAtExit
  split <;> simp [OnLanes, OnBelt]

@[simp] theorem State.exitPhotocell_onLanes (s : State) (lane : Lane) : OnLanes s (s.exitPhotocell lane) := by
  unfold State.exitPhotocell
  split
  · simp [OnLanes, OnBelt]
  · dsimp only
    split <;> simp [OnLanes, OnBelt]

@[simp] theorem State.moveLane_onLanes (s : State) (lane : Lane) (state : LaneState) : OnLanes s (s.moveLane lane state) := by
  simp [OnLanes, OnBelt, State.moveLane]

@[simp] theorem State.runWrite_onLanes (s : State) (lane : Lane) (value : Bool) : OnLanes s (s.runWrite lane value) := by
  unfold State.runWrite
  split
  · split
    · split <;> simp [OnLanes, OnBelt]
    all_goals simp [OnLanes, OnBelt]
  · simp [OnLanes, OnBelt]

@[simp] theorem State.settleEntry_onLanes (s : State) (lane : Lane) (seq : Nat) (result : PrintResult) :
    OnLanes s (s.settleEntry lane seq result) := by
  unfold State.settleEntry
  split
  · simp [OnLanes, OnBelt]
  · dsimp only
    split
    · split <;> simp [OnLanes, OnBelt]
    · simp [OnLanes, OnBelt]

@[simp] theorem State.releaseLane_onBelt (s : State) (lane : Lane) :
    OnBelt s (s.releaseLane lane) ∧ (s.releaseLane lane).lanes = s.lanes ∧ (s.releaseLane lane).mem = s.mem
      ∧ (s.releaseLane lane).notices = s.notices ∧ (s.releaseLane lane).takeQueue = s.takeQueue := by
  unfold State.releaseLane
  split <;> simp [OnBelt]

@[simp] theorem State.halt_onBelt (s : State) (lane : Lane) (cause : HaltCause) : OnBelt s (s.halt lane cause) := by
  unfold State.halt
  dsimp only
  split <;> simp [OnBelt]

@[simp] theorem State.enter_onBelt (s : State) (lane : Lane) : OnBelt s (s.enter lane) := by
  unfold State.enter
  split
  · simp [OnBelt]
  · split <;> simp [OnBelt]

@[simp] theorem State.encoderCount_onBelt (s : State) (lane : Lane) : OnBelt s (s.encoderCount lane) := by
  unfold State.encoderCount
  dsimp only
  split
  · split <;> simp [OnBelt]
  · simp [OnBelt]

@[simp] theorem State.rateFilled_onBelt (s : State) (lane : Lane) (e : TrackEntry) (index : Nat) :
    OnBelt s (s.rateFilled lane e index) := by
  unfold State.rateFilled
  dsimp only
  split
  · simp [OnBelt]
  · split <;> simp [OnBelt]

@[simp] theorem State.ratePhotocell_onBelt (s : State) (lane : Lane) : OnBelt s (s.ratePhotocell lane) := by
  unfold State.ratePhotocell
  split
  · simp [OnBelt]
  · split
    · split <;> simp [OnBelt, State.rateLateFill]
    · simp [OnBelt]

end Sys2Proof.Machine
end

section
/-! SUPPORT. What no event that the store may hold changes: the supply and the pins, the straps, what is held for the store
and behind it, and the queue of commands. -/

namespace Sys2Proof.Machine

/-- The state that taking an event comes to, up to its whole update if it asks for one. -/
def Plan.state : Plan → State
  | .done s => s
  | .update _ _ s => s

@[simp] theorem Plan.state_done (s : State) : (Plan.done s).state = s := rfl

@[simp] theorem Plan.state_update (work : Work) (values : Items) (s : State) : (Plan.update work values s).state = s := rfl

/-- What is not the units' own is the same: the supply and the levels, the straps, the count of power-ons, the cause of the
last reset, and everything that waits. -/
abbrev SameOutside (s t : State) : Prop :=
  t.supply = s.supply ∧ t.powerWarn = s.powerWarn ∧ t.warnAtReset = s.warnAtReset ∧ t.laneCount = s.laneCount
    ∧ t.order = s.order ∧ t.powerOns = s.powerOns ∧ t.resetCause = s.resetCause ∧ t.heldReset = s.heldReset
    ∧ t.inStore = s.inStore ∧ t.held = s.held ∧ t.unbegun = s.unbegun ∧ t.freeCount = s.freeCount ∧ t.pending = s.pending

theorem SameOutside.refl (s : State) : SameOutside s s := by simp [SameOutside]

theorem SameOutside.trans {s t u : State} (first : SameOutside s t) (second : SameOutside t u) : SameOutside s u := by
  simp only [SameOutside] at first second ⊢
  simp [first, second]

/-! ### The belt -/

@[simp] theorem State.dispatchPlan_sameOutside (s : State) (lane : Lane) (e : TrackEntry) :
    SameOutside s (s.dispatchPlan lane e).state := by
  unfold State.dispatchPlan
  split
  · simp [SameOutside]
  · split <;> simp [SameOutside]

@[simp] theorem State.printPhotocell_sameOutside (s : State) (lane : Lane) : SameOutside s (s.printPhotocell lane).state := by
  unfold State.printPhotocell
  split
  · simp [SameOutside]
  · split <;> simp [SameOutside]

theorem State.sensorPlan_sameOutside (s : State) (lane : Lane) (photocell : Position) (edge : Edge) (tracked : State → Plan)
    (h : SameOutside s (tracked s).state) : SameOutside s (s.sensorPlan lane photocell edge tracked).state := by
  unfold State.sensorPlan
  dsimp only
  split
  · simp [SameOutside]
  · split
    · exact h
    · simp [SameOutside]

/-! ### The links -/

@[simp] theorem State.settlePlan_sameOutside (s : State) (lane : Lane) (result : PrintResult) (expired : Bool) :
    SameOutside s (s.settlePlan lane result expired).state := by
  unfold State.settlePlan
  split <;> simp [SameOutside]

@[simp] theorem State.answerPlan_sameOutside (s : State) (lane : Lane) (frame : BitVec 48) :
    SameOutside s (s.answerPlan lane frame).state := by
  unfold State.answerPlan
  dsimp only
  split
  · split
    · simp [SameOutside]
    · split
      · simp [SameOutside]
      · split
        · simp [SameOutside]
        · split <;> simp [SameOutside]
  · simp [SameOutside]

@[simp] theorem State.expiryPlan_sameOutside (s : State) (lane : Lane) : SameOutside s (s.expiryPlan lane).state := by
  unfold State.expiryPlan
  dsimp only
  split
  · simp [SameOutside]
  · split <;> simp [SameOutside]

@[simp] theorem State.frameSent_sameOutside (s : State) (lane : Lane) : SameOutside s (s.frameSent lane) := by
  unfold State.frameSent
  dsimp only
  split <;> simp [SameOutside]

@[simp] theorem State.answerReady_sameOutside (s : State) (lane : Lane) : SameOutside s (s.answerReady lane) := by
  unfold State.answerReady
  dsimp only
  split
  · simp [SameOutside]
  · split <;> simp [SameOutside]
  · simp [SameOutside]

theorem State.linkPlan_sameOutside (s : State) (lane : Lane) (plan : State → Plan) (h : SameOutside s (plan s).state) :
    SameOutside s (s.linkPlan lane plan).state := by
  unfold State.linkPlan
  split
  · exact h
  · simp [SameOutside]

/-! ### The rating unit and the funds unit -/

@[simp] theorem State.take_sameOutside (s : State) : SameOutside s s.take := by
  unfold State.take
  split
  · dsimp only
    split <;> simp [SameOutside]
  · simp [SameOutside]

@[simp] theorem State.keepPriced_sameOutside (s : State) (record : RatingRecord) (e : TrackEntry)
    (tableId postage format zone weight : Nat) (result : RatingResult) :
    SameOutside s (s.keepPriced record e tableId postage format zone weight result) := by
  simp [State.keepPriced, SameOutside]

@[simp] theorem State.keepRefused_sameOutside (s : State) (record : RatingRecord) (e : TrackEntry) (tableId : Nat)
    (cause : DivertCause) (result : RatingResult) : SameOutside s (s.keepRefused record e tableId cause result) := by
  simp [State.keepRefused, SameOutside]

@[simp] theorem State.ratingCompletion_sameOutside (s : State) : SameOutside s s.ratingCompletion := by
  unfold State.ratingCompletion
  split
  · simp [SameOutside]
  · dsimp only
    split
    · simp [SameOutside]
    · split <;> simp [SameOutside]

@[simp] theorem State.placeHold_sameOutside (s : State) (request : Hold) : SameOutside s (s.placeHold request) := by
  unfold State.placeHold
  dsimp only
  split <;> simp [SameOutside]

@[simp] theorem State.refuseHold_sameOutside (s : State) (request : Hold) (cause : DivertCause) :
    SameOutside s (s.refuseHold request cause) := by
  unfold State.refuseHold
  dsimp only
  split <;> simp [SameOutside]

@[simp] theorem State.takeRequest_sameOutside (s : State) : SameOutside s s.takeRequest := by
  unfold State.takeRequest
  split
  · simp [SameOutside]
  · dsimp only
    split
    · simp [SameOutside]
    · split <;> simp [SameOutside]

/-! ### The rest of a whole update -/

/-- The evaluation moves the inspection notice and may raise its cause (R129). -/
theorem State.inspect_eq (s : State) : s.inspect = { s with notice := s.inspect.notice, notices := s.inspect.notices } := by
  unfold State.inspect
  split
  · dsimp only
    split_ifs <;> rfl
  · rfl

@[simp] theorem State.inspect_sameOutside (s : State) : SameOutside s s.inspect := by
  rw [State.inspect_eq]
  simp [SameOutside]

@[simp] theorem State.setCalendar_sameOutside (s : State) (day minute second : Nat) :
    SameOutside s (s.setCalendar day minute second) := by
  simp [State.setCalendar, SameOutside]

@[simp] theorem State.afterSwitch_sameOutside (s : State) : SameOutside s s.afterSwitch := by
  simp [State.afterSwitch, SameOutside]

@[simp] theorem State.afterDebit_sameOutside (s : State) (lane : Lane) (hold : Hold) (serial day : Nat) :
    SameOutside s (s.afterDebit lane hold serial day) := by
  unfold State.afterDebit
  dsimp only
  split <;> simp [SameOutside]

@[simp] theorem State.afterSettle_sameOutside (s : State) (lane : Lane) (result : PrintResult) (expired : Bool) :
    SameOutside s (s.afterSettle lane result expired) := by
  unfold State.afterSettle
  split
  · simp [SameOutside]
  · dsimp only
    split <;> split <;> simp [SameOutside]

@[simp] theorem State.parkLane_sameOutside (s : State) (lane : Lane) : SameOutside s (s.parkLane lane) := by
  unfold State.parkLane
  dsimp only
  split
  · simp [SameOutside]
  · split <;> simp [SameOutside]

@[simp] theorem State.abandonRating_sameOutside (s : State) : SameOutside s s.abandonRating := by
  simp [State.abandonRating, SameOutside]

@[simp] theorem State.afterPark_sameOutside (s : State) : SameOutside s s.afterPark := by
  simp [State.afterPark, SameOutside]

@[simp] theorem State.afterSetAlert_sameOutside (s : State) (before : Nat) : SameOutside s (s.afterSetAlert before) := by
  unfold State.afterSetAlert
  dsimp only
  split <;> simp [SameOutside]

@[simp] theorem State.afterCommit_sameOutside (s : State) (active : Bool) : SameOutside s (s.afterCommit active) := by
  cases active <;> simp [State.afterCommit, SameOutside]

/-- The rest of an update that is not START's leaves what waits to wait. -/
theorem State.after_sameOutside (s : State) {work : Work} (other : work.ofStart = false) :
    SameOutside s (s.after work) := by
  cases work with
  | claim removed => cases removed <;> simp [State.after, SameOutside]
  | startClear => cases other
  | startConversion stop => cases other
  | startSwitch => cases other
  | _ => simp [State.after, SameOutside]

/-! ### The commands -/

@[simp] theorem State.answerWith_sameOutside (s : State) (status : Status) : SameOutside s (s.answerWith status).state := by
  simp [State.answerWith, SameOutside]

theorem setDatePlan_sameOutside (day minute second : Nat) (s : State) :
    SameOutside s (setDatePlan day minute second s).state := by
  rcases setDatePlan_cases day minute second s with h | h | h <;> simp [h, SameOutside]

theorem configureLanePlan_sameOutside (x : LaneArguments) (s : State) :
    SameOutside s (configureLanePlan x s).state := by
  unfold configureLanePlan
  split
  · simp [SameOutside]
  · split
    · simp [SameOutside]
    · split <;> simp [SameOutside]

theorem installLicencePlan_sameOutside (x : LicenceArguments) (s : State) :
    SameOutside s (installLicencePlan x s).state := by
  unfold installLicencePlan
  split <;> simp [SameOutside]

theorem loadRatesPlan_sameOutside (s : State) :
    SameOutside s (loadRatesPlan s).state := by
  unfold loadRatesPlan
  split <;> simp [SameOutside]

theorem applyVoucherPlan_sameOutside (x : VoucherArguments) (s : State) :
    SameOutside s (applyVoucherPlan x s).state := by
  unfold applyVoucherPlan
  split
  · simp [SameOutside]
  · split
    · simp [SameOutside]
    · split <;> simp [SameOutside]

theorem setAccountPlan_sameOutside (account state : Byte) (s : State) :
    SameOutside s (setAccountPlan account state s).state := by
  unfold setAccountPlan
  split <;> simp [SameOutside]

theorem setFundsAlertPlan_sameOutside (threshold : Nat) (s : State) :
    SameOutside s (setFundsAlertPlan threshold s).state := by
  unfold setFundsAlertPlan
  split <;> simp [SameOutside]

theorem openBatchPlan_sameOutside (lane : Byte) (id : Nat) (s : State) :
    SameOutside s (openBatchPlan lane id s).state := by
  unfold openBatchPlan
  split
  · simp [SameOutside]
  · split <;> simp [SameOutside]

theorem closeBatchPlan_sameOutside (lane : Byte) (s : State) :
    SameOutside s (closeBatchPlan lane s).state := by
  unfold closeBatchPlan
  split
  · simp [SameOutside]
  · split <;> simp [SameOutside]

theorem resumeLanePlan_sameOutside (lane : Byte) (s : State) :
    SameOutside s (resumeLanePlan lane s).state := by
  unfold resumeLanePlan
  split
  · simp [SameOutside]
  · split <;> simp [SameOutside]

theorem setPostdatePlan_sameOutside (offset : Nat) (s : State) :
    SameOutside s (setPostdatePlan offset s).state := by
  unfold setPostdatePlan
  split <;> simp [SameOutside]

theorem closeSetupPlan_sameOutside (s : State) : SameOutside s (closeSetupPlan s).state := by
  simp [closeSetupPlan, SameOutside]

theorem reportFundsPlan_sameOutside (s : State) : SameOutside s (reportFundsPlan s).state := by
  simp [reportFundsPlan, SameOutside]

theorem readAccountsPlan_sameOutside (s : State) : SameOutside s (readAccountsPlan s).state := by
  simp [readAccountsPlan, SameOutside]

theorem closePeriodPlan_sameOutside (s : State) : SameOutside s (closePeriodPlan s).state := by
  simp [closePeriodPlan, SameOutside]

theorem claimSpoiledPlan_sameOutside (limit : Nat) (s : State) : SameOutside s (claimSpoiledPlan limit s).state := by
  simp [claimSpoiledPlan, claimPlan, SameOutside]

theorem parkPlan_sameOutside (s : State) : SameOutside s (parkPlan s).state := by
  unfold parkPlan
  split
  · simp [SameOutside]
  · simp [SameOutside]
  · split <;> simp [SameOutside]

theorem commandWork_sameOutside (i : Instr) (s : State) : SameOutside s (commandWork i s).state := by
  cases i with
  | setDate day minute second pace => exact setDatePlan_sameOutside _ _ _ s
  | configureLane x => exact configureLanePlan_sameOutside x s
  | installLicence x pace => exact installLicencePlan_sameOutside x s
  | loadRates => exact loadRatesPlan_sameOutside s
  | applyVoucher x pace => exact applyVoucherPlan_sameOutside x s
  | setAccount account state pace => exact setAccountPlan_sameOutside account state s
  | setFundsAlert threshold pace => exact setFundsAlertPlan_sameOutside _ s
  | openBatch lane id => exact openBatchPlan_sameOutside lane _ s
  | closeBatch lane => exact closeBatchPlan_sameOutside lane s
  | resumeLane lane => exact resumeLanePlan_sameOutside lane s
  | setPostdate offset => exact setPostdatePlan_sameOutside _ s
  | park pace => exact parkPlan_sameOutside s
  | unknownCommand code => exact s.answerWith_sameOutside _
  | closeSetup => exact closeSetupPlan_sameOutside s
  | reportFunds => exact reportFundsPlan_sameOutside s
  | readAccounts => exact readAccountsPlan_sameOutside s
  | closePeriod pace => exact closePeriodPlan_sameOutside s
  | claimSpoiled limit pace => exact claimSpoiledPlan_sameOutside _ s
  | _ => exact SameOutside.refl s

theorem commandPlan_sameOutside (i : Instr) (s : State) : SameOutside s (commandPlan i s).state := by
  unfold commandPlan
  split
  · exact commandWork_sameOutside i s
  · simp [SameOutside]

theorem loadRatesCompletionPlan_sameOutside (s : State) : SameOutside s (loadRatesCompletionPlan s).state := by
  unfold loadRatesCompletionPlan
  split
  · simp [SameOutside]
  · split
    · simp [SameOutside]
    · split <;> simp [SameOutside]

/-! ### All events that the store may hold -/

theorem eventPlan_sameOutside (i : Instr) (s : State) : SameOutside s (eventPlan i s).state := by
  cases i with
  | entry lane edge =>
    exact s.sensorPlan_sameOutside lane _ edge (fun s => .done (s.enter lane)) (by simp [SameOutside])
  | rate lane edge =>
    exact s.sensorPlan_sameOutside lane _ edge (fun s => .done (s.ratePhotocell lane)) (by simp [SameOutside])
  | print lane edge pace =>
    exact s.sensorPlan_sameOutside lane _ edge (fun s => s.printPhotocell lane) (s.printPhotocell_sameOutside lane)
  | exit lane edge =>
    exact s.sensorPlan_sameOutside lane _ edge (fun s => .done (s.exitPhotocell lane)) (by simp [SameOutside])
  | frameSent lane => exact s.linkPlan_sameOutside lane (fun s => .done (s.frameSent lane)) (s.frameSent_sameOutside lane)
  | answerReady lane =>
    exact s.linkPlan_sameOutside lane (fun s => .done (s.answerReady lane)) (s.answerReady_sameOutside lane)
  | answer lane frame pace =>
    exact s.linkPlan_sameOutside lane (fun s => s.answerPlan lane frame) (s.answerPlan_sameOutside lane frame)
  | answerTimerExpiry lane pace =>
    exact s.linkPlan_sameOutside lane (fun s => s.expiryPlan lane) (s.expiryPlan_sameOutside lane)
  | encoderCount lane => simp [eventPlan, SameOutside]
  | run lane value => simp [eventPlan, SameOutside]
  | loadRatesCompletion pace => exact loadRatesCompletionPlan_sameOutside s
  | take => exact s.take_sameOutside
  | ratingCompletion => exact s.ratingCompletion_sameOutside
  | holdRequest => exact s.takeRequest_sameOutside
  | _ => exact commandPlan_sameOutside _ s

/-- A plan asks for none of START's updates. -/
def Plan.NotOfStart : Plan → Prop
  | .done _ => True
  | .update work _ _ => work.ofStart = false

theorem State.settlePlan_notOfStart (s : State) (lane : Lane) (result : PrintResult) (expired : Bool) :
    (s.settlePlan lane result expired).NotOfStart := by
  unfold State.settlePlan
  split <;> trivial

theorem State.answerPlan_notOfStart (s : State) (lane : Lane) (frame : BitVec 48) : (s.answerPlan lane frame).NotOfStart := by
  unfold State.answerPlan
  dsimp only
  split
  · split
    · trivial
    · split
      · trivial
      · split
        · exact s.settlePlan_notOfStart ..
        · split
          · exact State.settlePlan_notOfStart ..
          · trivial
  · trivial

theorem State.expiryPlan_notOfStart (s : State) (lane : Lane) : (s.expiryPlan lane).NotOfStart := by
  unfold State.expiryPlan
  dsimp only
  split
  · trivial
  · split
    · exact s.settlePlan_notOfStart ..
    · trivial
    · trivial

theorem State.printPhotocell_notOfStart (s : State) (lane : Lane) : (s.printPhotocell lane).NotOfStart := by
  unfold State.printPhotocell
  split
  · trivial
  · split
    · unfold State.dispatchPlan
      split
      · trivial
      · split <;> trivial
    all_goals trivial

theorem State.sensorPlan_notOfStart (s : State) (lane : Lane) (photocell : Position) (edge : Edge) (tracked : State → Plan)
    (h : (tracked s).NotOfStart) : (s.sensorPlan lane photocell edge tracked).NotOfStart := by
  unfold State.sensorPlan
  dsimp only
  split
  · trivial
  · split
    · exact h
    · trivial

theorem State.linkPlan_notOfStart (s : State) (lane : Lane) (plan : State → Plan) (h : (plan s).NotOfStart) :
    (s.linkPlan lane plan).NotOfStart := by
  unfold State.linkPlan
  split
  · exact h
  · trivial

theorem commandWork_notOfStart (i : Instr) (s : State) : (commandWork i s).NotOfStart := by
  cases i with
  | setDate day minute second pace =>
    show (setDatePlan day.toNat minute.toNat second.toNat s).NotOfStart
    rcases setDatePlan_cases day.toNat minute.toNat second.toNat s with h | h | h <;> rw [h] <;> trivial
  | configureLane x =>
    show (configureLanePlan x s).NotOfStart
    unfold configureLanePlan
    split
    · trivial
    · split
      · trivial
      · split <;> trivial
  | installLicence x pace =>
    show (installLicencePlan x s).NotOfStart
    unfold installLicencePlan
    split <;> trivial
  | loadRates =>
    show (loadRatesPlan s).NotOfStart
    unfold loadRatesPlan
    split <;> trivial
  | applyVoucher x pace =>
    show (applyVoucherPlan x s).NotOfStart
    unfold applyVoucherPlan
    split
    · trivial
    · split
      · trivial
      · split <;> trivial
  | setAccount account state pace =>
    show (setAccountPlan account state s).NotOfStart
    unfold setAccountPlan
    split <;> trivial
  | setFundsAlert threshold pace =>
    show (setFundsAlertPlan threshold.toNat s).NotOfStart
    unfold setFundsAlertPlan
    split <;> trivial
  | openBatch lane id =>
    show (openBatchPlan lane id.toNat s).NotOfStart
    unfold openBatchPlan
    split
    · trivial
    · split <;> trivial
  | closeBatch lane =>
    show (closeBatchPlan lane s).NotOfStart
    unfold closeBatchPlan
    split
    · trivial
    · split <;> trivial
  | resumeLane lane =>
    show (resumeLanePlan lane s).NotOfStart
    unfold resumeLanePlan
    split
    · trivial
    · split <;> trivial
  | setPostdate offset =>
    show (setPostdatePlan offset.toNat s).NotOfStart
    unfold setPostdatePlan
    split <;> trivial
  | park pace =>
    show (parkPlan s).NotOfStart
    unfold parkPlan
    split
    · trivial
    · trivial
    · split <;> trivial
  | _ => trivial

theorem commandPlan_notOfStart (i : Instr) (s : State) : (commandPlan i s).NotOfStart := by
  unfold commandPlan
  split
  · exact commandWork_notOfStart i s
  · trivial

theorem loadRatesCompletionPlan_notOfStart (s : State) : (loadRatesCompletionPlan s).NotOfStart := by
  unfold loadRatesCompletionPlan
  split
  · trivial
  · split
    · trivial
    · split <;> trivial

theorem eventPlan_notOfStart (i : Instr) (s : State) : (eventPlan i s).NotOfStart := by
  cases i with
  | entry lane edge => exact s.sensorPlan_notOfStart lane _ edge (fun s => .done (s.enter lane)) trivial
  | rate lane edge => exact s.sensorPlan_notOfStart lane _ edge (fun s => .done (s.ratePhotocell lane)) trivial
  | print lane edge pace =>
    exact s.sensorPlan_notOfStart lane _ edge (fun s => s.printPhotocell lane) (s.printPhotocell_notOfStart lane)
  | exit lane edge => exact s.sensorPlan_notOfStart lane _ edge (fun s => .done (s.exitPhotocell lane)) trivial
  | frameSent lane => exact s.linkPlan_notOfStart lane (fun s => .done (s.frameSent lane)) trivial
  | answerReady lane => exact s.linkPlan_notOfStart lane (fun s => .done (s.answerReady lane)) trivial
  | answer lane frame pace =>
    exact s.linkPlan_notOfStart lane (fun s => s.answerPlan lane frame) (s.answerPlan_notOfStart lane frame)
  | answerTimerExpiry lane pace =>
    exact s.linkPlan_notOfStart lane (fun s => s.expiryPlan lane) (s.expiryPlan_notOfStart lane)
  | loadRatesCompletion pace => exact loadRatesCompletionPlan_notOfStart s
  | encoderCount lane => trivial
  | run lane value => trivial
  | take => trivial
  | ratingCompletion => trivial
  | holdRequest => trivial
  | _ => exact commandPlan_notOfStart _ s

theorem State.switchPlan_sameOutside (s : State) : SameOutside s s.switchPlan.state := by
  unfold State.switchPlan
  split <;> simp [SameOutside]

theorem State.switchPlan_notOfStart (s : State) : s.switchPlan.NotOfStart := by
  unfold State.switchPlan
  split <;> trivial

/-- A held event as a plan. -/
def HeldEvent.plan : HeldEvent → State → Plan
  | .event i, s => eventPlan i s
  | .switchCheck, s => s.switchPlan

theorem HeldEvent.plan_sameOutside (e : HeldEvent) (s : State) : SameOutside s (e.plan s).state := by
  cases e with
  | event i => exact eventPlan_sameOutside i s
  | switchCheck => exact s.switchPlan_sameOutside

theorem HeldEvent.plan_notOfStart (e : HeldEvent) (s : State) : (e.plan s).NotOfStart := by
  cases e with
  | event i => exact eventPlan_notOfStart i s
  | switchCheck => exact s.switchPlan_notOfStart

theorem State.takeHeld_eq (s : State) (e : HeldEvent) : s.takeHeld e = (e.plan s).carryOut .made := by
  cases e <;> rfl

/-- A plan made at once on a part at rest leaves the store at rest and everything that waits as it was. -/
theorem Plan.carryOut_made_sameOutside {plan : Plan} {s : State} (same : SameOutside s plan.state) (other : plan.NotOfStart)
    (idle : s.inStore = none) : SameOutside s (plan.carryOut .made) := by
  cases plan with
  | done t => exact same
  | update work values t =>
    refine SameOutside.trans ?_ (State.after_sameOutside (t.makeUpdate work values) other)
    simp only [SameOutside, Plan.state_update, idle] at same ⊢
    simp [same]

theorem State.takeHeld_sameOutside {s : State} (idle : s.inStore = none) (e : HeldEvent) : SameOutside s (s.takeHeld e) := by
  rw [State.takeHeld_eq]
  exact Plan.carryOut_made_sameOutside (e.plan_sameOutside s) (e.plan_notOfStart s) idle

theorem SameOutside.inStore {s t : State} (same : SameOutside s t) : t.inStore = s.inStore := by
  simp only [SameOutside] at same
  simp [same]

theorem State.takeAllHeld_sameOutside {s : State} (idle : s.inStore = none) (es : List HeldEvent) :
    SameOutside s (s.takeAllHeld es) := by
  induction es generalizing s with
  | nil => exact .refl s
  | cons e es ih =>
    have first := State.takeHeld_sameOutside idle e
    exact first.trans (ih (first.inStore.trans idle))

end Sys2Proof.Machine
end

section
/-! SUPPORT. What a step does, one event at a time: its effect before the rewrite of the status block, and the rule by which
a property that every part of an effect keeps is kept by the whole of it. -/

namespace Sys2Proof.Machine

/-! ### The effect of an event -/

/-- The events that act with the main supply off as well (log entry 22). -/
def actsUnpowered : Instr → Bool
  | .powerOnReset .. => true
  | .supplyLoss => true
  | .batteryLoss => true
  | .powerWarnAssert => true
  | .powerWarnDeassert => true
  | .calendarSecond _ => true
  | .minuteBoundary _ => true
  | _ => false

/-- What a command or event makes of a state, before the status block is rewritten. -/
def effect : Instr → State → State
  | .powerOnReset lanes order, s => s.powerOn lanes order
  | .lineReset lanes order, s => s.lineReset lanes order
  | .supplyLoss, s => s.supplyLoss
  | .batteryLoss, s => s.batteryLoss
  | .start pace, s => s.startSteps pace
  | .slotStateWrite lane slot code other, s => s.slotStateWrite lane slot.toNat code other
  | .exchangeMemoryWrite address value strobes, s => s.busWrite address value strobes
  | .causeWrite value strobes, s => s.causeWrite value strobes
  | .maskWrite value strobes, s => s.maskWrite value strobes
  | .groupWrite value strobes, s => s.groupWrite value strobes
  | .registerWriteIgnored .., s => s
  | .loadRatesCompletion pace, s => s.loadRatesCompletion pace
  | .updateRecordEmpty, s => s.updateRecordEmpty
  | .powerWarnAssert, s => s.powerWarnAssert
  | .powerWarnDeassert, s => s.powerWarnDeassert
  | .calendarSecond pace, s => s.calendarSecond pace
  | .minuteBoundary pace, s => s.minuteBoundary pace
  | i, s => if needsNoPost i then s.occur i else s.issue i

/-- Every command and event is its effect with the status block rewritten; without the main supply most have none. -/
theorem exec_eq_effect (i : Instr) (s : State) :
    exec i s = if s.supply || actsUnpowered i then .next (effect i s).flush else .next s := by
  cases i <;> simp only [actsUnpowered, Bool.or_false, Bool.or_true, if_true] <;> rfl

theorem exec_effect {i : Instr} {s : State} (supply : s.supply = true) : exec i s = .next (effect i s).flush := by
  simp [exec_eq_effect, supply]

/-- A command of the command block is laid there and posted. -/
theorem effect_command {i : Instr} {s : State} (command : (commandCode i).isSome = true) : effect i s = s.issue i := by
  cases i <;> first | rfl | cases command

/-! ### Properties that every part of an effect keeps -/

/-- A plan keeps a property: the state it comes to has it, or the whole update it asks for, in its steps. -/
def Plan.Keeps (P : State → Prop) : Plan → Prop
  | .done s => P s
  | .update work values s => ∀ phase, P (s.beginUpdate work values phase)

/-- A property that the parts of every effect keep: the changes that no unit makes (the queue, the notices, the command
record, what waits), the writes of the line controller and of the command block, the plans of the events that may be taken
(R133), the completion of an update, the resets, START's steps, the supply, the battery and the calendar. -/
structure Kept (P : State → Prop) : Prop where
  pending : ∀ {s} rest, P s → P { s with pending := rest }
  notices : ∀ {s} n, P s → P { s with notices := n }
  command : ∀ {s} c, P s → P { s with command := c }
  waiting : ∀ {s} held heldReset unbegun, P s → P { s with held := held, heldReset := heldReset, unbegun := unbegun }
  loading : ∀ {s} load count, P s → P { s with load := load, freeCount := count }
  powerWarn : ∀ {s} level, P s → P { s with powerWarn := level }
  fields : ∀ {s} fs, (∀ f ∈ fs, 0x0100 ≤ f.address) → P s → P (s.writeFields fs)
  byte : ∀ {s} a value, 0x0100 ≤ a → P s → P (s.writeByte a value)
  refuseSlotWrite : ∀ {s} lane, P s → P (s.refuseSlotWrite lane)
  plan : ∀ {s} (e : HeldEvent), P s → s.mustWait e (e.plan s).asks = false → (e.plan s).Keeps P
  claim : ∀ {s} claimed, P s → s.inStore = none → (claimPlan claimed s).Keeps P
  completes : ∀ {s} work phase values, P s → s.inStore = some work → s.store.record = .inSteps phase values →
    P ((s.place values).after work)
  reset : ∀ {s} cause, P s → P (s.resetEvent cause)
  straps : ∀ {s} lanes order, P s → P (s.lineResetNow lanes order)
  powerOn : ∀ {s} lanes order, P s → P (s.powerOn lanes order)
  start : ∀ {s} pace, P s → P (s.startSteps pace)
  supplyLoss : ∀ {s}, P s → P s.supplyLoss
  batteryLoss : ∀ {s}, P s → P s.batteryLoss
  second : ∀ {s} second, P s → P { s with calendar := { s.calendar with second := second, cycles := 0 } }
  quietBoundary : ∀ {s}, P s → ¬ (s.supply ∧ s.part ≠ .start) → P { s with calendar := s.calendar.nextMinute }
  boundary : ∀ {s}, P s → P ({ s with calendar := s.calendar.nextMinute }.touchCalendar.inspect)

/-! ### Where the command block and the spoiled report lie (11.5, 11.8) -/

theorem LaidOut.mono {low high higher : Nat} {fs : List Field} (h : LaidOut low high fs) (le : high ≤ higher) :
    LaidOut low higher fs := by
  have appended : LaidOut low higher (fs ++ []) := h.append le
  simpa using appended

/-- The argument fields of a command follow one another in the argument area (11.5). -/
theorem laidOut_argumentFields (i : Instr) : LaidOut argumentAddress (argumentAddress + 24) (argumentFields i) := by
  cases i <;> simp [argumentFields, argumentField, LaidOut]

theorem laidOut_spoiledEntryFields (base : Nat) (entries : List SpoiledEntry) :
    LaidOut base (base + 12 * entries.length) (spoiledEntryFields base entries) := by
  induction entries generalizing base with
  | nil => exact le_rfl
  | cons x xs ih =>
    have rest := ih (base + 12)
    rw [show base + 12 + 12 * xs.length = base + 12 * (x :: xs).length by simp; omega] at rest
    exact ⟨le_rfl, le_rfl, le_rfl, le_rfl, le_rfl, rest⟩

/-- Every entry of the list has its place in the report (R160). -/
theorem laidOut_spoiledReport (s : State) (limit : Nat) :
    LaidOut spoiledReportAddress
      (spoiledReportAddress + 12 + 12 * (s.items.spoiled.filter (fun x => decide (x.serial ≤ limit))
        ++ s.items.spoiled.filter (fun x => decide (limit < x.serial))).length) (spoiledReport s limit) :=
  LaidOut.append (mid := spoiledReportAddress + 12) ⟨le_rfl, le_rfl, le_rfl, le_rfl, le_rfl, le_rfl, le_rfl, le_rfl⟩
    (laidOut_spoiledEntryFields _ _)

/-- A term that is no command comes to nothing there (R181). -/
theorem commandPlan_eq_or (i : Instr) (s : State) : commandPlan i s = eventPlan i s ∨ commandPlan i s = .done s := by
  cases i <;> first | exact .inl rfl | exact .inr rfl

section
variable {P : State → Prop} (kept : Kept P) {s : State}
include kept

theorem Kept.raise (c : Cause) (h : P s) : P (s.raise c) := kept.notices _ h

theorem Kept.writeStatus (status : Status) (h : P s) : P (s.writeStatus status) :=
  kept.fields _ (by simp [statusAddress]) h

theorem Kept.complete (status : Status) (h : P s) : P (s.complete status) :=
  kept.raise _ (kept.command none (kept.writeStatus status h))

theorem Kept.layCommand (i : Instr) (h : P s) : P (s.layCommand i) := by
  unfold State.layCommand
  split
  · refine kept.fields _ (fun f hf => ?_) h
    rcases List.mem_cons.mp hf with rfl | hf
    · simp [commandCodeAddress]
    · exact le_trans (by simp [argumentAddress]) ((laidOut_argumentFields i).within hf).1
  · exact h

/-! ### Plans carried out -/

theorem Kept.carryOut {plan : Plan} (h : plan.Keeps P) (pace : Pace) : P (plan.carryOut pace) := by
  cases plan with
  | done t => exact h
  | update work values t =>
    cases pace with
    | made => exact kept.completes (s := t.beginUpdate work values .filling) work .filling _ (h .filling) rfl rfl
    | inSteps phase => exact h phase

theorem Kept.hold (e : HeldEvent) (h : P s) : P (s.hold e) := kept.waiting _ s.heldReset s.unbegun h

theorem Kept.takeEvent (e : HeldEvent) (pace : Pace) (h : P s) : P (s.takeEvent e pace e.plan) := by
  unfold State.takeEvent
  split
  · exact kept.hold e h
  · exact kept.carryOut (kept.plan e h (by simp_all)) pace

theorem Kept.occur (i : Instr) (h : P s) : P (s.occur i) := kept.takeEvent (.event i) (paceOf i) h

theorem Kept.takeHeld (e : HeldEvent) (h : P s) (idle : s.inStore = none) : P (s.takeHeld e) := by
  rw [State.takeHeld_eq]
  exact kept.carryOut (kept.plan e h (State.mustWait_idle idle _ _)) .made

theorem Kept.takeAllHeld (es : List HeldEvent) (h : P s) (idle : s.inStore = none) : P (s.takeAllHeld es) := by
  induction es generalizing s with
  | nil => exact h
  | cons e es ih => exact ih (kept.takeHeld e h idle) ((State.takeHeld_sameOutside idle e).inStore.trans idle)

/-! ### The command block -/

theorem Kept.commandPlan (i : Instr) (h : P s) (may : s.mustWait (.event i) (commandPlan i s).asks = false) :
    (commandPlan i s).Keeps P := by
  rcases commandPlan_eq_or i s with same | nothing
  · rw [same] at may ⊢
    exact kept.plan (.event i) h may
  · rw [nothing]
    exact h

theorem Kept.takeWithoutUpdate (i : Instr) (h : P s) : P (s.takeWithoutUpdate i) := by
  unfold State.takeWithoutUpdate
  split
  · exact kept.waiting (s := s.writeFields _) s.held s.heldReset _ (kept.fields _ (fun f hf => le_trans (by decide) ((laidOut_spoiledReport s _).within hf).1) h)
  · exact kept.waiting s.held s.heldReset _ h

theorem Kept.takeUp (i : Instr) (h : P s) : P (s.takeUp i) := by
  unfold State.takeUp
  dsimp only
  split
  · exact kept.takeWithoutUpdate i h
  · unfold State.takeEvent
    split
    · exact kept.hold _ h
    · exact kept.carryOut (kept.commandPlan i h (by simp_all)) _

theorem Kept.takeCommand (i : Instr) (h : P s) : P (s.takeCommand i) := by
  have taken : P ({ s with command := some i }.writeStatus .inProgress) := kept.writeStatus _ (kept.command _ h)
  unfold State.takeCommand
  dsimp only
  split
  · exact kept.complete _ taken
  · exact kept.takeUp i taken

theorem Kept.restartNow (h : P s) : P s.restartNow := by
  refine kept.reset _ ?_
  unfold State.abortCommand
  split
  · exact h
  · exact h
  · exact kept.writeStatus _ h

theorem Kept.restart (h : P s) : P s.restart := by
  unfold State.restart
  split
  · exact kept.command _ (kept.waiting s.held (some (s.heldReset.getD .restart)) s.unbegun h)
  · exact kept.restartNow h

theorem Kept.post (i : Instr) (h : P s) : P (s.post i) := by
  unfold State.post
  split
  · unfold State.postRestart
    split
    · exact kept.complete _ (kept.writeStatus _ (kept.command _ h))
    · exact kept.restart h
  · split
    · exact kept.raise _ h
    · exact kept.takeCommand i h

theorem Kept.issue (i : Instr) (h : P s) : P (s.issue i) := kept.post i (kept.layCommand i h)

theorem Kept.beginUnbegun (h : P s) (idle : s.inStore = none) : P s.beginUnbegun := by
  have begun : P { s with unbegun := none } := kept.waiting s.held s.heldReset none h
  unfold State.beginUnbegun
  split
  · exact kept.carryOut (kept.claim _ begun idle) _
  · exact kept.carryOut (kept.commandPlan _ begun (State.mustWait_idle idle _ _)) _
  · exact h

/-! ### Updates, loads and resets -/

theorem Kept.takeHeldReset (h : P s) : P s.takeHeldReset := by
  unfold State.takeHeldReset
  split
  · exact h
  · exact kept.straps _ _ h
  · exact kept.restartNow h

theorem Kept.updateRecordEmpty (h : P s) : P s.updateRecordEmpty := by
  unfold State.updateRecordEmpty
  split
  case h_1 work phase values busy steps =>
    have completed := kept.completes work phase values h busy steps
    dsimp only
    split
    case isTrue => exact completed
    case isFalse rest =>
      refine kept.takeHeldReset (kept.takeAllHeld _ (kept.waiting [] _ _ completed) ?_)
      simpa [State.busy] using rest
  case h_2 => exact h
  case h_3 idle => exact kept.beginUnbegun h idle

theorem Kept.loadRatesCompletion (pace : Pace) (h : P s) : P (s.loadRatesCompletion pace) := by
  have read : P s.readImage := by
    unfold State.readImage
    split
    · exact h
    · exact kept.loading _ s.freeCount h
  unfold State.loadRatesCompletion
  dsimp only
  split
  · exact read
  · exact kept.occur _ read

theorem Kept.lineReset (lanes : LaneCount) (order : BusOrder) (h : P s) : P (s.lineReset lanes order) := by
  unfold State.lineReset
  split
  · exact kept.waiting s.held _ s.unbegun h
  · exact kept.straps lanes order h

/-! ### The line controller's writes -/

theorem Kept.transitionRequest (lane : Lane) (index : Nat) (code : Byte) (h : P s) : P (s.transitionRequest lane index code) := by
  unfold State.transitionRequest
  split
  · exact kept.byte _ _ (by have := slotAddress_ge lane index; omega) h
  · exact kept.refuseSlotWrite lane h

theorem Kept.slotStateWrite (lane : Lane) (index : Nat) (code : Byte) (other : Option Byte) (h : P s) :
    P (s.slotStateWrite lane index code other) := by
  rw [State.slotStateWrite_eq]
  cases other with
  | none => exact kept.transitionRequest lane index code h
  | some value =>
    exact kept.byte _ _ (by have := slotAddress_ge lane index; omega) (kept.transitionRequest lane index code h)

theorem Kept.hostByte (a : Nat) (value : Byte) (writes : 0x0100 ≤ a ∨ ∀ s a value, P s → P (s.writeByte a value)) (h : P s) :
    P (s.hostByte a value) := by
  unfold State.hostByte
  split
  · exact kept.transitionRequest _ _ _ h
  · rcases writes with above | anywhere
    · exact kept.byte _ _ above h
    · exact anywhere _ _ _ h

theorem Kept.advanceLoad (h : P s) : P s.advanceLoad := by
  unfold State.advanceLoad
  split
  · exact h
  · exact kept.loading _ _ h

theorem Kept.hostWord (a : Nat) (value : Half) (strobes : Strobes)
    (writes : 0x0100 ≤ a ∨ ∀ s a value, P s → P (s.writeByte a value)) (h : P s) : P (s.hostWord a value strobes) := by
  have low : ∀ s : State, 0x0100 ≤ s.lowByteAddress a ∨ ∀ s a value, P s → P (s.writeByte a value) := fun s =>
    writes.imp_left fun above => by unfold State.lowByteAddress; split <;> omega
  have high : ∀ s : State, 0x0100 ≤ s.highByteAddress a ∨ ∀ s a value, P s → P (s.writeByte a value) := fun s =>
    writes.imp_left fun above => by unfold State.highByteAddress; split <;> omega
  have loaded : P (if stagingAddress ≤ a then s.advanceLoad else s) := by
    split
    · exact kept.advanceLoad h
    · exact h
  unfold State.hostWord
  extract_lets s₁ s₂
  have lowWritten : P s₂ := by
    dsimp only [s₂]
    split
    · exact kept.hostByte _ _ (low _) loaded
    · exact loaded
  split
  · exact kept.hostByte _ _ (high _) lowWritten
  · exact lowWritten

theorem Kept.runEvent (lane : Lane) (value : Bool) (h : P s) : P (s.runEvent lane value) := kept.occur (.run lane value) h

theorem Kept.controlWrite (value : Half) (strobes : Strobes) (h : P s) : P (s.controlWrite value strobes) := by
  have run : P (if strobes.high then (s.runEvent .a (value.getLsbD 8)).runEvent .b (value.getLsbD 9) else s) := by
    split
    · exact kept.runEvent _ _ (kept.runEvent _ _ h)
    · exact h
  unfold State.controlWrite
  extract_lets t
  split
  · exact kept.post _ run
  · exact run

theorem Kept.busWrite (address value : Half) (strobes : Strobes)
    (writes : 0x0100 ≤ address.toNat ∨ ∀ s a value, P s → P (s.writeByte a value)) (h : P s) :
    P (s.busWrite address value strobes) := by
  unfold State.busWrite
  dsimp only
  split
  · unfold State.registerWrite
    split
    · exact kept.controlWrite value strobes h
    · exact kept.notices _ h
    · exact kept.notices _ h
    · exact kept.notices _ h
    · exact h
  · exact kept.hostWord _ value strobes (writes.imp_left (by omega)) h

/-! ### The calendar -/

theorem Kept.minuteBoundary (pace : Pace) (h : P s) : P (s.minuteBoundary pace) := by
  unfold State.minuteBoundary
  split
  · dsimp only
    split
    · exact kept.takeEvent .switchCheck pace (kept.boundary h)
    case isFalse quiet => exact kept.quietBoundary h quiet
  · exact h

theorem Kept.calendarSecond (pace : Pace) (h : P s) : P (s.calendarSecond pace) := by
  unfold State.calendarSecond
  split
  · split
    · exact kept.second _ h
    · exact kept.minuteBoundary pace h
  · exact h

/-! ### Every effect -/

theorem Kept.powerWarnAssert (h : P s) : P s.powerWarnAssert := by
  unfold State.powerWarnAssert
  split
  · exact h
  · split
    · exact kept.raise _ (kept.powerWarn true h)
    · exact kept.powerWarn true h

/-- An effect keeps the property, unless it is a bus write whose bytes the property does not allow. -/
theorem Kept.effect (i : Instr)
    (writes : ∀ address value strobes, i = .exchangeMemoryWrite address value strobes →
      0x0100 ≤ address.toNat ∨ ∀ s a value, P s → P (s.writeByte a value)) (h : P s) : P (effect i s) := by
  cases i with
  | powerOnReset lanes order => exact kept.powerOn lanes order h
  | lineReset lanes order => exact kept.lineReset lanes order h
  | supplyLoss => exact kept.supplyLoss h
  | batteryLoss => exact kept.batteryLoss h
  | start pace => exact kept.start pace h
  | slotStateWrite lane slot code other => exact kept.slotStateWrite lane _ code other h
  | exchangeMemoryWrite address value strobes => exact kept.busWrite address value strobes (writes _ _ _ rfl) h
  | causeWrite value strobes => exact kept.notices _ h
  | maskWrite value strobes => exact kept.notices _ h
  | groupWrite value strobes => exact kept.notices _ h
  | registerWriteIgnored register value strobes => exact h
  | loadRatesCompletion pace => exact kept.loadRatesCompletion pace h
  | updateRecordEmpty => exact kept.updateRecordEmpty h
  | powerWarnAssert => exact kept.powerWarnAssert h
  | powerWarnDeassert => exact kept.powerWarn false h
  | calendarSecond pace => exact kept.calendarSecond pace h
  | minuteBoundary pace => exact kept.minuteBoundary pace h
  | entry lane edge => exact kept.occur _ h
  | rate lane edge => exact kept.occur _ h
  | print lane edge pace => exact kept.occur _ h
  | exit lane edge => exact kept.occur _ h
  | encoderCount lane => exact kept.occur _ h
  | run lane value => exact kept.occur _ h
  | take => exact kept.occur _ h
  | ratingCompletion => exact kept.occur _ h
  | holdRequest => exact kept.occur _ h
  | frameSent lane => exact kept.occur _ h
  | answerReady lane => exact kept.occur _ h
  | answer lane frame pace => exact kept.occur _ h
  | answerTimerExpiry lane pace => exact kept.occur _ h
  | _ =>
    rw [effect_command rfl]
    exact kept.issue _ h

end

/-- A step keeps what every part of an effect keeps, when the rewrite of the status block takes it to what is claimed. -/
theorem Kept.step {P Q : State → Prop} (kept : Kept P) (weaker : ∀ s, Q s → P s) (flush : ∀ s, P s → Q s.flush)
    (pending : ∀ s rest, Q s → Q { s with pending := rest })
    {s t : State} (writes : ∀ address value strobes rest, s.pending = .exchangeMemoryWrite address value strobes :: rest →
      0x0100 ≤ address.toNat ∨ ∀ s a value, P s → P (s.writeByte a value))
    (h : Q s) (steps : step s = .next t) : Q t := by
  unfold Machine.step at steps
  split at steps
  case h_1 => cases steps; exact h
  case h_2 i rest front =>
    have h' := pending s rest h
    rw [exec_eq_effect] at steps
    split at steps
    · cases steps
      refine flush _ (kept.effect i ?_ (weaker _ h'))
      rintro address value strobes rfl
      exact writes address value strobes rest front
    · cases steps
      exact h'

end Sys2Proof.Machine
end

section
/-! SUPPORT. Every step keeps exchange memory in its canonical form: nothing but a write of bytes, and the loss of them all at a
power-on, moves it. -/

namespace Sys2Proof.Machine

/-! ### The parts of every effect -/

section
variable {s : State} (h : s.mem.wf = true)
include h

@[simp] theorem wf_mem_writeByte (a : Nat) (v : Byte) : (s.writeByte a v).mem.wf = true := Memory.wf_write a v h

@[simp] theorem wf_mem_writeFields (fs : List Field) : (s.writeFields fs).mem.wf = true := Memory.wf_writeFields _ fs h

@[simp] theorem wf_mem_setSlot (lane : Lane) (index : Nat) (state : SlotState) : (s.setSlot lane index state).mem.wf = true :=
  Memory.wf_write _ _ h

@[simp] theorem wf_mem_complete (status : Status) : (s.complete status).mem.wf = true := Memory.wf_writeFields _ _ h

@[simp] theorem wf_mem_writeLoadReport (report : LoadReport) : (s.writeLoadReport report).mem.wf = true :=
  Memory.wf_writeFields _ _ h

@[simp] theorem wf_mem_flush : s.flush.mem.wf = true := by
  unfold State.flush
  split_ifs
  · exact h
  · exact h
  · exact Memory.wf_writeFields _ _ h

@[simp] theorem wf_mem_writeResults (lane : Lane) (e : TrackEntry) (fields : Nat → List Field) (bits : List Nat) :
    (s.writeResults lane e fields bits).mem.wf = true := by
  unfold State.writeResults
  dsimp only
  split
  · exact h
  · exact Memory.wf_writeFields _ _ h

/-! ### The belt -/

@[simp] theorem wf_mem_endBatch (lane : Lane) : (s.endBatch lane).mem.wf = true := by
  unfold State.endBatch
  dsimp only
  split
  · simp only [State.onTracker_frame, State.raise_frame, wf_mem_writeFields h]
  · exact h

@[simp] theorem wf_mem_slotDone (lane : Lane) (e : TrackEntry) (index : Nat) (outcome : PieceOutcome)
    (cause : Option DivertCause) : (s.slotDone lane e index outcome cause).mem.wf = true := by
  unfold State.slotDone
  refine wf_mem_endBatch ?_ lane
  simp only [State.raise_frame, State.touchLane_frame, State.onTracker_frame]
  exact wf_mem_setSlot (wf_mem_writeResults h ..) ..

@[simp] theorem wf_mem_endEntry (lane : Lane) (e : TrackEntry) (outcome : PieceOutcome) (cause : Option DivertCause) :
    (s.endEntry lane e outcome cause).mem.wf = true := by
  unfold State.endEntry
  cases e.slot with
  | none => exact h
  | some index => exact wf_mem_slotDone h ..

@[simp] theorem wf_mem_drainCheck (lane : Lane) : (s.drainCheck lane).mem.wf = true := by
  unfold State.drainCheck
  dsimp only
  split <;> simp [h]

@[simp] theorem wf_mem_endEntries (lane : Lane) (otherwise : DivertCause) (es : List TrackEntry) :
    (s.endEntries lane otherwise es).mem.wf = true := by
  induction es generalizing s with
  | nil => exact h
  | cons e es ih => exact ih (wf_mem_endEntry h ..)

@[simp] theorem wf_mem_emptyHalted (lane : Lane) : (s.emptyHalted lane).mem.wf = true := by
  unfold State.emptyHalted
  dsimp only
  split <;> simp [h]

@[simp] theorem wf_mem_halt (lane : Lane) (cause : HaltCause) : (s.halt lane cause).mem.wf = true := by
  unfold State.halt
  dsimp only
  split
  · refine wf_mem_emptyHalted ?_ lane
    simp [h]
  · exact h

theorem wf_mem_enter (lane : Lane) : (s.enter lane).mem.wf = true := by
  unfold State.enter
  split
  · exact wf_mem_halt h lane _
  · split
    · unfold State.enterWithoutSlot
      dsimp only
      split <;> simp [h]
    · rw [State.openSlot_eq]
      exact wf_mem_setSlot (wf_mem_writeFields h _) ..

theorem wf_mem_exitPhotocell (lane : Lane) : (s.exitPhotocell lane).mem.wf = true := by
  unfold State.exitPhotocell
  split
  · simp [State.stray, h]
  · have driven : ∀ e, (s.driveGate lane e).mem.wf = true := fun e => by simp [State.driveGate, h]
    dsimp only
    split
    · exact driven _
    · refine wf_mem_drainCheck ?_ lane
      unfold State.endAtExit
      split <;> simp [driven]

theorem wf_mem_runWrite (lane : Lane) (value : Bool) : (s.runWrite lane value).mem.wf = true := by
  unfold State.runWrite
  split
  · split
    · split <;> simp [State.moveLane, h]
    all_goals simp [State.moveLane, h]
  · exact h

theorem wf_mem_encoderCount (lane : Lane) : (s.encoderCount lane).mem.wf = true := by
  unfold State.encoderCount
  dsimp only
  split
  · split <;> simp [h]
  · exact h

theorem wf_mem_ratePhotocell (lane : Lane) : (s.ratePhotocell lane).mem.wf = true := by
  unfold State.ratePhotocell
  split
  · simp [State.stray, h]
  · split
    · split
      · rw [State.rateFilled_eq]
        exact Memory.wf_write _ _ h
      · exact Memory.wf_write _ _ h
    · simp [h]

theorem keeps_wf_printPhotocell (lane : Lane) : (s.printPhotocell lane).Keeps (fun t => t.mem.wf = true) := by
  unfold State.printPhotocell
  split
  · simp [Plan.Keeps, State.stray, h]
  · split
    · unfold State.dispatchPlan
      split
      · simp [Plan.Keeps, h]
      · split <;> simp [Plan.Keeps, h]
    all_goals simp [Plan.Keeps, h]

theorem keeps_wf_sensorPlan (lane : Lane) (photocell : Position) (edge : Edge) (tracked : State → Plan)
    (tracks : (tracked s).Keeps (fun t => t.mem.wf = true)) :
    (s.sensorPlan lane photocell edge tracked).Keeps (fun t => t.mem.wf = true) := by
  unfold State.sensorPlan
  dsimp only
  split
  · exact h
  · split
    · exact tracks
    · simp [Plan.Keeps, State.stray, h]

/-! ### The links -/

theorem keeps_wf_settlePlan (lane : Lane) (result : PrintResult) (expired : Bool) :
    (s.settlePlan lane result expired).Keeps (fun t => t.mem.wf = true) := by
  unfold State.settlePlan
  split <;> simp [Plan.Keeps, h]

theorem keeps_wf_answerPlan (lane : Lane) (frame : BitVec 48) :
    (s.answerPlan lane frame).Keeps (fun t => t.mem.wf = true) := by
  unfold State.answerPlan
  dsimp only
  split
  · split
    · exact h
    · split
      · exact h
      · split
        · exact keeps_wf_settlePlan h ..
        · split
          · exact keeps_wf_settlePlan (s := s.setLink lane _) h ..
          · exact h
  · exact h

theorem keeps_wf_expiryPlan (lane : Lane) : (s.expiryPlan lane).Keeps (fun t => t.mem.wf = true) := by
  unfold State.expiryPlan
  dsimp only
  split
  · exact h
  · split
    · exact keeps_wf_settlePlan h ..
    · exact h
    · exact h

theorem keeps_wf_linkPlan (lane : Lane) (plan : State → Plan) (plans : (plan s).Keeps (fun t => t.mem.wf = true)) :
    (s.linkPlan lane plan).Keeps (fun t => t.mem.wf = true) := by
  unfold State.linkPlan
  split
  · exact plans
  · exact h

theorem wf_mem_frameSent (lane : Lane) : (s.frameSent lane).mem.wf = true := by
  unfold State.frameSent
  dsimp only
  split <;> exact h

theorem wf_mem_answerReady (lane : Lane) : (s.answerReady lane).mem.wf = true := by
  unfold State.answerReady
  dsimp only
  split
  · exact h
  · split <;> exact h
  · exact h

theorem wf_mem_settleEntry (lane : Lane) (seq : Nat) (result : PrintResult) :
    (s.settleEntry lane seq result).mem.wf = true := by
  unfold State.settleEntry
  split
  · exact h
  · dsimp only
    split
    · split <;> simp [h]
    · simp [h]

/-! ### The rating unit and the funds unit -/

theorem wf_mem_take : s.take.mem.wf = true := by
  unfold State.take
  split
  · dsimp only
    split <;> exact h
  · exact h

theorem wf_mem_ratingCompletion : s.ratingCompletion.mem.wf = true := by
  unfold State.ratingCompletion
  split
  · exact h
  · dsimp only
    split
    · exact h
    · split
      · simp [State.keepPriced, h]
      · simp [State.keepRefused, h]

theorem wf_mem_takeRequest : s.takeRequest.mem.wf = true := by
  unfold State.takeRequest
  split
  · exact h
  · dsimp only
    split
    · exact h
    · split
      · unfold State.refuseHold
        dsimp only
        split <;> exact h
      · unfold State.placeHold
        dsimp only
        split <;> exact h

/-! ### The rest of a whole update -/

@[simp] theorem wf_mem_inspect : s.inspect.mem.wf = true := by
  rw [State.inspect_eq]
  exact h

@[simp] theorem wf_mem_setCalendar (day minute second : Nat) : (s.setCalendar day minute second).mem.wf = true :=
  wf_mem_inspect (s := State.touchCalendar { s with calendar := s.calendar.setTo day minute second }) h

theorem wf_mem_afterDebit (lane : Lane) (hold : Hold) (serial day : Nat) :
    (s.afterDebit lane hold serial day).mem.wf = true := by
  unfold State.afterDebit
  dsimp only
  split
  · simp only [State.onLink_frame, State.onEntry_frame]
    refine wf_mem_writeResults ?_ ..
    exact h
  · exact h

theorem wf_mem_afterSettle (lane : Lane) (result : PrintResult) (expired : Bool) :
    (s.afterSettle lane result expired).mem.wf = true := by
  unfold State.afterSettle
  split
  · exact h
  · extract_lets s₁ s₂ s₃ s₄
    have touched : s₂.mem.wf = true := by
      dsimp only [s₂]
      split <;> exact h
    have settled : s₃.mem.wf = true := wf_mem_settleEntry touched ..
    have halted : s₄.mem.wf = true := by
      dsimp only [s₄]
      split
      · exact wf_mem_halt settled ..
      · exact settled
    exact wf_mem_drainCheck (wf_mem_emptyHalted halted _) _

theorem wf_mem_parkLane (lane : Lane) : (s.parkLane lane).mem.wf = true := by
  unfold State.parkLane
  extract_lets s₁ s₂ s₃
  have shown : s₁.mem.wf = true := by
    dsimp only [s₁]
    split
    · exact h
    · split
      · exact h
      · exact wf_mem_writeResults h ..
  have ended : s₂.mem.wf = true := wf_mem_endEntries shown ..
  simp [s₃, ended]

theorem wf_mem_afterPark : s.afterPark.mem.wf = true := by
  have parked : ((State.abandonRating { s with holds := [] }).parkLane .a |>.parkLane .b).mem.wf = true :=
    wf_mem_parkLane (wf_mem_parkLane (s := State.abandonRating { s with holds := [] }) h .a) .b
  exact Memory.wf_writeFields _ _ parked

theorem wf_mem_goOn {steps : State → State} (kept : ∀ {s : State}, s.mem.wf = true → (steps s).mem.wf = true) :
    (s.goOn steps).mem.wf = true := by
  unfold State.goOn
  split
  · exact h
  · exact kept h

theorem wf_mem_endStart : s.endStart.mem.wf = true := by
  have written : s.writeWholeStatus.mem.wf = true := Memory.wf_writeFields _ _ h
  unfold State.endStart
  dsimp only
  split
  · exact wf_mem_complete written .done
  · exact written

theorem wf_mem_startFrom7 : s.startFrom7.mem.wf = true := wf_mem_endStart (wf_mem_inspect h)

theorem wf_mem_startFrom6 (stop : Option Phase) : (s.startFrom6 stop).mem.wf = true := by
  unfold State.startFrom6
  split
  · split
    · exact wf_mem_goOn (s := (s.makeUpdate .startSwitch s.items.switchBanks).afterSwitch) h wf_mem_startFrom7
    · exact h
  · exact wf_mem_startFrom7 h

theorem wf_mem_after (work : Work) : (s.after work).mem.wf = true := by
  cases work with
  | debit lane hold serial day => exact wf_mem_afterDebit h ..
  | settle lane result expired => exact wf_mem_afterSettle h ..
  | park => exact wf_mem_afterPark h
  | claim removed => cases removed <;> exact Memory.wf_writeFields _ _ h
  | setAlert before =>
    simp only [State.after, State.afterSetAlert]
    split <;> exact Memory.wf_writeFields _ _ h
  | commit active => cases active <;> exact Memory.wf_writeFields _ _ (Memory.wf_writeFields _ _ h)
  | setDate day minute second =>
    exact wf_mem_complete (s := (s.setCalendar day minute second).afterSwitch) (wf_mem_setCalendar h ..) _
  | startClear => exact wf_mem_goOn (s := s.faultFound) h wf_mem_endStart
  | startConversion stop => exact wf_mem_goOn h (fun h => wf_mem_startFrom6 h stop)
  | startSwitch => exact wf_mem_goOn (s := s.afterSwitch) h wf_mem_startFrom7
  | bankSwitch => exact h
  | _ => exact Memory.wf_writeFields _ _ h

/-! ### The commands -/

theorem keeps_wf_answerWith (status : Status) : (s.answerWith status).Keeps (fun t => t.mem.wf = true) :=
  wf_mem_complete h status

theorem keeps_wf_commandWork (i : Instr) : (commandWork i s).Keeps (fun t => t.mem.wf = true) := by
  cases i with
  | setDate day minute second pace =>
    show (setDatePlan day.toNat minute.toNat second.toNat s).Keeps _
    rcases setDatePlan_cases day.toNat minute.toNat second.toNat s with eq | eq | eq <;> rw [eq]
    · exact keeps_wf_answerWith h _
    · exact fun _ => h
    · exact wf_mem_complete (wf_mem_setCalendar h ..) _
  | configureLane x =>
    show (configureLanePlan x s).Keeps _
    unfold configureLanePlan
    split
    · exact keeps_wf_answerWith h _
    · split
      · exact keeps_wf_answerWith h _
      · split <;> exact keeps_wf_answerWith h _
  | installLicence x pace =>
    show (installLicencePlan x s).Keeps _
    unfold installLicencePlan
    split
    · exact keeps_wf_answerWith h _
    · exact fun _ => h
  | loadRates =>
    show (loadRatesPlan s).Keeps _
    unfold loadRatesPlan
    split
    · exact wf_mem_complete (wf_mem_writeLoadReport h _) _
    · exact h
  | applyVoucher x pace =>
    show (applyVoucherPlan x s).Keeps _
    unfold applyVoucherPlan
    split
    · exact keeps_wf_answerWith h _
    · split
      · exact keeps_wf_answerWith h _
      · split
        · exact keeps_wf_answerWith h _
        · exact fun _ => h
  | setAccount account state pace =>
    show (setAccountPlan account state s).Keeps _
    unfold setAccountPlan
    split
    · exact fun _ => h
    · exact keeps_wf_answerWith h _
  | setFundsAlert threshold pace =>
    show (setFundsAlertPlan threshold.toNat s).Keeps _
    unfold setFundsAlertPlan
    split
    · exact fun _ => h
    · exact keeps_wf_answerWith h _
  | openBatch lane id =>
    show (openBatchPlan lane id.toNat s).Keeps _
    unfold openBatchPlan
    split
    · exact keeps_wf_answerWith h _
    · split <;> exact keeps_wf_answerWith h _
  | closeBatch lane =>
    show (closeBatchPlan lane s).Keeps _
    unfold closeBatchPlan
    split
    · exact keeps_wf_answerWith h _
    · split
      · exact wf_mem_complete (wf_mem_endBatch (s := s.onTracker _ _) h _) _
      · exact keeps_wf_answerWith h _
  | resumeLane lane =>
    show (resumeLanePlan lane s).Keeps _
    unfold resumeLanePlan
    split
    · exact keeps_wf_answerWith h _
    · split
      · exact wf_mem_complete (s := State.touchLane _ _) (by simpa using h) _
      · exact keeps_wf_answerWith h _
  | setPostdate offset =>
    show (setPostdatePlan offset.toNat s).Keeps _
    unfold setPostdatePlan
    split <;> exact keeps_wf_answerWith h _
  | park pace =>
    show (parkPlan s).Keeps _
    unfold parkPlan
    split
    · exact h
    · exact keeps_wf_answerWith h _
    · split
      · exact wf_mem_afterPark h
      · exact fun _ => h
  | reportFunds => exact wf_mem_complete (wf_mem_writeFields h _) _
  | readAccounts => exact wf_mem_complete (wf_mem_writeFields h _) _
  | closePeriod pace => exact fun _ => wf_mem_writeFields h _
  | claimSpoiled limit pace => exact fun _ => wf_mem_writeFields h _
  | closeSetup => exact wf_mem_complete h _
  | unknownCommand code => exact wf_mem_complete h _
  | _ => exact h

theorem keeps_wf_commandPlan (i : Instr) : (commandPlan i s).Keeps (fun t => t.mem.wf = true) := by
  unfold commandPlan
  split
  · exact keeps_wf_commandWork h i
  · exact keeps_wf_answerWith h _

theorem keeps_wf_loadRatesCompletionPlan : (loadRatesCompletionPlan s).Keeps (fun t => t.mem.wf = true) := by
  unfold loadRatesCompletionPlan
  split
  · exact h
  · split
    · exact wf_mem_complete (wf_mem_writeLoadReport (s := { s with load := none }) h _) _
    · split
      · exact wf_mem_complete (wf_mem_writeLoadReport (s := { s with load := none }) h _) _
      · exact fun _ => h

theorem keeps_wf_eventPlan (i : Instr) : (eventPlan i s).Keeps (fun t => t.mem.wf = true) := by
  cases i with
  | entry lane edge => exact keeps_wf_sensorPlan h lane _ edge (fun s => .done (s.enter lane)) (wf_mem_enter h lane)
  | rate lane edge =>
    exact keeps_wf_sensorPlan h lane _ edge (fun s => .done (s.ratePhotocell lane)) (wf_mem_ratePhotocell h lane)
  | print lane edge pace =>
    exact keeps_wf_sensorPlan h lane _ edge (fun s => s.printPhotocell lane) (keeps_wf_printPhotocell h lane)
  | exit lane edge =>
    exact keeps_wf_sensorPlan h lane _ edge (fun s => .done (s.exitPhotocell lane)) (wf_mem_exitPhotocell h lane)
  | encoderCount lane => exact wf_mem_encoderCount h lane
  | run lane value => exact wf_mem_runWrite h lane value
  | loadRatesCompletion pace => exact keeps_wf_loadRatesCompletionPlan h
  | take => exact wf_mem_take h
  | ratingCompletion => exact wf_mem_ratingCompletion h
  | holdRequest => exact wf_mem_takeRequest h
  | frameSent lane => exact keeps_wf_linkPlan h lane (fun s => .done (s.frameSent lane)) (wf_mem_frameSent h lane)
  | answerReady lane => exact keeps_wf_linkPlan h lane (fun s => .done (s.answerReady lane)) (wf_mem_answerReady h lane)
  | answer lane frame pace =>
    exact keeps_wf_linkPlan h lane (fun s => s.answerPlan lane frame) (keeps_wf_answerPlan h lane frame)
  | answerTimerExpiry lane pace => exact keeps_wf_linkPlan h lane (fun s => s.expiryPlan lane) (keeps_wf_expiryPlan h lane)
  | _ => exact keeps_wf_commandPlan h _

theorem keeps_wf_heldEvent (e : HeldEvent) : (e.plan s).Keeps (fun t => t.mem.wf = true) := by
  cases e with
  | event i => exact keeps_wf_eventPlan h i
  | switchCheck =>
    show s.switchPlan.Keeps _
    unfold State.switchPlan
    split
    · exact fun _ => h
    · exact h

/-! ### Resets and START -/

theorem wf_mem_resetEvent (cause : ResetCause) : (s.resetEvent cause).mem.wf = true :=
  Memory.wf_writeFields _ _ (wf_freeSlots h)

theorem wf_mem_lineResetNow (lanes : LaneCount) (order : BusOrder) : (s.lineResetNow lanes order).mem.wf = true := by
  refine wf_mem_resetEvent ?_ _
  unfold State.abortCommand
  split
  · exact h
  · exact h
  · exact Memory.wf_writeFields _ _ h

theorem wf_mem_startSteps (pace : StartPace) : (s.startSteps pace).mem.wf = true := by
  have settled : s.warnInStart.settleRecord.mem.wf = true := by
    have warned : s.warnInStart.mem.wf = true := by
      unfold State.warnInStart
      split <;> exact h
    unfold State.settleRecord
    split
    · exact warned
    · exact warned
    · split <;> exact warned
  unfold State.startSteps
  split
  · dsimp only
    split
    · split
      · exact wf_mem_goOn (s := (s.warnInStart.settleRecord.makeUpdate _ _).faultFound) settled wf_mem_endStart
      · exact settled
    · unfold State.startFrom5
      split
      · exact wf_mem_startFrom6 settled _
      · split
        · exact wf_mem_startFrom6 (s := s.warnInStart.settleRecord.makeUpdate _ _) settled _
        · exact settled
  · exact h

end

/-! ### Every step -/

theorem kept_wf_mem : Kept (fun s => s.mem.wf = true) where
  pending _ h := h
  notices _ h := h
  command _ h := h
  waiting _ _ _ h := h
  loading _ _ h := h
  powerWarn _ h := h
  fields fs _ h := wf_mem_writeFields h fs
  byte a value _ h := wf_mem_writeByte h a value
  refuseSlotWrite lane h := by rw [State.refuseSlotWrite_eq]; exact h
  plan e h _ := keeps_wf_heldEvent h e
  claim _ h _ := fun _ => h
  completes work _ _ h _ _ := wf_mem_after (s := State.place _ _) h work
  reset cause h := wf_mem_resetEvent h cause
  straps lanes order h := wf_mem_lineResetNow h lanes order
  powerOn _ _ _ := Memory.wf_writeFields _ _ (wf_freeSlots Memory.wf_nil)
  start pace h := wf_mem_startSteps h pace
  supplyLoss h := h
  batteryLoss h := h
  second _ h := h
  quietBoundary h _ := h
  boundary h := wf_mem_inspect (s := State.touchCalendar _) h

/-- Settles O3: `kept_wf_mem`, with the rewrite of the status block as one more write. -/
theorem everyStepKeepsMemoryCanonical : Obligations.EveryStepKeepsMemoryCanonical := by
  intro s t canonical steps
  exact kept_wf_mem.step (Q := State.CanonicalMemory) (fun _ h => h) (fun _ h => wf_mem_flush h) (fun _ _ h => h)
    (fun _ _ _ _ _ => .inr fun _ a value h => wf_mem_writeByte h a value) canonical steps

end Sys2Proof.Machine
end

section
/-! SUPPORT. Commands of the command block at their post (R179 to R182): what a command in progress leaves, how one that asks for
no update or has it made at once completes, and the refusals. -/

namespace Sys2Proof.Machine

/-! ### A command in progress -/

@[simp] theorem State.inProgress_frame (s : State) (i : Instr) :
    (s.inProgress i).supply = s.supply ∧ (s.inProgress i).powerWarn = s.powerWarn
      ∧ (s.inProgress i).laneCount = s.laneCount ∧ (s.inProgress i).order = s.order
      ∧ (s.inProgress i).powerOns = s.powerOns ∧ (s.inProgress i).part = s.part
      ∧ (s.inProgress i).command = some i ∧ (s.inProgress i).heldReset = s.heldReset
      ∧ (s.inProgress i).generation = s.generation ∧ (s.inProgress i).dirty = s.dirty
      ∧ (s.inProgress i).notices = s.notices ∧ (s.inProgress i).lanes = s.lanes ∧ (s.inProgress i).links = s.links
      ∧ (s.inProgress i).takeQueue = s.takeQueue ∧ (s.inProgress i).rating = s.rating
      ∧ (s.inProgress i).useCounts = s.useCounts ∧ (s.inProgress i).load = s.load ∧ (s.inProgress i).holds = s.holds
      ∧ (s.inProgress i).notice = s.notice ∧ (s.inProgress i).calendar = s.calendar
      ∧ (s.inProgress i).store = s.store ∧ (s.inProgress i).inStore = s.inStore ∧ (s.inProgress i).held = s.held
      ∧ (s.inProgress i).unbegun = s.unbegun := by
  rw [State.inProgress_eq]
  simp

@[simp] theorem State.inProgress_items (s : State) (i : Instr) : (s.inProgress i).items = s.items := by simp [State.items]

@[simp] theorem State.inProgress_tracker (s : State) (i : Instr) (lane : Lane) :
    (s.inProgress i).tracker lane = s.tracker lane := by simp [State.tracker]

@[simp] theorem State.inProgress_link (s : State) (i : Instr) (lane : Lane) :
    (s.inProgress i).link lane = s.link lane := by simp [State.link]

@[simp] theorem State.inProgress_present (s : State) (i : Instr) (lane : Lane) :
    (s.inProgress i).present lane = s.present lane := by cases lane <;> simp [State.present]

@[simp] theorem State.inProgress_namedLane (s : State) (i : Instr) (code : Byte) :
    (s.inProgress i).namedLane code = s.namedLane code := by simp [State.namedLane]

@[simp] theorem State.inProgress_available (s : State) (i : Instr) : (s.inProgress i).available = s.available := by
  simp [State.available]

/-! ### The post (R179 to R181) -/

/-- With no command in progress a post of any command but RESTART is a command taken. -/
theorem State.issue_free {s : State} {i : Instr} (free : s.command = none) (other : i ≠ .restart) :
    s.issue i = (s.layCommand i).takeCommand i := by
  have free : (s.layCommand i).command.isSome = false := by simp [free]
  unfold State.issue State.post
  split
  case h_1 => exact absurd rfl other
  case h_2 => simp only [free, Bool.false_eq_true, if_false]

/-- One that its post refuses completes there (R181). -/
theorem State.takeCommand_refused {s : State} {i : Instr} {status : Status} (refused : s.refusalAtPost i = some status) :
    (s.layCommand i).takeCommand i = (s.inProgress i).complete status := by
  rw [← s.refusalAtPost_inProgress i i, State.inProgress] at refused
  simp only [State.takeCommand, State.inProgress, refused]

/-- One that its post accepts is taken up. -/
theorem State.takeCommand_accepted {s : State} {i : Instr} (accepted : s.refusalAtPost i = none) :
    (s.layCommand i).takeCommand i = (s.inProgress i).takeUp i := by
  rw [← s.refusalAtPost_inProgress i i, State.inProgress] at accepted
  simp only [State.takeCommand, State.inProgress, accepted]

/-- A command whose post refuses it. -/
theorem exec_of_command_refused {i : Instr} {s : State} {status : Status} (takes : s.TakesCommands)
    (command : (commandCode i).isSome = true) (other : i ≠ .restart) (refused : s.refusalAtPost i = some status) :
    exec i s = .next ((s.inProgress i).complete status).flush := by
  obtain ⟨⟨supply, -, -⟩, free⟩ := takes
  rw [exec_effect supply, effect_command command, State.issue_free free other, State.takeCommand_refused refused]

/-- A command that asks for no update is carried out at its post, whatever its pace. -/
theorem exec_of_command_done {i : Instr} {s t : State} (takes : s.TakesCommands) (command : (commandCode i).isSome = true)
    (other : i ≠ .restart) (accepted : s.refusalAtPost i = none) (plan : commandPlan i (s.inProgress i) = .done t) :
    exec i s = .next t.flush := by
  obtain ⟨⟨supply, idle, -⟩, free⟩ := takes
  have idle' : (s.inProgress i).inStore = none := by simp [idle]
  have taken : (s.inProgress i).takeUp i = t := by
    simp [State.takeUp, State.tooLate_idle idle', State.takeEvent_idle idle', plan, Plan.asks, Plan.carryOut]
  rw [exec_effect supply, effect_command command, State.issue_free free other, State.takeCommand_accepted accepted, taken]

/-- A command whose update is made at its post. -/
theorem exec_of_command_update {i : Instr} {s t : State} {work : Work} {values : Items} (takes : s.TakesCommands)
    (command : (commandCode i).isSome = true) (other : i ≠ .restart) (accepted : s.refusalAtPost i = none)
    (now : beginsLater i = false) (made : paceOf i = .made)
    (plan : commandPlan i (s.inProgress i) = .update work values t) :
    exec i s = .next ((t.makeUpdate work values).after work).flush := by
  obtain ⟨⟨supply, idle, -⟩, free⟩ := takes
  have idle' : (s.inProgress i).inStore = none := by simp [idle]
  rw [exec_effect supply, effect_command command, State.issue_free free other, State.takeCommand_accepted accepted,
    State.takeUp_idle idle' now, plan, made]
  rfl

/-- In a part state that takes it no command but UNKNOWN_COMMAND and PARK is refused at its post. -/
theorem refusalAtPost_of_taken {i : Instr} {s : State} (taken : takenInPart i s.part = true)
    (known : ∀ code, i ≠ .unknownCommand code) (unparked : ∀ pace, i ≠ .park pace) : s.refusalAtPost i = none := by
  unfold State.refusalAtPost
  split
  · exact absurd rfl (known _)
  · exact absurd rfl (unparked _)
  · simp [taken]

theorem commandPlan_of_taken {i : Instr} {s : State} (taken : takenInPart i s.part = true) :
    commandPlan i s = commandWork i s := if_pos taken

/-! ### A completion that changes nothing else -/

theorem State.complete_eq (s : State) (status : Status) :
    s.complete status
      = { s with mem := (s.complete status).mem, command := none, notices := s.notices.raise .commandDone } := rfl

/-- A command completed at its post leaves its code, arguments and status in memory and COMMAND_DONE raised. -/
theorem flush_complete_inProgress {s : State} (takes : s.TakesCommands) (i : Instr) (status : Status) :
    ((s.inProgress i).complete status).flush = (s.inProgress i).complete status := by
  obtain ⟨⟨-, -, clean⟩, -⟩ := takes
  exact flush_clean (by simpa using clean)

theorem complete_inProgress_eq {s : State} (takes : s.TakesCommands) (i : Instr) (status : Status) :
    (s.inProgress i).complete status
      = { s with mem := ((s.inProgress i).complete status).mem, notices := s.notices.raise .commandDone } := by
  obtain ⟨-, free⟩ := takes
  rw [State.complete_eq]
  generalize ((s.inProgress i).complete status).mem = m
  rw [State.inProgress_eq, ← free]

theorem completed_complete (s : State) (status : Status) : (s.complete status).Completed status := by
  refine ⟨?_, rfl, Notices.flag_raise_same _ _⟩
  calc (s.complete status).readField statusAddress 2
      = (s.writeStatus status).readField statusAddress 2 := readField_of_mem rfl rfl rfl _ _
    _ = statusCode status % 256 ^ 2 := readField_writeFields s [] [] ⟨statusAddress, 2, statusCode status⟩ (by simp)
    _ = statusCode status := Nat.mod_eq_of_lt (statusCode_lt status)

/-- A command that completes at its post with a status and changes nothing else. -/
def AnswersOnly (i : Instr) (s : State) (status : Status) (size : Nat) : Prop :=
  ∃ t, exec i s = .next t ∧ t.Completed status
    ∧ t = { s with mem := t.mem, notices := s.notices.raise .commandDone }
    ∧ UnchangedOutside [codeAndStatus, argumentsOf size] s t

theorem answersOnly_of_exec {i : Instr} {s : State} {status : Status} (takes : s.TakesCommands) {size : Nat}
    (laid : LaidOut argumentAddress (argumentAddress + size) (argumentFields i))
    (completes : exec i s = .next ((s.inProgress i).complete status).flush) : AnswersOnly i s status size := by
  rw [flush_complete_inProgress takes] at completes
  exact ⟨_, completes, completed_complete _ _, complete_inProgress_eq takes i status,
    (unchangedOutside_inProgress s laid).trans ((unchangedOutside_complete _ status).mono (by simp))⟩

/-- A command refused at its post changes nothing else (R181). -/
theorem answersOnly_of_refused {i : Instr} {s : State} {status : Status} (takes : s.TakesCommands) {size : Nat}
    (command : (commandCode i).isSome = true) (other : i ≠ .restart)
    (laid : LaidOut argumentAddress (argumentAddress + size) (argumentFields i))
    (refused : s.refusalAtPost i = some status) : AnswersOnly i s status size :=
  answersOnly_of_exec takes laid (exec_of_command_refused takes command other refused)

/-- A command whose work is a bare answer changes nothing else. -/
theorem answersOnly_of_work {i : Instr} {s : State} {status : Status} (takes : s.TakesCommands) {size : Nat}
    (command : (commandCode i).isSome = true) (other : i ≠ .restart) (unparked : ∀ pace, i ≠ .park pace)
    (laid : LaidOut argumentAddress (argumentAddress + size) (argumentFields i)) (taken : takenInPart i s.part = true)
    (known : ∀ code, i ≠ .unknownCommand code)
    (work : commandWork i (s.inProgress i) = (s.inProgress i).answerWith status) : AnswersOnly i s status size :=
  answersOnly_of_exec takes laid
    (exec_of_command_done takes command other (refusalAtPost_of_taken taken known unparked)
      ((commandPlan_of_taken (by simpa using taken)).trans work))

theorem AnswersOnly.mono {i : Instr} {s : State} {status : Status} {small large : Nat} (h : AnswersOnly i s status small)
    (le : small ≤ large) : AnswersOnly i s status large := by
  obtain ⟨t, run, completed, frame, bytes⟩ := h
  refine ⟨t, run, completed, frame, bytes.mono ?_⟩
  simpa [argumentsOf, codeAndStatus] using Or.inr le

/-! ### REFUSED_STATE and COMMAND_OVERRUN -/

/-- What is not a command is not refused by the part state. -/
theorem commandCode_of_not_taken {i : Instr} {part : PartState} (refused : takenInPart i part = false) :
    (commandCode i).isSome = true := by
  cases i
  all_goals first | rfl | exact absurd refused Bool.noConfusion

theorem takenInPart_eq_takenIn (i : Instr) (part : PartState) : takenInPart i part = takenIn i part := by
  cases i <;> rfl

/-- RESTART in PARKED (R183). -/
theorem answersOnly_restart_parked {s : State} (takes : s.TakesCommands) (parked : s.part = .parked) :
    AnswersOnly .restart s .refusedState 240 := by
  obtain supply := takes.1.1
  refine answersOnly_of_exec takes (by simp [argumentFields, LaidOut]) ?_
  have posted : s.issue .restart = (s.inProgress .restart).complete .refusedState := by
    simp [State.issue, State.post, State.postRestart, parked, State.inProgress]
  rw [exec_effect supply, effect_command rfl, posted]

/-- A post over a command in progress is ignored (R180). -/
theorem State.issue_overrun {s : State} {i : Instr} (busy : s.command ≠ none) (other : i ≠ .restart) :
    s.issue i = (s.layCommand i).raise .commandOverrun := by
  have busy : (s.layCommand i).command.isSome = true := by simpa [Option.isSome_iff_ne_none] using busy
  unfold State.issue State.post
  split
  case h_1 => exact absurd rfl other
  case h_2 => simp only [busy, if_true]

/-- A command laid in the command block writes its code and its arguments (R179). -/
theorem unchangedOutside_layCommand (s : State) (i : Instr) :
    UnchangedOutside [(commandCodeAddress, 2), (argumentAddress, 240)] s (s.layCommand i) := by
  unfold State.layCommand
  split
  case h_1 code _ =>
    refine (unchangedOutside_writeFields s (⟨commandCodeAddress, 2, code⟩ :: argumentFields i)).mono fun r hr => ?_
    obtain ⟨f, hf, rfl⟩ := List.mem_map.mp hr
    rcases List.mem_cons.mp hf with rfl | hf
    · exact ⟨_, List.mem_cons_self, le_rfl, le_rfl⟩
    · have ⟨low, high⟩ := (laidOut_argumentFields i).within hf
      exact ⟨_, List.mem_cons_of_mem _ List.mem_cons_self, low, high.trans (by simp)⟩
  case h_2 => exact .of_mem _ rfl rfl

theorem State.layCommand_eq (s : State) (i : Instr) : s.layCommand i = { s with mem := (s.layCommand i).mem } := by
  unfold State.layCommand
  split <;> rfl

/-- Settles O29: the part state is looked at in the post, before anything else of a known command. -/
theorem commandRefusedOrIgnored : Obligations.CommandRefusedOrIgnored := by
  refine ⟨fun i s takes refused => ?_, fun i s ready busy command _ other => ?_⟩
  · have refused : takenInPart i s.part = false := (takenInPart_eq_takenIn i s.part).trans refused
    have laid : LaidOut argumentAddress (argumentAddress + 240) (argumentFields i) :=
      (laidOut_argumentFields i).mono (by simp)
    show AnswersOnly i s .refusedState 240
    by_cases restart : i = .restart
    · subst restart
      have parked : (s.part != .parked) = false := refused
      exact answersOnly_restart_parked takes (by simpa using parked)
    · refine answersOnly_of_refused (size := 240) takes ?_ restart laid ?_
      · exact commandCode_of_not_taken refused
      · unfold State.refusalAtPost
        split
        · cases refused
        · cases refused
        · simp [refused]
  · obtain ⟨supply, -, clean⟩ := ready
    refine ⟨(s.layCommand i).raise .commandOverrun, ?_, ?_, (unchangedOutside_layCommand s i).trans (.of_mem _ rfl rfl)⟩
    · rw [exec_effect supply, effect_command command, State.issue_overrun busy other, flush_clean (by simpa using clean)]
    · rw [State.raise, State.layCommand_eq]

end Sys2Proof.Machine
end

section
/-! SUPPORT. The commands that complete at their post with a refusal: an argument out of range, an absent lane, an unknown code
(R48, R122, R127, R139, R141, R164, R165, R173, R174, R181), and a voucher's checks (R141). -/

namespace Sys2Proof.Machine

theorem laneOfCode_beyond {code : Nat} (beyond : 1 < code) : laneOfCode code = none := by
  obtain ⟨n, rfl⟩ := Nat.exists_eq_add_of_lt beyond
  rw [show 1 + n + 1 = n + 2 by omega]
  rfl

/-- A lane argument that names no lane of the part: no lane at all, or the absent lane B. -/
def State.NamesNoLane (s : State) (code : Byte) : Prop := 1 < code.toNat ∨ code = 1 ∧ s.laneCount = .one

theorem State.namedLane_none {s : State} {code : Byte} (absent : s.NamesNoLane code) : s.namedLane code = none := by
  unfold State.namedLane
  rcases absent with beyond | ⟨rfl, one⟩
  · rw [laneOfCode_beyond beyond]
  · simp [laneOfCode, State.present, one]

theorem State.namedLane_some {s : State} {code : Byte} {lane : Lane} (named : laneOfCode code.toNat = some lane)
    (present : s.present lane = true) : s.namedLane code = some lane := by
  simp [State.namedLane, named, present]

/-! ### The plans of arguments out of range -/

theorem setDatePlan_bad {day minute second : Nat} {s : State}
    (bad : 1439 < minute ∨ 59 < second ∨ day < s.items.lastImprintDay) :
    setDatePlan day minute second s = s.answerWith .badArgument := if_pos bad

/-- The items of a CONFIGURE LANE that are out of range. -/
def LaneArguments.OutOfRange (x : LaneArguments) : Prop :=
  x.entryLimit = 0 ∨ x.rateLimit = 0 ∨ x.printLimit = 0 ∨ 127 < x.window.toNat ∨ x.timer = 0 ∨ 1 < x.link.toNat

theorem LaneArguments.inRange_iff (x : LaneArguments) :
    LaneArguments.inRange x = true ↔ x.entryLimit ≠ 0 ∧ x.rateLimit ≠ 0 ∧ x.printLimit ≠ 0 ∧ x.window.toNat ≤ 127 ∧ x.timer ≠ 0
      ∧ x.link.toNat ≤ 1 := by
  simp [LaneArguments.inRange, and_assoc]

theorem LaneArguments.inRange_eq_false {x : LaneArguments} (bad : LaneArguments.OutOfRange x) : LaneArguments.inRange x = false := by
  rw [← Bool.not_eq_true, LaneArguments.inRange_iff]
  rintro ⟨entry, rate, print, window, timer, link⟩
  rcases bad with h | h | h | h | h | h
  · exact entry h
  · exact rate h
  · exact print h
  · exact absurd h (not_lt.mpr window)
  · exact timer h
  · exact absurd h (not_lt.mpr link)

/-- The state of the lane is looked at before the ranges (log entry 28). -/
theorem configureLanePlan_bad {x : LaneArguments} {s : State}
    (open_ : s.part = .setup ∨ ∀ lane, laneOfCode x.lane.toNat = some lane → (s.tracker lane).state = .stopped)
    (bad : s.NamesNoLane x.lane ∨ LaneArguments.OutOfRange x) : configureLanePlan x s = s.answerWith .badArgument := by
  unfold configureLanePlan
  split
  case h_1 => rfl
  case h_2 lane named =>
    have allowed : ¬ (s.part = .operating ∧ (s.tracker lane).state ≠ .stopped) := by
      rintro ⟨operating, moving⟩
      rcases open_ with setup | stopped
      · cases operating.symm.trans setup
      · exact moving (stopped lane named)
    have refused : ¬ (s.present lane && LaneArguments.inRange x) = true := by
      rcases bad with absent | range
      · intro right
        obtain ⟨present, -⟩ := Bool.and_eq_true_iff.mp right
        cases (State.namedLane_none absent).symm.trans (State.namedLane_some named present)
      · simp [LaneArguments.inRange_eq_false range]
    rw [if_neg allowed, if_neg refused]

theorem installLicencePlan_bad {x : LicenceArguments} {s : State}
    (bad : x.meterId = 0 ∨ x.maximumFunds = 0 ∨ 999999999999 < x.maximumFunds.toNat ∨ x.perPieceCap = 0
      ∨ 999999 < x.perPieceCap.toNat ∨ x.interval = 0 ∨ 365 < x.interval.toNat ∨ x.firstSerial = 0) :
    installLicencePlan x s = s.answerWith .badArgument := by
  have none : licenceOf x = none := if_pos bad
  simp only [installLicencePlan, none]

theorem applyVoucherPlan_bad {x : VoucherArguments} {s : State} (bad : x.amount = 0 ∨ 99999999 < x.amount.toNat) :
    applyVoucherPlan x s = s.answerWith .badArgument := if_pos bad

theorem setAccountPlan_bad {account state : Byte} {s : State} (bad : 31 < account.toNat ∨ 1 < state.toNat) :
    setAccountPlan account state s = s.answerWith .badArgument := if_neg (by omega)

theorem setFundsAlertPlan_bad {threshold : Nat} {s : State} (bad : 999999999999 < threshold) :
    setFundsAlertPlan threshold s = s.answerWith .badArgument := if_neg (not_le.mpr bad)

theorem openBatchPlan_bad {lane : Byte} {id : Nat} {s : State} (absent : s.namedLane lane = none) :
    openBatchPlan lane id s = s.answerWith .badArgument := by simp only [openBatchPlan, absent]

theorem closeBatchPlan_bad {lane : Byte} {s : State} (absent : s.namedLane lane = none) :
    closeBatchPlan lane s = s.answerWith .badArgument := by simp only [closeBatchPlan, absent]

theorem resumeLanePlan_bad {lane : Byte} {s : State} (absent : s.namedLane lane = none) :
    resumeLanePlan lane s = s.answerWith .badArgument := by simp only [resumeLanePlan, absent]

theorem setPostdatePlan_bad {offset : Nat} {s : State} (bad : 7 < offset) :
    setPostdatePlan offset s = s.answerWith .badArgument := if_pos bad

/-! ### BAD_ARGUMENT (R181) -/

theorem laidOut_arguments_240 (i : Instr) : LaidOut argumentAddress (argumentAddress + 240) (argumentFields i) :=
  (laidOut_argumentFields i).mono (by simp)

/-- An unknown code is refused before the part state is looked at. -/
theorem answersOnly_unknownCommand {s : State} {code : Half} (takes : s.TakesCommands) :
    AnswersOnly (.unknownCommand code) s .badArgument 240 :=
  answersOnly_of_refused takes rfl nofun (laidOut_arguments_240 _) rfl

/-- Settles O30: each command's plan looks at its ranges before anything else but, in OPERATING, the state of the lane that
CONFIGURE LANE names. -/
theorem commandWithABadArgument : Obligations.CommandWithABadArgument := by
  intro i s takes taken bad
  have taken : takenInPart i s.part = true := (takenInPart_eq_takenIn i s.part).trans taken
  have answered (command : (commandCode i).isSome = true) (other : i ≠ .restart) (unparked : ∀ pace, i ≠ .park pace)
      (known : ∀ code, i ≠ .unknownCommand code)
      (work : commandWork i (s.inProgress i) = (s.inProgress i).answerWith .badArgument) :
      AnswersOnly i s .badArgument 240 :=
    answersOnly_of_work takes command other unparked (laidOut_arguments_240 i) taken known work
  have absent (code : Byte) (h : s.NamesNoLane code) : (s.inProgress i).namedLane code = none := by
    rw [State.inProgress_namedLane, State.namedLane_none h]
  rcases bad with ⟨day, minute, second, pace, rfl, range⟩ | ⟨x, rfl, open_, range⟩ | ⟨x, pace, rfl, range⟩
    | ⟨x, pace, rfl, range⟩ | ⟨account, state, pace, rfl, range⟩ | ⟨threshold, pace, rfl, range⟩ | ⟨lane, id, rfl, range⟩
    | ⟨lane, rfl | rfl, range⟩ | ⟨offset, rfl, range⟩ | ⟨code, rfl, -⟩
  · exact answered rfl nofun nofun nofun (setDatePlan_bad (by simpa using range))
  · refine answered rfl nofun nofun nofun (configureLanePlan_bad (by simpa using open_) ?_)
    have split : (s.NamesNoLane x.lane) ∨ LaneArguments.OutOfRange x := by
      rcases range with beyond | absent | range
      · exact .inl (.inl beyond)
      · exact .inl (.inr absent)
      · exact .inr range
    simpa [State.NamesNoLane] using split
  · exact answered rfl nofun nofun nofun (installLicencePlan_bad range)
  · exact answered rfl nofun nofun nofun (applyVoucherPlan_bad range)
  · exact answered rfl nofun nofun nofun (setAccountPlan_bad range)
  · exact answered rfl nofun nofun nofun (setFundsAlertPlan_bad range)
  · exact answered rfl nofun nofun nofun (openBatchPlan_bad (absent lane range))
  · exact answered rfl nofun nofun nofun (closeBatchPlan_bad (absent lane range))
  · exact answered rfl nofun nofun nofun (resumeLanePlan_bad (absent lane range))
  · exact answered rfl nofun nofun nofun (setPostdatePlan_bad range)
  · exact answersOnly_unknownCommand takes

/-! ### A voucher refused (R141) -/

theorem applyVoucherPlan_refused {x : VoucherArguments} {licence : Licence} {status : Status} {s : State}
    (licensed : s.items.licence = some licence) (nonzero : x.amount ≠ 0) (range : x.amount.toNat ≤ 99999999)
    (refused : voucherRefusal s.items licence x = some status) : applyVoucherPlan x s = s.answerWith status := by
  have inRange : ¬ (x.amount = 0 ∨ 99999999 < x.amount.toNat) := not_or.mpr ⟨nonzero, not_lt.mpr range⟩
  simp only [applyVoucherPlan, if_neg inRange, licensed, refused]

/-- Settles O39: the checks are made in R141's order, so each case fixes the refusal. -/
theorem voucherRefusedAtItsFirstFailedCheck : Obligations.VoucherRefusedAtItsFirstFailedCheck := by
  intro x pace licence status s takes part licensed nonzero range meter word inOrder within fails
  have refused : voucherRefusal s.items licence x = some status := by
    change x.meterId.toNat ≠ licence.meterId ∧ status = .checkFailed
      ∨ x.meterId.toNat = licence.meterId ∧ x.check ≠ crc32 (voucherMessage x licence.seed) ∧ status = .checkFailed
      ∨ x.meterId.toNat = licence.meterId ∧ x.check = crc32 (voucherMessage x licence.seed)
        ∧ x.serial.toNat ≠ s.items.voucherSerial + 1 ∧ status = .serialOutOfOrder
      ∨ x.meterId.toNat = licence.meterId ∧ x.check = crc32 (voucherMessage x licence.seed)
        ∧ x.serial.toNat = s.items.voucherSerial + 1 ∧ ¬ (s.items.descending + x.amount.toNat ≤ licence.maximumFunds
          ∧ s.items.credit + x.amount.toNat ≤ largestMoney) ∧ status = .limitExceeded at fails
    unfold voucherRefusal
    rcases fails with ⟨m, rfl⟩ | ⟨m, w, rfl⟩ | ⟨m, w, o, rfl⟩ | ⟨m, w, o, b, rfl⟩
    · exact if_pos m
    · rw [if_neg (not_not.mpr m), if_pos w]
    · rw [if_neg (not_not.mpr m), if_neg (not_not.mpr w), if_pos o]
    · rw [not_and_or, not_le, not_le] at b
      rw [if_neg (not_not.mpr m), if_neg (not_not.mpr w), if_neg (not_not.mpr o), if_pos b]
  exact answersOnly_of_work takes rfl nofun nofun (laidOut_applyVoucher x pace) (takenInPart_applyVoucher part) nofun
    (applyVoucherPlan_refused (by simpa using licensed) nonzero range (by simpa using refused))

end Sys2Proof.Machine
end

section
/-! SUPPORT. The commands that set something of the part at their post and ask for no whole update: CLOSE SETUP, SET POSTDATE,
CONFIGURE LANE, OPEN BATCH, CLOSE BATCH, RESUME LANE and LOAD RATES (R27, R48, R97, R164, R165, R168, R174, R178). -/

namespace Sys2Proof.Machine

/-- A command whose work is done at its post. -/
theorem exec_of_work_done {i : Instr} {s t : State} (takes : s.TakesCommands) (command : (commandCode i).isSome = true)
    (other : i ≠ .restart) (unparked : ∀ pace, i ≠ .park pace) (known : ∀ code, i ≠ .unknownCommand code)
    (taken : takenInPart i s.part = true) (work : commandWork i (s.inProgress i) = .done t) : exec i s = .next t.flush :=
  exec_of_command_done takes command other (refusalAtPost_of_taken taken known unparked)
    ((commandPlan_of_taken (by simpa using taken)).trans work)

/-- One that touches no group of the status block leaves it alone. -/
theorem exec_of_work_clean {i : Instr} {s t : State} (takes : s.TakesCommands) (command : (commandCode i).isSome = true)
    (other : i ≠ .restart) (unparked : ∀ pace, i ≠ .park pace) (known : ∀ code, i ≠ .unknownCommand code)
    (taken : takenInPart i s.part = true) (work : commandWork i (s.inProgress i) = .done t)
    (clean : t.dirty = s.dirty) : exec i s = .next t := by
  rw [exec_of_work_done takes command other unparked known taken work, flush_clean (clean.trans takes.1.2.2)]

theorem partCode_lt (part : PartState) : partCode part < 256 := by cases part <;> decide

/-- The status block shows a part state newly entered (R5). -/
theorem readField_flush_setPart {u : State} {part : PartState} (started : part ≠ .start) :
    (u.setPart part).flush.readField 0x03 1 = partCode part := by
  have field : Field.mk 0x03 1 (partCode part) ∈ dirtyFields (u.setPart part) := by
    simp [dirtyFields, State.setPart, State.touchPart, partFields]
  exact (readField_flush started field).trans (Nat.mod_eq_of_lt (partCode_lt part))

/-- The rewrite of the status block leaves a completion as it is. -/
theorem State.Completed.flush {u : State} {status : Status} (h : u.Completed status) : u.flush.Completed status := by
  obtain ⟨shown, free, raised⟩ := h
  exact ⟨((unchangedOutside_flush u).readField (by simp) (by decide)).trans shown, by simpa using free, by simpa using raised⟩

/-- So does what changes neither memory nor the command nor a cause. -/
theorem State.Completed.of_mem {u t : State} {status : Status} (h : u.Completed status) (mem : t.mem = u.mem)
    (powerOns : t.powerOns = u.powerOns) (order : t.order = u.order) (command : t.command = u.command)
    (notices : t.notices = u.notices) : t.Completed status := by
  obtain ⟨shown, free, raised⟩ := h
  exact ⟨(readField_of_mem mem powerOns order _ _).trans shown, command.trans free, by rwa [notices]⟩

theorem completed_flush_setPart_complete (u : State) (status : Status) (part : PartState) :
    ((u.complete status).setPart part).flush.Completed status :=
  ((completed_complete u status).of_mem (t := (u.complete status).setPart part) rfl rfl rfl rfl rfl).flush

/-! ### CLOSE SETUP and SET POSTDATE (R174, R178) -/

theorem exec_closeSetup {s : State} (takes : s.TakesCommands) (setup : s.part = .setup) :
    exec .closeSetup s = .next (((s.inProgress .closeSetup).complete .done).setPart .operating).flush :=
  exec_of_work_done takes rfl nofun nofun nofun (by rw [setup]; rfl) rfl

theorem flush_closeSetup_eq {s : State} (takes : s.TakesCommands) :
    (((s.inProgress .closeSetup).complete .done).setPart .operating).flush
      = { s with
          mem := (((s.inProgress .closeSetup).complete .done).setPart .operating).flush.mem
          generation := (((s.inProgress .closeSetup).complete .done).setPart .operating).flush.generation
          notices := s.notices.raise .commandDone, part := .operating } := by
  refine (flush_eq _).trans ?_
  generalize (((s.inProgress .closeSetup).complete .done).setPart .operating).flush = t
  rw [State.setPart, State.touchPart, complete_inProgress_eq takes, ← takes.1.2.2]

/-- A command without arguments lays only its code. -/
theorem unchangedOutside_inProgress_bare (s : State) {i : Instr} (bare : argumentFields i = []) :
    UnchangedOutside [codeAndStatus] s (s.inProgress i) := by
  have laid : LaidOut argumentAddress (argumentAddress + 0) (argumentFields i) := by rw [bare]; exact le_rfl
  intro a outside
  refine unchangedOutside_inProgress s laid a fun range hr => ?_
  rcases List.mem_pair.mp hr with rfl | rfl
  · exact outside _ List.mem_cons_self
  · exact fun inside => absurd inside.2 (not_lt.mpr inside.1)

theorem unchangedOutside_closeSetup (s : State) :
    UnchangedOutside [statusBlock, codeAndStatus] s
      (((s.inProgress .closeSetup).complete .done).setPart .operating).flush :=
  ((unchangedOutside_inProgress_bare s rfl).mono (by simp)).trans
    (((unchangedOutside_complete _ .done).mono (by simp)).trans ((UnchangedOutside.of_mem _ rfl rfl).trans
      ((unchangedOutside_flush _).mono (by simp))))

/-- Settles O33: both commands are done at their post, and only CLOSE SETUP touches a group of the status block. -/
theorem closeSetupAndSetPostdate : Obligations.CloseSetupAndSetPostdate := by
  refine ⟨fun s takes setup => ?_, fun offset s takes operating range => ?_⟩
  · exact ⟨_, exec_closeSetup takes setup, completed_flush_setPart_complete _ _ _, readField_flush_setPart nofun,
      flush_closeSetup_eq takes, unchangedOutside_closeSetup s⟩
  · have laid : LaidOut argumentAddress (argumentAddress + 1) (argumentFields (.setPostdate offset)) := ⟨le_rfl, le_rfl⟩
    have done : setPostdatePlan offset.toNat (s.inProgress (.setPostdate offset)) = .done _ := if_neg (not_lt.mpr range)
    refine ⟨_, exec_of_work_clean takes rfl nofun nofun nofun (by rw [operating]; rfl) done (by simp),
      completed_complete _ _, ?_,
      (unchangedOutside_inProgress s laid).trans ((UnchangedOutside.of_mem _ rfl rfl).trans
        ((unchangedOutside_complete _ .done).mono (by simp)))⟩
    obtain ⟨-, free⟩ := takes
    rw [State.complete_eq]
    generalize (State.complete _ _).mem = m
    rw [State.inProgress_eq, ← free]

end Sys2Proof.Machine
end

section
/-! SUPPORT. The lane commands at their post: CONFIGURE LANE, OPEN BATCH, CLOSE BATCH, RESUME LANE (R27, R48, R164, R165, R168). -/

namespace Sys2Proof.Machine

/-- The lane's tracker changed by a command that then completes. -/
theorem complete_onTracker_eq {s : State} (takes : s.TakesCommands) (i : Instr) (lane : Lane) (f : Tracker → Tracker)
    (status : Status) :
    ((s.inProgress i).onTracker lane f).complete status
      = { s with mem := (((s.inProgress i).onTracker lane f).complete status).mem,
                 notices := s.notices.raise .commandDone, lanes := s.lanes.set lane (f (s.tracker lane)) } := by
  obtain ⟨-, free⟩ := takes
  rw [State.complete_eq]
  generalize (State.complete ((s.inProgress i).onTracker lane f) status).mem = m
  rw [State.onTracker, State.setTracker, State.inProgress_tracker, State.inProgress_eq, ← free]

/-- A command that touches no memory before it completes writes only the command block. -/
theorem unchangedOutside_complete_inProgress {s u : State} {i : Instr} {size : Nat} (status : Status)
    (laid : LaidOut argumentAddress (argumentAddress + size) (argumentFields i)) (mem : u.mem = (s.inProgress i).mem)
    (powerOns : u.powerOns = (s.inProgress i).powerOns) :
    UnchangedOutside [codeAndStatus, argumentsOf size] s (u.complete status) :=
  (unchangedOutside_inProgress s laid).trans ((UnchangedOutside.of_mem _ mem powerOns).trans
    ((unchangedOutside_complete u status).mono (by simp)))

/-! ### CONFIGURE LANE (R48) -/

theorem configureLanePlan_of_lane {x : LaneArguments} {lane : Lane} {s : State}
    (named : laneOfCode x.lane.toNat = some lane) :
    configureLanePlan x s =
      if s.part = .operating ∧ (s.tracker lane).state ≠ .stopped then s.answerWith .refusedState
      else if s.present lane && LaneArguments.inRange x then
        .done ((s.onTracker lane (fun t => { t with config := configOf x })).complete .done)
      else s.answerWith .badArgument := by
  simp only [configureLanePlan, named]

theorem laidOut_configureLane (x : LaneArguments) :
    LaidOut argumentAddress (argumentAddress + 11) (argumentFields (.configureLane x)) :=
  ⟨le_rfl, le_rfl, le_rfl, le_rfl, le_rfl, le_rfl, le_rfl, le_rfl, le_rfl⟩

theorem takenInPart_configureLane {x : LaneArguments} {part : PartState} (open_ : part = .setup ∨ part = .operating) :
    takenInPart (.configureLane x) part = true := by
  rcases open_ with rfl | rfl <;> rfl

/-- Settles O32: the lane's state decides first, and with every item in range all are set together. -/
theorem configureLaneSetsEveryItem : Obligations.ConfigureLaneSetsEveryItem := by
  intro x lane s takes named present open_ stopped
  have taken := takenInPart_configureLane (x := x) open_
  have plan := configureLanePlan_of_lane (s := s.inProgress (.configureLane x)) named
  simp only [State.inProgress_frame, State.inProgress_tracker, State.inProgress_present, present, Bool.true_and] at plan
  refine ⟨fun still entry rate print window timer link => ?_, fun moving => ?_⟩
  · have still : ¬ (s.part = .operating ∧ (s.tracker lane).state ≠ .stopped) := by
      rintro ⟨operating, other⟩
      exact still.elim (fun setup => by cases operating.symm.trans setup) other
    rw [if_neg still, if_pos ((LaneArguments.inRange_iff x).mpr ⟨entry, rate, print, window, timer, link⟩)] at plan
    exact ⟨_, exec_of_work_clean takes rfl nofun nofun nofun taken plan (by simp), completed_complete _ _,
      complete_onTracker_eq takes _ lane _ .done,
      unchangedOutside_complete_inProgress .done (laidOut_configureLane x) rfl rfl⟩
  · obtain ⟨notSetup, notStopped⟩ := not_or.mp moving
    rw [if_pos ⟨open_.resolve_left notSetup, notStopped⟩] at plan
    exact answersOnly_of_work takes rfl nofun nofun (laidOut_configureLane x) taken nofun plan

/-! ### OPEN BATCH (R164) -/

theorem openBatchPlan_of_lane {code : Byte} {id : Nat} {lane : Lane} {s : State} (named : s.namedLane code = some lane) :
    openBatchPlan code id s =
      if (s.tracker lane).batch.state = .none then
        .done ((s.onTracker lane (fun t => { t with batch := Batch.begin id s.calendar.stamp })).complete .done)
      else s.answerWith .refusedState := by
  simp only [openBatchPlan, named]

theorem laidOut_openBatch (code : Byte) (id : BitVec 32) :
    LaidOut argumentAddress (argumentAddress + 8) (argumentFields (.openBatch code id)) := by
  simp [argumentFields, argumentField, LaidOut]

/-- Settles O45: the batch's state decides. -/
theorem openBatchOpensARecord : Obligations.OpenBatchOpensARecord := by
  intro code lane id s takes operating named present none_
  have taken : takenInPart (.openBatch code id) s.part = true := by rw [operating]; rfl
  have plan := openBatchPlan_of_lane (id := id.toNat) (s := s.inProgress (.openBatch code id))
    ((s.inProgress_namedLane _ code).trans (State.namedLane_some named present))
  rw [State.inProgress_tracker] at plan
  by_cases unused : (s.tracker lane).batch.state = .none
  · rw [if_pos unused] at plan
    refine ⟨_, exec_of_work_clean takes rfl nofun nofun nofun taken plan (by simp),
      unchangedOutside_complete_inProgress .done (laidOut_openBatch code id) rfl rfl,
      fun _ => ⟨completed_complete _ _, (complete_onTracker_eq takes _ lane _ .done).trans ?_⟩,
      fun used => absurd unused used⟩
    generalize (State.complete _ _).mem = m
    simp only [State.inProgress_frame]
    rfl
  · rw [if_neg unused] at plan
    have refused : AnswersOnly (.openBatch code id) s .refusedState 8 :=
      answersOnly_of_work takes rfl nofun nofun (laidOut_openBatch code id) taken nofun plan
    obtain ⟨t, run, completed, record, bytes⟩ := refused
    exact ⟨t, run, bytes, fun h => absurd h unused, fun _ => ⟨completed, record⟩⟩

/-! ### RESUME LANE (R27) -/

theorem resumeLanePlan_of_lane {code : Byte} {lane : Lane} {s : State} (named : s.namedLane code = some lane) :
    resumeLanePlan code s =
      if (s.tracker lane).state = .halted then
        .done ((((s.onTracker lane (fun t => { t with state := .running, haltCause := none })).onLink lane
          (fun k => { k with faults := 0 })).touchLane lane).complete .done)
      else s.answerWith .refusedState := by
  simp only [resumeLanePlan, named]

theorem laidOut_resumeLane (code : Byte) :
    LaidOut argumentAddress (argumentAddress + 1) (argumentFields (.resumeLane code)) := ⟨le_rfl, le_rfl⟩

/-- A HALTED lane made RUNNING with its halt cause and its link's fault count cleared. -/
def State.resumed (s : State) (lane : Lane) : State :=
  (((s.onTracker lane (fun t => { t with state := .running, haltCause := none })).onLink lane
    (fun k => { k with faults := 0 })).touchLane lane).complete .done

theorem State.touchLane_eq (s : State) (lane : Lane) : s.touchLane lane = { s with dirty := (s.touchLane lane).dirty } := by
  cases lane <;> rfl

theorem State.resumed_eq (s : State) (lane : Lane) :
    s.resumed lane =
      { s with
        mem := (s.resumed lane).mem, command := none, notices := s.notices.raise .commandDone
        dirty := (s.resumed lane).dirty
        lanes := s.lanes.set lane { s.tracker lane with state := .running, haltCause := none }
        links := s.links.set lane { s.link lane with faults := 0 } } := by
  unfold State.resumed
  rw [State.complete_eq]
  generalize (State.complete _ _).mem = m
  rw [State.touchLane_eq]
  rfl

theorem flush_resumed_eq {s : State} (takes : s.TakesCommands) (i : Instr) (lane : Lane) :
    ((s.inProgress i).resumed lane).flush =
      { s with
        mem := ((s.inProgress i).resumed lane).flush.mem
        generation := ((s.inProgress i).resumed lane).flush.generation, notices := s.notices.raise .commandDone
        lanes := s.lanes.set lane { s.tracker lane with state := .running, haltCause := none }
        links := s.links.set lane { s.link lane with faults := 0 } } := by
  obtain ⟨⟨-, -, clean⟩, free⟩ := takes
  refine (flush_eq _).trans ?_
  generalize ((s.inProgress i).resumed lane).flush = t
  rw [State.resumed_eq, State.inProgress_tracker, State.inProgress_link, State.inProgress_eq, ← clean, ← free]

theorem unchangedOutside_flush_resumed (s : State) (lane : Lane) :
    UnchangedOutside [statusBlock, codeAndStatus] s (s.resumed lane).flush := by
  have completes : UnchangedOutside [codeAndStatus] s (s.resumed lane) :=
    (UnchangedOutside.of_mem _ (by simp) (by simp)).trans (unchangedOutside_complete _ .done)
  exact (completes.mono (by simp)).trans ((unchangedOutside_flush _).mono (by simp))

/-- The lane's group of the status block shows RUNNING (R5). -/
theorem readField_flush_resumed {s : State} {lane : Lane} (started : s.part ≠ .start) (present : s.present lane = true) :
    (s.resumed lane).flush.readField (laneGroup lane) 1 = laneStateCode .running := by
  have marked : (s.resumed lane).dirty = (s.touchLane lane).dirty := by
    unfold State.resumed
    cases lane <;> simp [State.touchLane]
  have running : ((s.resumed lane).tracker lane).state = .running := by
    rw [State.resumed_eq]
    simp [State.tracker]
  have field : Field.mk (laneGroup lane) 1 (laneStateCode .running) ∈ laneFields (laneGroup lane) ((s.resumed lane).tracker lane) := by
    rw [laneFields, running]
    simp
  have part : (s.resumed lane).part ≠ .start := by rwa [State.resumed_eq]
  exact readField_flush part (laneFields_subset_dirtyFields present marked field)

/-- Settles O47: the lane's state decides, and a lane resumed is shown RUNNING. -/
theorem resumeLaneRunsAHaltedLane : Obligations.ResumeLaneRunsAHaltedLane := by
  intro code lane s takes operating named present halted
  have taken : takenInPart (.resumeLane code) s.part = true := by rw [operating]; rfl
  have plan := resumeLanePlan_of_lane (s := s.inProgress (.resumeLane code))
    ((s.inProgress_namedLane _ code).trans (State.namedLane_some named present))
  rw [State.inProgress_tracker] at plan
  by_cases stuck : (s.tracker lane).state = .halted
  · rw [if_pos stuck] at plan
    have shown := readField_flush_resumed (s := s.inProgress (.resumeLane code)) (lane := lane) (by simp [operating])
      (by simpa using present)
    refine ⟨_, exec_of_work_done takes rfl nofun nofun nofun taken plan,
      ((unchangedOutside_inProgress s (laidOut_resumeLane code)).mono (by simp)).trans
        ((unchangedOutside_flush_resumed _ lane).mono (by simp)), fun _ => ?_, fun moving => absurd stuck moving⟩
    exact ⟨(completed_complete _ .done).flush, shown, flush_resumed_eq takes _ lane⟩
  · rw [if_neg stuck] at plan
    have refused : AnswersOnly (.resumeLane code) s .refusedState 1 :=
      answersOnly_of_work takes rfl nofun nofun (laidOut_resumeLane code) taken nofun plan
    obtain ⟨t, run, completed, record, bytes⟩ := refused
    exact ⟨t, run, bytes.mono (by simp), fun h => absurd h stuck, fun _ => ⟨completed, record⟩⟩

/-! ### CLOSE BATCH (R165, R168) -/

theorem closeBatchPlan_of_lane {code : Byte} {lane : Lane} {s : State} (named : s.namedLane code = some lane) :
    closeBatchPlan code s =
      if (s.tracker lane).batch.state = .opened then
        .done (((s.onTracker lane (fun t => { t with batch := { t.batch with state := .closing } })).endBatch lane).complete
          .done)
      else s.answerWith .refusedState := by
  simp only [closeBatchPlan, named]

theorem laidOut_closeBatch (code : Byte) :
    LaidOut argumentAddress (argumentAddress + 1) (argumentFields (.closeBatch code)) := ⟨le_rfl, le_rfl⟩

/-- A batch with pieces in flight does not end. -/
theorem State.endBatch_inFlight {s : State} {lane : Lane} (flying : (s.tracker lane).batch.inFlight ≠ 0) :
    s.endBatch lane = s := if_neg fun ⟨_, empty⟩ => flying empty

/-- A CLOSING batch with nothing in flight ends. -/
theorem State.endBatch_closing {s : State} {lane : Lane} (closing : (s.tracker lane).batch.state = .closing)
    (empty : (s.tracker lane).batch.inFlight = 0) :
    s.endBatch lane =
      ((s.writeFields (summaryFields lane (s.tracker lane).batch s.calendar.stamp)).raise .batchDone).onTracker lane
        (fun t => { t with batch := { t.batch with state := .none } }) := if_pos ⟨closing, empty⟩

theorem laidOut_optionField (address width : Nat) (value : Option Nat) :
    LaidOut address (address + width) (optionField address width value) := by
  cases value with
  | none => exact Nat.le_add_right _ _
  | some n => exact ⟨le_rfl, le_rfl⟩

/-- The fields of a batch summary up to its sequence numbers (11.7). -/
def summaryHead (base : Nat) (lane : Lane) (batch : Batch) (closed : Stamp) : List Field :=
  [⟨base, 1, laneCode lane⟩, ⟨base + 0x01, 1, flagCode batch.first.isSome⟩, ⟨base + 0x02, 1, flagCode batch.opened.valid⟩,
    ⟨base + 0x03, 1, flagCode closed.valid⟩, ⟨base + 0x04, 4, batch.id⟩, ⟨base + 0x08, 2, batch.opened.day⟩,
    ⟨base + 0x0A, 2, batch.opened.minute⟩, ⟨base + 0x0C, 2, closed.day⟩, ⟨base + 0x0E, 2, closed.minute⟩,
    ⟨base + 0x10, 4, batch.entered⟩, ⟨base + 0x14, 4, batch.franked⟩, ⟨base + 0x18, 4, batch.diverted⟩,
    ⟨base + 0x1C, 4, batch.spoiled⟩, ⟨base + 0x20, 4, batch.jammed⟩, ⟨base + 0x24, 6, batch.postage⟩,
    ⟨base + 0x2A, 1, flagCode batch.overflow⟩]

/-- Its two sequence numbers. -/
def summarySequences (base : Nat) (batch : Batch) : List Field :=
  optionField (base + 0x2C) 4 batch.first ++ optionField (base + 0x30) 4 batch.last

/-- The two runs of bytes that chapter 11 does not name are written before them. -/
theorem summaryFields_eq (lane : Lane) (batch : Batch) (closed : Stamp) :
    summaryFields lane batch closed =
      ⟨summaryAddress lane + 0x2B, 1, 0⟩ :: ⟨summaryAddress lane + 0x34, 12, 0⟩
        :: (summaryHead (summaryAddress lane) lane batch closed ++ summarySequences (summaryAddress lane) batch) := by
  simp only [summaryFields, summaryHead, summarySequences, List.cons_append, List.nil_append]

theorem laidOut_summaryHead (base : Nat) (lane : Lane) (batch : Batch) (closed : Stamp) :
    LaidOut base (base + 0x2B) (summaryHead base lane batch closed) := by
  simp [summaryHead, LaidOut, Nat.add_assoc]

theorem laidOut_summarySequences (base : Nat) (batch : Batch) :
    LaidOut (base + 0x2C) (base + 0x34) (summarySequences base batch) :=
  (laidOut_optionField (base + 0x2C) 4 _).append (laidOut_optionField (base + 0x30) 4 _)

theorem summaryFields_apart (lane : Lane) (batch : Batch) (closed : Stamp) :
    (summaryFields lane batch closed).Pairwise Field.Apart := by
  have head := laidOut_summaryHead (summaryAddress lane) lane batch closed
  have sequences := laidOut_summarySequences (summaryAddress lane) batch
  have both := head.append (sequences.of_le (by omega))
  rw [summaryFields_eq]
  refine .cons (fun f hf => ?_) (.cons (fun f hf => .inr (both.within hf).2) both.apart)
  rcases List.mem_cons.mp hf with rfl | hf
  · exact .inl (by simp)
  · rcases List.mem_append.mp hf with hf | hf
    · exact .inr (head.within hf).2
    · exact .inl (sequences.within hf).1

theorem summaryFields_within {lane : Lane} {batch : Batch} {closed : Stamp} {f : Field}
    (hf : f ∈ summaryFields lane batch closed) :
    summaryAddress lane ≤ f.address ∧ f.address + f.width ≤ summaryAddress lane + 64 := by
  have both := (laidOut_summaryHead (summaryAddress lane) lane batch closed).append
    ((laidOut_summarySequences (summaryAddress lane) batch).of_le (by omega))
  rw [summaryFields_eq] at hf
  rcases List.mem_cons.mp hf with rfl | hf
  · exact ⟨Nat.le_add_right _ _, by simp [Nat.add_assoc]⟩
  rcases List.mem_cons.mp hf with rfl | hf
  · exact ⟨Nat.le_add_right _ _, by simp [Nat.add_assoc]⟩
  · have := both.within hf
    omega

/-- Memory that holds a batch summary shows it. -/
theorem showsSummary_of_fields {t : State} {lane : Lane} {b : Batch} {closed : Stamp}
    (shown : ∀ f ∈ summaryFields lane b closed, t.readField f.address f.width = f.value % 256 ^ f.width) :
    t.ShowsSummary lane b closed := by
  have head (f : Field) (hf : f ∈ summaryHead (summaryAddress lane) lane b closed) :
      t.readField f.address f.width = f.value % 256 ^ f.width :=
    shown f (by rw [summaryFields_eq]; simp [hf])
  have flag (b : Bool) : flagCode b % 256 ^ 1 = if b then 1 else 0 := by cases b <;> rfl
  have code : laneCode lane % 256 ^ 1 = laneCode lane := by cases lane <;> rfl
  simp only [summaryHead, List.forall_mem_cons, flag, code] at head
  obtain ⟨lane, first, openedValid, closedValid, id, openedDay, openedMinute, closedDay, closedMinute, entered, franked,
    diverted, spoiled, jammed, postage, overflow, -⟩ := head
  refine ⟨lane, first, openedValid, closedValid, id, openedDay, openedMinute, closedDay, closedMinute, entered, franked,
    diverted, spoiled, jammed, postage, overflow, fun seq given => ?_, fun seq given => ?_⟩
  · exact shown ⟨_, 4, seq⟩ (by rw [summaryFields_eq]; simp [summarySequences, given, optionField])
  · exact shown ⟨_, 4, seq⟩ (by rw [summaryFields_eq]; simp [summarySequences, given, optionField])

/-- The lane's batch made CLOSING. -/
def State.batchClosing (s : State) (lane : Lane) : State :=
  s.onTracker lane (fun t => { t with batch := { t.batch with state := .closing } })

/-- A batch closed with nothing in flight: its summary written and its record NONE. -/
def State.batchEnded (s : State) (lane : Lane) : State :=
  ((s.writeFields (summaryFields lane (s.tracker lane).batch s.calendar.stamp)).raise .batchDone).onTracker lane
    (fun t => { t with batch := { t.batch with state := .none } })

theorem State.endBatch_batchClosing {s : State} {lane : Lane} (empty : (s.tracker lane).batch.inFlight = 0) :
    (s.batchClosing lane).endBatch lane = s.batchEnded lane := by
  rw [State.endBatch_closing (by simp [State.batchClosing]) (by simpa [State.batchClosing] using empty)]
  cases lane <;> rfl

theorem complete_batchEnded_eq {s : State} (takes : s.TakesCommands) (i : Instr) (lane : Lane) :
    ((s.inProgress i).batchEnded lane).complete .done
      = { s with
          mem := (((s.inProgress i).batchEnded lane).complete .done).mem
          notices := (s.notices.raise .batchDone).raise .commandDone
          lanes := s.lanes.set lane { s.tracker lane with batch := { (s.tracker lane).batch with state := .none } } } := by
  obtain ⟨-, free⟩ := takes
  rw [State.complete_eq]
  generalize (State.complete ((s.inProgress i).batchEnded lane) .done).mem = m
  rw [State.batchEnded, State.inProgress_tracker, State.inProgress_eq, ← free]
  rfl

theorem unchangedOutside_batchEnded (s : State) (lane : Lane) :
    UnchangedOutside [(summaryAddress lane, 64)] s (s.batchEnded lane) := by
  refine ((unchangedOutside_writeFields s _).mono fun r hr => ?_).trans (.of_mem _ rfl rfl)
  obtain ⟨f, hf, rfl⟩ := List.mem_map.mp hr
  exact ⟨_, List.mem_cons_self, summaryFields_within hf⟩

theorem summaryAddress_ge (lane : Lane) : 0x0200 ≤ summaryAddress lane := by cases lane <;> simp [summaryAddress]

theorem showsSummary_complete_batchEnded (s : State) (lane : Lane) :
    ((s.batchEnded lane).complete .done).ShowsSummary lane (s.tracker lane).batch s.calendar.stamp := by
  refine showsSummary_of_fields fun f hf => ?_
  have above := (summaryFields_within hf).1
  have base := summaryAddress_ge lane
  calc ((s.batchEnded lane).complete .done).readField f.address f.width
      = (s.batchEnded lane).readField f.address f.width :=
        (unchangedOutside_complete _ .done).readField rfl (by simp [codeAndStatus]; omega)
    _ = (s.writeFields (summaryFields lane (s.tracker lane).batch s.calendar.stamp)).readField f.address f.width :=
        readField_of_mem (s := s.writeFields (summaryFields lane (s.tracker lane).batch s.calendar.stamp))
          (t := s.batchEnded lane) rfl rfl rfl _ _
    _ = f.value % 256 ^ f.width := readField_writeFields_of_mem s (summaryFields_apart _ _ _) hf

/-- Settles O46: the batch's state decides, and of an OPEN one its pieces in flight. -/
theorem closeBatchClosesOrEnds : Obligations.CloseBatchClosesOrEnds := by
  intro code lane s takes operating named present b
  have taken : takenInPart (.closeBatch code) s.part = true := by rw [operating]; rfl
  have plan := closeBatchPlan_of_lane (s := s.inProgress (.closeBatch code))
    ((s.inProgress_namedLane _ code).trans (State.namedLane_some named present))
  rw [State.inProgress_tracker] at plan
  have laid := laidOut_closeBatch code
  by_cases opened : b.state = .opened
  · rw [if_pos opened] at plan
    change _ = Plan.done ((((s.inProgress (.closeBatch code)).batchClosing lane).endBatch lane).complete .done) at plan
    by_cases empty : b.inFlight = 0
    · rw [State.endBatch_batchClosing (by simpa using empty)] at plan
      have summary := showsSummary_complete_batchEnded (s.inProgress (.closeBatch code)) lane
      simp only [State.inProgress_tracker, State.inProgress_frame] at summary
      refine ⟨_, exec_of_work_clean takes rfl nofun nofun nofun taken plan (by simp [State.batchEnded]), fun _ flying => ?_,
        fun _ _ => ⟨completed_complete _ _, complete_batchEnded_eq takes _ lane, summary, ?_⟩, fun h => absurd opened h⟩
      · exact absurd empty flying.ne'
      · exact ((unchangedOutside_inProgress s laid).mono (by simp)).trans
          (((unchangedOutside_batchEnded _ lane).mono (by simp)).trans
            ((unchangedOutside_complete _ .done).mono (by simp)))
    · rw [State.endBatch_inFlight (by simpa [State.batchClosing] using empty)] at plan
      refine ⟨_, exec_of_work_clean takes rfl nofun nofun nofun taken plan (by simp [State.batchClosing]), fun _ _ => ?_,
        fun _ h => absurd h empty, fun h => absurd opened h⟩
      exact ⟨completed_complete _ _, complete_onTracker_eq takes _ lane _ .done,
        unchangedOutside_complete_inProgress .done laid rfl rfl⟩
  · rw [if_neg opened] at plan
    have refused : AnswersOnly (.closeBatch code) s .refusedState 1 :=
      answersOnly_of_work takes rfl nofun nofun laid taken nofun plan
    obtain ⟨t, run, completed, record, bytes⟩ := refused
    exact ⟨t, run, fun h => absurd h opened, fun h => absurd h opened, fun _ => ⟨completed, record, bytes⟩⟩

end Sys2Proof.Machine
end

section
/-! SUPPORT. LOAD RATES taken, and the end of its validation: a failure, a refusal of the commit, and the commit (R97, R98,
R102, R103, R106). -/

namespace Sys2Proof.Machine

/-! ### The load report (11.5) -/

/-- The fields of a load report that name a record. -/
def loadReportRecord (r : LoadReport) : List Field :=
  optionField (loadReportAddress + 2) 2 r.area ++ (optionField (loadReportAddress + 4) 1 r.cls
    ++ (optionField (loadReportAddress + 5) 1 r.format ++ (optionField (loadReportAddress + 6) 1 r.priceBreak
      ++ optionField (loadReportAddress + 7) 1 r.service)))

/-- All its fields: step and presence, the bytes that 11.5 does not name, and the record. -/
def loadReportFields (r : LoadReport) : List Field :=
  ⟨loadReportAddress, 1, r.step⟩ :: ⟨loadReportAddress + 1, 1, r.presence⟩ :: ⟨loadReportAddress + 8, 4, 0⟩
    :: loadReportRecord r

theorem State.writeLoadReport_eq (s : State) (r : LoadReport) : s.writeLoadReport r = s.writeFields (loadReportFields r) := by
  simp only [State.writeLoadReport, loadReportFields, loadReportRecord, List.cons_append, List.nil_append,
    List.append_assoc]

theorem laidOut_loadReportRecord (r : LoadReport) :
    LaidOut (loadReportAddress + 2) (loadReportAddress + 8) (loadReportRecord r) :=
  (laidOut_optionField _ 2 _).append ((laidOut_optionField _ 1 _).append ((laidOut_optionField _ 1 _).append
    ((laidOut_optionField _ 1 _).append (laidOut_optionField _ 1 _))))

theorem loadReportFields_apart (r : LoadReport) : (loadReportFields r).Pairwise Field.Apart := by
  have record := laidOut_loadReportRecord r
  refine .cons (fun f hf => .inl ?_) (.cons (fun f hf => .inl ?_) (.cons (fun f hf => .inr (record.within hf).2) record.apart))
  · rcases List.mem_cons.mp hf with rfl | hf
    · exact le_rfl
    rcases List.mem_cons.mp hf with rfl | hf
    · simp [loadReportAddress]
    · exact le_trans (by simp [loadReportAddress]) (record.within hf).1
  · rcases List.mem_cons.mp hf with rfl | hf
    · simp [loadReportAddress]
    · exact (record.within hf).1

theorem loadReportFields_within {r : LoadReport} {f : Field} (hf : f ∈ loadReportFields r) :
    loadReportAddress ≤ f.address ∧ f.address + f.width ≤ loadReportAddress + 12 := by
  rcases List.mem_cons.mp hf with rfl | hf
  · simp
  rcases List.mem_cons.mp hf with rfl | hf
  · simp [loadReportAddress]
  rcases List.mem_cons.mp hf with rfl | hf
  · simp
  · have := (laidOut_loadReportRecord r).within hf
    omega

theorem unchangedOutside_writeLoadReport (s : State) (r : LoadReport) :
    UnchangedOutside [loadReportBytes] s (s.writeLoadReport r) := by
  rw [State.writeLoadReport_eq]
  refine (unchangedOutside_writeFields s _).mono fun range hr => ?_
  obtain ⟨f, hf, rfl⟩ := List.mem_map.mp hr
  exact ⟨_, List.mem_cons_self, loadReportFields_within hf⟩

/-- A load report written beside the status reads back field by field. -/
theorem readField_complete_writeLoadReport (s : State) (r : LoadReport) (status : Status) {f : Field}
    (hf : f ∈ loadReportFields r) :
    ((s.writeLoadReport r).complete status).flush.readField f.address f.width = f.value % 256 ^ f.width := by
  have above := (loadReportFields_within hf).1
  simp only [loadReportAddress] at above
  calc ((s.writeLoadReport r).complete status).flush.readField f.address f.width
      = ((s.writeLoadReport r).complete status).readField f.address f.width :=
        (unchangedOutside_flush _).readField (by simp) (by simp [statusBlock]; omega)
    _ = (s.writeLoadReport r).readField f.address f.width :=
        (unchangedOutside_complete _ status).readField rfl (by simp [codeAndStatus]; omega)
    _ = (s.writeFields (loadReportFields r)).readField f.address f.width := by rw [State.writeLoadReport_eq]
    _ = f.value % 256 ^ f.width := readField_writeFields_of_mem s (loadReportFields_apart r) hf

theorem flagBit_eq (b : Bool) (n : Nat) : flagBit b n = if b then 2 ^ n else 0 := by cases b <;> simp [flagBit]

theorem LoadReport.presence_eq (r : LoadReport) :
    LoadReport.presence r = (if r.area.isSome then 1 else 0) + (if r.cls.isSome then 2 else 0)
      + (if r.format.isSome then 4 else 0) + (if r.priceBreak.isSome then 8 else 0)
      + (if r.service.isSome then 16 else 0) := by
  simp [LoadReport.presence, flagBit_eq]

theorem LoadReport.presence_lt (r : LoadReport) : LoadReport.presence r < 256 := by
  rw [LoadReport.presence_eq]
  split_ifs <;> omega

/-! ### LOAD RATES taken (R97) -/

theorem readField_writeStatus (s : State) (status : Status) :
    (s.writeStatus status).readField statusAddress 2 = statusCode status :=
  (readField_writeFields s [] [] ⟨statusAddress, 2, statusCode status⟩ (by simp)).trans
    (Nat.mod_eq_of_lt (statusCode_lt status))

/-- A command in progress shows IN_PROGRESS (R181). -/
theorem readField_inProgress (s : State) (i : Instr) :
    (s.inProgress i).readField statusAddress 2 = statusCode .inProgress := readField_writeStatus _ _

theorem State.inactiveUse_eq (s : State) : s.inactiveUse = s.useCounts.get s.items.activeBank.other := rfl

theorem takenInPart_loadRates {part : PartState} (open_ : part = .setup ∨ part = .operating) :
    takenInPart .loadRates part = true := by
  rcases open_ with rfl | rfl <;> rfl

/-- A load report written as a command completes. -/
theorem complete_writeLoadReport_eq {s : State} (takes : s.TakesCommands) (i : Instr) (r : LoadReport) (status : Status) :
    ((s.inProgress i).writeLoadReport r).complete status
      = { s with mem := (((s.inProgress i).writeLoadReport r).complete status).mem
                 notices := s.notices.raise .commandDone } := by
  obtain ⟨-, free⟩ := takes
  rw [State.complete_eq]
  generalize (State.complete _ _).mem = m
  rw [State.writeLoadReport, State.writeFields, State.inProgress_eq, ← free]

/-- Settles O35: the use count of the inactive bank decides. -/
theorem loadRatesBeginsOrIsBusy : Obligations.LoadRatesBeginsOrIsBusy := by
  intro s takes open_ bound
  have taken := takenInPart_loadRates open_
  have use : (s.inProgress .loadRates).inactiveUse = bound := by simp [State.inactiveUse_eq, bound]
  have laid := unchangedOutside_inProgress_bare s (i := .loadRates) rfl
  refine ⟨fun unbound => ?_, fun bound_ => ?_⟩
  · have plan : loadRatesPlan (s.inProgress .loadRates) = .done _ := if_neg (by omega)
    refine ⟨_, exec_of_work_clean takes rfl nofun nofun nofun taken plan (by simp), ?_, ?_,
      laid.trans (.of_mem _ rfl rfl)⟩
    · calc State.readField _ statusAddress 2
          = (s.inProgress .loadRates).readField statusAddress 2 := readField_of_mem rfl rfl rfl _ _
        _ = statusCode .inProgress := readField_inProgress s _
    · rw [State.inProgress_eq]
  · have plan : loadRatesPlan (s.inProgress .loadRates) = .done _ := if_pos (by omega)
    have shown := fun f hf => readField_complete_writeLoadReport (s.inProgress .loadRates) (LoadReport.bare 0) .refusedBusy
      (f := f) hf
    have clean : (((s.inProgress .loadRates).writeLoadReport (LoadReport.bare 0)).complete .refusedBusy).dirty = s.dirty := by
      simp
    rw [flush_clean (clean.trans takes.1.2.2)] at shown
    exact ⟨_, exec_of_work_clean takes rfl nofun nofun nofun taken plan clean, completed_complete _ _,
      shown ⟨loadReportAddress, 1, 0⟩ (by simp [loadReportFields, LoadReport.bare]),
      shown ⟨loadReportAddress + 1, 1, 0⟩ (by simp [loadReportFields, LoadReport.bare, LoadReport.presence, flagBit_eq]),
      complete_writeLoadReport_eq takes _ _ _,
      (laid.mono (by simp)).trans (((unchangedOutside_writeLoadReport _ _).mono (by simp)).trans
        ((unchangedOutside_complete _ _).mono (by simp)))⟩

/-! ### What a validation has read (R98) -/

/-- Bytes read ahead of a validation are the bytes it would find. -/
theorem State.stagingByte_append (s : State) (copy : List Byte) (n : Nat) :
    s.stagingByte (copy ++ s.readBytes (stagingAddress + copy.length) n) = s.stagingByte copy := by
  funext offset
  unfold State.stagingByte
  by_cases inCopy : offset < copy.length
  · rw [List.getElem?_append_left inCopy]
  · rw [not_lt] at inCopy
    rw [List.getElem?_append_right inCopy, List.getElem?_eq_none inCopy]
    by_cases read : offset - copy.length < n
    · have read : offset - copy.length < (s.readBytes (stagingAddress + copy.length) n).length := by
        rwa [length_readBytes]
      rw [List.getElem?_eq_getElem read, getElem_readBytes _ _ _ _ read]
      exact congrArg s.readByte (by omega)
    · rw [List.getElem?_eq_none (by rw [length_readBytes]; omega)]

theorem State.validateImage_congr {s t : State} {copy more : List Byte} (order : t.order = s.order)
    (bytes : t.stagingByte more = s.stagingByte copy) : t.validateImage more = s.validateImage copy := by
  have length : t.imageLength more = s.imageLength copy := by simp only [State.imageLength, order, bytes]
  simp only [State.validateImage, length, order, bytes]

/-- What the end of a validation has read. -/
def State.imageRead (s : State) (load : LoadRecord) : List Byte :=
  load.copy ++ s.readBytes (stagingAddress + load.copy.length) (s.imageEnd load.copy - load.copy.length)

theorem State.readImage_eq {s : State} {load : LoadRecord} (loading : s.load = some load) :
    s.readImage = { s with load := some { copy := s.imageRead load } } := by
  simp only [State.readImage, loading]
  rfl

theorem State.validateImage_imageRead (s : State) (load : LoadRecord) :
    State.validateImage { s with load := some { copy := s.imageRead load } } (s.imageRead load)
      = s.validateImage load.copy :=
  State.validateImage_congr rfl (s.stagingByte_append load.copy _)

/-! ### How a validation fails (R98 to R101) -/

/-- A check that fails with BAD_ARGUMENT. -/
def FailsBadly {α : Type} (r : Except LoadFailure α) : Prop := ∀ failure, r = .error failure → failure.status = .badArgument

theorem failsBadly_ok {α : Type} (x : α) : FailsBadly (.ok x : Except LoadFailure α) := nofun

theorem failsBadly_error {α : Type} (report : LoadReport) :
    FailsBadly (.error { status := .badArgument, report := report } : Except LoadFailure α) := by
  rintro _ ⟨⟩
  rfl

theorem failsBadly_walkFormat (order : BusOrder) (cls number : Nat) (xs : List Byte) :
    FailsBadly (walkFormat order cls number xs) := by
  unfold walkFormat
  dsimp only
  repeat' split
  all_goals first | exact failsBadly_error _ | exact failsBadly_ok _

theorem failsBadly_walkFormats (order : BusOrder) (cls n number : Nat) (xs : List Byte) :
    FailsBadly (walkFormats order cls n number xs) := by
  induction n generalizing number xs with
  | zero => exact failsBadly_ok _
  | succ n ih =>
    unfold walkFormats
    split
    case h_1 failure failed =>
      rintro _ ⟨⟩
      exact failsBadly_walkFormat _ _ _ _ _ failed
    case h_2 f rest _ =>
      split
      case h_1 failure failed =>
        rintro _ ⟨⟩
        exact ih _ _ _ failed
      case h_2 => exact failsBadly_ok _

theorem failsBadly_walkClass (order : BusOrder) (cls : Nat) (xs : List Byte) : FailsBadly (walkClass order cls xs) := by
  unfold walkClass
  split
  · exact failsBadly_error _
  · dsimp only
    split
    · exact failsBadly_error _
    · split
      case h_1 failure failed =>
        rintro _ ⟨⟩
        exact failsBadly_walkFormats _ _ _ _ _ _ failed
      case h_2 => exact failsBadly_ok _

theorem failsBadly_walkClasses (order : BusOrder) (n cls : Nat) (xs : List Byte) :
    FailsBadly (walkClasses order n cls xs) := by
  induction n generalizing cls xs with
  | zero => exact failsBadly_ok _
  | succ n ih =>
    unfold walkClasses
    split
    case h_1 failure failed =>
      rintro _ ⟨⟩
      exact failsBadly_walkClass _ _ _ _ failed
    case h_2 =>
      split
      case h_1 failure failed =>
        rintro _ ⟨⟩
        exact ih _ _ _ failed
      case h_2 => exact failsBadly_ok _

theorem failsBadly_walkImage (order : BusOrder) (image : List Byte) : FailsBadly (walkImage order image) := by
  unfold walkImage
  dsimp only
  split
  · exact failsBadly_error _
  split
  · exact failsBadly_error _
  split
  case h_1 failure failed =>
    rintro _ ⟨⟩
    exact failsBadly_walkClasses _ _ _ _ _ failed
  case h_2 =>
    split
    · exact failsBadly_ok _
    · exact failsBadly_error _

theorem failsBadly_validateRecords (order : BusOrder) (image : List Byte) : FailsBadly (validateRecords order image) := by
  unfold validateRecords
  split
  case h_1 failure failed =>
    rintro _ ⟨⟩
    exact failsBadly_walkImage _ _ _ failed
  case h_2 =>
    repeat' split
    all_goals first | exact failsBadly_error _ | exact failsBadly_ok _

/-- A failed validation completes with BAD_ARGUMENT, or with CHECK_FAILED at its check word. -/
theorem State.validateImage_status {s : State} {copy : List Byte} {failure : LoadFailure}
    (failed : s.validateImage copy = .error failure) : failure.status = .badArgument ∨ failure.status = .checkFailed := by
  unfold State.validateImage at failed
  dsimp only at failed
  split_ifs at failed
  · exact .inl (failsBadly_error _ _ failed)
  · exact .inl (failsBadly_validateRecords _ _ _ failed)
  · cases failed
    exact .inr rfl

/-! ### The end of a validation (R102, R103) -/

theorem exec_loadRatesCompletion {s : State} (ready : s.Ready) (pace : Pace) :
    exec (.loadRatesCompletion pace) s = .next ((loadRatesCompletionPlan s.readImage).carryOut pace).flush := by
  obtain ⟨supply, idle, -⟩ := ready
  rw [exec_effect supply]
  exact congrArg (fun t => Host.Outcome.next t.flush) (State.loadRatesCompletion_idle idle pace)

/-- A load that ends with a report and a status. -/
def State.loadEnded (s : State) (r : LoadReport) (status : Status) : State :=
  (State.writeLoadReport { s with load := none } r).complete status

theorem loadRatesCompletionPlan_failed {s : State} {load : LoadRecord} {failure : LoadFailure}
    (loading : s.load = some load) (failed : s.validateImage load.copy = .error failure) :
    loadRatesCompletionPlan s.readImage = .done (s.loadEnded failure.report failure.status) := by
  have failed := (s.validateImage_imageRead load).trans failed
  rw [State.readImage_eq loading]
  simp only [loadRatesCompletionPlan, failed]
  rfl

theorem loadRatesCompletionPlan_busy {s : State} {load : LoadRecord} {bank : Bank} (loading : s.load = some load)
    (passed : s.validateImage load.copy = .ok bank) (bound : 0 < s.inactiveUse) :
    loadRatesCompletionPlan s.readImage = .done (s.loadEnded (LoadReport.bare 0) .refusedBusy) := by
  have passed := (s.validateImage_imageRead load).trans passed
  have bound : 0 < State.inactiveUse { s with load := some { copy := s.imageRead load } } := bound
  rw [State.readImage_eq loading]
  simp only [loadRatesCompletionPlan, passed, if_pos bound]
  rfl

theorem State.loadEnded_eq (s : State) (r : LoadReport) (status : Status) :
    s.loadEnded r status =
      { s with mem := (s.loadEnded r status).mem, command := none, load := none,
               notices := s.notices.raise .commandDone } := rfl

theorem unchangedOutside_complete_status (s : State) (status : Status) :
    UnchangedOutside [(statusAddress, 2)] s (s.complete status) :=
  (unchangedOutside_writeFields s [⟨statusAddress, 2, statusCode status⟩]).trans (.of_mem _ rfl rfl)

theorem unchangedOutside_loadEnded (s : State) (r : LoadReport) (status : Status) :
    UnchangedOutside [(statusAddress, 2), loadReportBytes] s (s.loadEnded r status) :=
  (UnchangedOutside.of_mem (t := { s with load := none }) _ rfl rfl).trans
    (((unchangedOutside_writeLoadReport _ r).mono (by simp)).trans ((unchangedOutside_complete_status _ status).mono (by simp)))

/-- A load that ends without a commit changes no group of the status block. -/
theorem exec_of_loadEnded {s : State} {r : LoadReport} {status : Status} {pace : Pace} (ready : s.Ready)
    (plan : loadRatesCompletionPlan s.readImage = .done (s.loadEnded r status)) :
    exec (.loadRatesCompletion pace) s = .next (s.loadEnded r status) := by
  have clean : (s.loadEnded r status).dirty = Groups.none := by
    rw [State.loadEnded_eq]
    exact ready.2.2
  rw [exec_loadRatesCompletion ready, plan]
  exact congrArg _ (flush_clean clean)

theorem readField_loadEnded {s : State} (clean : s.dirty = Groups.none) (r : LoadReport) (status : Status) {f : Field}
    (hf : f ∈ loadReportFields r) : (s.loadEnded r status).readField f.address f.width = f.value % 256 ^ f.width := by
  have shown := readField_complete_writeLoadReport { s with load := none } r status hf
  have clean : (s.loadEnded r status).dirty = Groups.none := by rwa [State.loadEnded_eq]
  change (s.loadEnded r status).flush.readField f.address f.width = _ at shown
  rwa [flush_clean clean] at shown

/-- Settles O36: the end of a validation that fails is a refused load, whatever its pace. -/
theorem failedLoadChangesNoBank : Obligations.FailedLoadChangesNoBank := by
  intro pace s load failure ready loading failed
  have shown := fun f hf => readField_loadEnded ready.2.2 failure.report failure.status (f := f) hf
  have record (f : Field) (hf : f ∈ loadReportRecord failure.report) : f ∈ loadReportFields failure.report := by
    simp [loadReportFields, hf]
  refine ⟨_, exec_of_loadEnded ready (loadRatesCompletionPlan_failed loading failed), completed_complete _ _,
    State.validateImage_status failed, shown ⟨loadReportAddress, 1, _⟩ (by simp [loadReportFields]), ?_, ?_, ?_, ?_, ?_, ?_,
    State.loadEnded_eq _ _ _, unchangedOutside_loadEnded _ _ _⟩
  · refine Eq.trans ?_ (LoadReport.presence_eq _)
    exact (shown ⟨loadReportAddress + 1, 1, LoadReport.presence failure.report⟩ (by simp [loadReportFields])).trans
      (Nat.mod_eq_of_lt (LoadReport.presence_lt _))
  · exact fun n given => shown ⟨_, 2, n⟩ (record _ (by simp [loadReportRecord, given, optionField]))
  · exact fun n given => shown ⟨_, 1, n⟩ (record _ (by simp [loadReportRecord, given, optionField]))
  · exact fun n given => shown ⟨_, 1, n⟩ (record _ (by simp [loadReportRecord, given, optionField]))
  · exact fun n given => shown ⟨_, 1, n⟩ (record _ (by simp [loadReportRecord, given, optionField]))
  · exact fun n given => shown ⟨_, 1, n⟩ (record _ (by simp [loadReportRecord, given, optionField]))

/-! ### The commit (R103, R106) -/

/-- A bank's instant has come (R103). -/
def State.instantCome (s : State) (bank : Bank) : Bool :=
  s.calendar.valid && s.calendar.reached bank.effectiveDay bank.effectiveMinute

theorem loadRatesCompletionPlan_commits {s : State} {load : LoadRecord} {bank : Bank} (loading : s.load = some load)
    (passed : s.validateImage load.copy = .ok bank) (unbound : s.inactiveUse = 0) :
    loadRatesCompletionPlan s.readImage =
      .update (.commit (s.instantCome bank)) (s.items.commitBank bank (s.instantCome bank))
        { s with load := some { copy := s.imageRead load } } := by
  have passed := (s.validateImage_imageRead load).trans passed
  have unbound : ¬ 0 < State.inactiveUse { s with load := some { copy := s.imageRead load } } := by
    change ¬ 0 < s.inactiveUse
    omega
  rw [State.readImage_eq loading]
  simp only [loadRatesCompletionPlan, passed, if_neg unbound]
  rfl

/-- The image in its place: the update made, the banks group marked, and RATE_SWITCH raised for an active bank. -/
def State.commitPlaced (s : State) (bank : Bank) (now : Bool) : State :=
  let s := State.touchBanks { s.makeUpdate (.commit now) (s.items.commitBank bank now) with load := none }
  if now then s.raise .rateSwitch else s

/-- A commit made and its load completed, the status block not yet rewritten. -/
def State.committed (s : State) (bank : Bank) (now : Bool) : State :=
  ((s.commitPlaced bank now).writeLoadReport (LoadReport.bare 0)).complete .done

theorem State.after_commit (s : State) (bank : Bank) (now : Bool) :
    (s.makeUpdate (.commit now) (s.items.commitBank bank now)).after (.commit now) = s.committed bank now := rfl

theorem State.commitPlaced_eq (s : State) (bank : Bank) (now : Bool) :
    s.commitPlaced bank now =
      { s with
        load := none, dirty := { s.dirty with banks := true }
        notices := if now then s.notices.raise .rateSwitch else s.notices
        store := { items := s.items.commitBank bank now, latch := s.store.latch || false
                   check := (s.items.commitBank bank now).checkWord, record := .empty }
        inStore := none } := by
  unfold State.commitPlaced
  dsimp only
  split <;> rfl

theorem State.committed_eq (s : State) (bank : Bank) (now : Bool) :
    s.committed bank now =
      { s with
        mem := (s.committed bank now).mem, command := none, load := none, dirty := { s.dirty with banks := true }
        notices := (if now then s.notices.raise .rateSwitch else s.notices).raise .commandDone
        store := { items := s.items.commitBank bank now, latch := s.store.latch || false
                   check := (s.items.commitBank bank now).checkWord, record := .empty }
        inStore := none } := by
  unfold State.committed
  rw [State.complete_eq]
  generalize (State.complete _ _).mem = m
  rw [State.writeLoadReport, State.writeFields, State.commitPlaced_eq]

theorem flush_committed_eq {s : State} (ready : s.Ready) (loading : Option LoadRecord) (bank : Bank) (now : Bool) :
    (State.committed { s with load := loading } bank now).flush =
      { s with
        mem := (State.committed { s with load := loading } bank now).flush.mem
        generation := (State.committed { s with load := loading } bank now).flush.generation
        notices := (if now then s.notices.raise .rateSwitch else s.notices).raise .commandDone, command := none
        load := none
        store := { items := s.items.commitBank bank now, latch := s.store.latch || false
                   check := (s.items.commitBank bank now).checkWord, record := .empty } } := by
  obtain ⟨-, idle, clean⟩ := ready
  refine (flush_eq _).trans ?_
  generalize (State.committed { s with load := loading } bank now).flush = t
  rw [State.committed_eq, ← clean, ← idle]
  rfl

theorem unchangedOutside_flush_committed (s : State) (bank : Bank) (now : Bool) :
    UnchangedOutside [statusBlock, (statusAddress, 2), loadReportBytes] s (s.committed bank now).flush := by
  have placed : UnchangedOutside [] s (s.commitPlaced bank now) := by
    rw [State.commitPlaced_eq]
    exact .of_mem _ rfl rfl
  exact (placed.mono (by simp)).trans (((unchangedOutside_writeLoadReport _ _).mono (by simp)).trans
    (((unchangedOutside_complete_status _ .done).mono (by simp)).trans ((unchangedOutside_flush _).mono (by simp))))

theorem Items.commitBank_banks (x : Items) (bank : Bank) (now : Bool) :
    x.commitBank bank now = { x with banks := (x.commitBank bank now).banks } := by cases now <;> rfl

theorem Items.commitBank_target (x : Items) (bank : Bank) (now : Bool) :
    (x.commitBank bank now).banks.get x.activeBank.other = { bank with role := if now then .active else .pending } := by
  cases now <;> cases active : x.activeBank <;> simp [Items.commitBank, active, BankId.other, PerBank.set, PerBank.get]

theorem Items.commitBank_other (x : Items) (bank : Bank) (now : Bool) :
    (x.commitBank bank now).banks.get x.activeBank.other.other =
      if now then { x.banks.get x.activeBank.other.other with role := .spare }
      else x.banks.get x.activeBank.other.other := by
  cases now <;> cases active : x.activeBank <;> simp [Items.commitBank, active, BankId.other, PerBank.set, PerBank.get]

theorem exec_loadRatesCompletion_commits {s : State} {load : LoadRecord} {bank : Bank} (ready : s.Ready)
    (loading : s.load = some load) (passed : s.validateImage load.copy = .ok bank) (unbound : s.inactiveUse = 0) :
    exec (.loadRatesCompletion .made) s
      = .next (State.committed { s with load := some { copy := s.imageRead load } } bank (s.instantCome bank)).flush := by
  rw [exec_loadRatesCompletion ready, loadRatesCompletionPlan_commits loading passed unbound, ← State.after_commit]
  rfl

/-- Settles O38: the use count of the inactive bank decides whether an image that passed is committed. -/
theorem commitPutsTheImageInTheInactiveBank : Obligations.CommitPutsTheImageInTheInactiveBank := by
  constructor
  · intro s load bank ready loading passed unbound target now
    have run : exec (.loadRatesCompletion .made) s
        = .next (State.committed { s with load := some { copy := s.imageRead load } } bank now).flush :=
      exec_loadRatesCompletion_commits ready loading passed unbound
    have shown := readField_complete_writeLoadReport
      (State.commitPlaced { s with load := some { copy := s.imageRead load } } bank now) (LoadReport.bare 0) .done
      (f := ⟨loadReportAddress, 1, 0⟩) (by simp [loadReportFields, LoadReport.bare])
    have frame := flush_committed_eq ready (some { copy := s.imageRead load }) bank now
    have bytes := unchangedOutside_flush_committed { s with load := some { copy := s.imageRead load } } bank now
    have completed : (State.committed { s with load := some { copy := s.imageRead load } } bank now).flush.Completed .done :=
      (completed_complete _ _).flush
    change (State.committed { s with load := some { copy := s.imageRead load } } bank now).flush.readField _ _ = _ at shown
    refine ⟨_, run, completed, shown, ?_, ?_, ?_, ?_, ?_, ?_, (UnchangedOutside.of_mem _ rfl rfl).trans bytes⟩
    · rw [frame]
      exact Items.commitBank_banks _ _ _
    · rw [frame]
      exact Items.commitBank_target _ _ _
    · rw [frame]
      exact Items.commitBank_other _ _ _
    · rw [frame]
      rfl
    · rw [frame]
      cases now <;> rfl
    · rw [frame]
  · intro pace s load bank ready loading passed bound
    have shown := fun f hf => readField_loadEnded ready.2.2 (LoadReport.bare 0) .refusedBusy (f := f) hf
    exact ⟨_, exec_of_loadEnded ready (loadRatesCompletionPlan_busy loading passed bound), completed_complete _ _,
      shown ⟨loadReportAddress, 1, 0⟩ (by simp [loadReportFields, LoadReport.bare]),
      shown ⟨loadReportAddress + 1, 1, 0⟩ (by simp [loadReportFields, LoadReport.bare, LoadReport.presence, flagBit_eq]),
      State.loadEnded_eq _ _ _, unchangedOutside_loadEnded _ _ _⟩

end Sys2Proof.Machine
end

section
/-! SUPPORT. The commands whose whole update is made at their post: INSTALL LICENCE, SET ACCOUNT, SET FUNDS ALERT and CLOSE PERIOD
(R122, R125, R127, R128, R139), and the accounts report (R123, R124). -/

namespace Sys2Proof.Machine

/-- The store with new values in their places (R133). -/
def Store.holding (store : Store) (values : Items) : Store :=
  { items := values, latch := store.latch || false, check := values.checkWord, record := .empty }

/-- A command's whole update made as it is taken. -/
theorem exec_of_work_update {i : Instr} {s t : State} {work : Work} {values : Items} (takes : s.TakesCommands)
    (command : (commandCode i).isSome = true) (other : i ≠ .restart) (unparked : ∀ pace, i ≠ .park pace)
    (known : ∀ code, i ≠ .unknownCommand code) (taken : takenInPart i s.part = true) (now : beginsLater i = false)
    (made : paceOf i = .made) (plan : commandWork i (s.inProgress i) = .update work values t) :
    exec i s = .next ((t.makeUpdate work values).after work).flush :=
  exec_of_command_update takes command other (refusalAtPost_of_taken taken known unparked) now made
    ((commandPlan_of_taken (by simpa using taken)).trans plan)

theorem State.inProgress_base (s : State) (i : Instr) :
    s.inProgress i = { s with mem := (s.inProgress i).mem, command := (s.inProgress i).command } := by
  have command : (s.inProgress i).command = some i := by simp
  rw [command]
  exact s.inProgress_eq i

/-- What a command in progress changes with a whole update that only completes it. -/
theorem complete_makeUpdate_eq {s u : State} (takes : s.TakesCommands) {work : Work} (values : Items)
    (keeps : work.setsLatch = false) (base : u = { s with mem := u.mem, command := u.command }) :
    (u.makeUpdate work values).complete .done =
      { s with
        mem := ((u.makeUpdate work values).complete .done).mem, notices := s.notices.raise .commandDone
        store := Store.holding s.store values } := by
  obtain ⟨⟨-, idle, -⟩, free⟩ := takes
  rw [State.complete_eq]
  generalize (State.complete (u.makeUpdate work values) .done).mem = m
  rw [State.makeUpdate, State.place, Items.newValues, keeps, base, ← idle, ← free]
  rfl

theorem unchangedOutside_complete_makeUpdate (u : State) (work : Work) (values : Items) (status : Status) :
    UnchangedOutside [codeAndStatus] u ((u.makeUpdate work values).complete status) :=
  (UnchangedOutside.of_mem (t := u.makeUpdate work values) _ rfl rfl).trans (unchangedOutside_complete _ status)

theorem takenInPart_setAccount {account state : Byte} {pace : CommandPace} {part : PartState}
    (open_ : part = .setup ∨ part = .operating) : takenInPart (.setAccount account state pace) part = true := by
  rcases open_ with rfl | rfl <;> rfl

theorem takenInPart_setFundsAlert {threshold : BitVec 48} {pace : CommandPace} {part : PartState}
    (open_ : part = .setup ∨ part = .operating) : takenInPart (.setFundsAlert threshold pace) part = true := by
  rcases open_ with rfl | rfl <;> rfl

/-! ### SET ACCOUNT (R122) -/

theorem length_onAccount (f : Account → Account) (xs : List Account) (n : Nat) : (onAccount f xs n).length = xs.length := by
  induction xs generalizing n with
  | nil => rfl
  | cons x xs ih =>
    cases n with
    | zero => rfl
    | succ n => simp [onAccount, ih]

/-- Only the account named changes. -/
theorem getElem?_onAccount (f : Account → Account) (xs : List Account) (k n : Nat) :
    (onAccount f xs k)[n]? = if n = k then (xs[n]?).map f else xs[n]? := by
  induction xs generalizing k n with
  | nil => simp [onAccount]
  | cons x xs ih =>
    cases k with
    | zero => cases n <;> simp [onAccount]
    | succ k =>
      cases n with
      | zero => simp [onAccount]
      | succ n => simp [onAccount, ih]

theorem laidOut_setAccount (account state : Byte) (pace : CommandPace) :
    LaidOut argumentAddress (argumentAddress + 2) (argumentFields (.setAccount account state pace)) := ⟨le_rfl, le_rfl, le_rfl⟩

/-- Settles O41: the update holds the accounts with one state set, and its event only completes the command. -/
theorem setAccountSetsOneState : Obligations.SetAccountSetsOneState := by
  intro account state s takes open_ inRange code
  have plan : setAccountPlan account state (s.inProgress (.setAccount account state (.atOnce .made))) = .update _ _ _ :=
    if_pos ⟨inRange, code⟩
  have run := exec_of_work_update (i := .setAccount account state (.atOnce .made)) takes rfl nofun nofun nofun
    (takenInPart_setAccount open_) rfl rfl plan
  have frame := complete_makeUpdate_eq (work := .setAccount) takes
    ((s.inProgress (.setAccount account state (.atOnce .made))).items.setAccount account.toNat (state == 1)) rfl
    (s.inProgress_base (.setAccount account state (.atOnce .made)))
  change _ = Host.Outcome.next (State.complete _ .done).flush at run
  rw [flush_clean (by rw [frame]; exact takes.1.2.2)] at run
  refine ⟨_, run, completed_complete _ _, ?_, ?_, fun n x given => ?_, ?_, ?_,
    (unchangedOutside_inProgress s (laidOut_setAccount account state _)).trans
      ((unchangedOutside_complete_makeUpdate _ _ _ _).mono (by simp))⟩
  · rw [frame]
    simp [State.items, Store.holding, Items.setAccount]
  · rw [frame]
    simp [State.items, Store.holding, Items.setAccount, length_onAccount]
  · rw [frame]
    simp only [State.items, Store.holding, Items.setAccount, getElem?_onAccount, State.inProgress_frame] at given ⊢
    split <;> simp [given]
  · rw [frame]
    rfl
  · rw [frame]

/-! ### SET FUNDS ALERT (R127, R128) -/

theorem laidOut_setFundsAlert (threshold : BitVec 48) (pace : CommandPace) :
    LaidOut argumentAddress (argumentAddress + 6) (argumentFields (.setFundsAlert threshold pace)) := ⟨le_rfl, le_rfl⟩

/-- The low condition begins with a new threshold (R128). -/
def State.lowBegins (s : State) (threshold : Nat) : Bool :=
  decide (s.available < threshold) && !decide (s.available < s.items.alert)

/-- A threshold set and its command completed. -/
def State.alertSet (s : State) (threshold : Nat) : State :=
  (s.makeUpdate (.setAlert s.items.alert) { s.items with alert := threshold }).after (.setAlert s.items.alert)

theorem State.alertSet_eq (s : State) (threshold : Nat) :
    s.alertSet threshold =
      State.complete
        { s with
          notices := if s.lowBegins threshold then s.notices.raise .fundsLow else s.notices
          store := Store.holding s.store { s.items with alert := threshold }, inStore := none } .done := by
  unfold State.alertSet State.after State.afterSetAlert
  dsimp only
  change State.complete (if s.lowBegins threshold = true then _ else _) .done = _
  split <;> rfl

theorem alertSet_frame {s : State} (takes : s.TakesCommands) (i : Instr) (threshold : Nat) :
    (s.inProgress i).alertSet threshold =
      { s with
        mem := ((s.inProgress i).alertSet threshold).mem
        notices := (if s.lowBegins threshold then s.notices.raise .fundsLow else s.notices).raise .commandDone
        store := Store.holding s.store { s.items with alert := threshold } } := by
  obtain ⟨⟨-, idle, -⟩, free⟩ := takes
  have begins : (s.inProgress i).lowBegins threshold = s.lowBegins threshold := by simp [State.lowBegins]
  rw [State.alertSet_eq, State.complete_eq, begins]
  generalize (State.complete _ .done).mem = m
  rw [State.inProgress_items, State.inProgress_eq, ← idle, ← free]

/-- Settles O42: the update holds the new threshold, and the low condition is looked at before and after it. -/
theorem setFundsAlertSetsTheThreshold : Obligations.SetFundsAlertSetsTheThreshold := by
  intro threshold s takes open_ range begins
  have plan : setFundsAlertPlan threshold.toNat (s.inProgress (.setFundsAlert threshold (.atOnce .made))) = .update _ _ _ :=
    if_pos range
  have run : exec (.setFundsAlert threshold (.atOnce .made)) s
      = .next ((s.inProgress (.setFundsAlert threshold (.atOnce .made))).alertSet threshold.toNat).flush :=
    exec_of_work_update (i := .setFundsAlert threshold (.atOnce .made)) takes rfl nofun nofun nofun
      (takenInPart_setFundsAlert open_) rfl rfl plan
  have frame := alertSet_frame takes (.setFundsAlert threshold (.atOnce .made)) threshold.toNat
  have completed : ((s.inProgress (.setFundsAlert threshold (.atOnce .made))).alertSet threshold.toNat).Completed .done := by
    rw [State.alertSet_eq]
    exact completed_complete _ _
  have bytes : UnchangedOutside [codeAndStatus] (s.inProgress (.setFundsAlert threshold (.atOnce .made)))
      ((s.inProgress (.setFundsAlert threshold (.atOnce .made))).alertSet threshold.toNat) := by
    rw [State.alertSet_eq]
    exact (UnchangedOutside.of_mem _ rfl rfl).trans (unchangedOutside_complete _ _)
  rw [flush_clean (by rw [frame]; exact takes.1.2.2)] at run
  refine ⟨_, run, completed, ?_, ?_, ?_,
    (unchangedOutside_inProgress s (laidOut_setFundsAlert threshold _)).trans (bytes.mono (by simp))⟩
  · rw [frame]
    rfl
  · rw [frame]
    rfl
  · rw [frame]
    rfl

/-! ### INSTALL LICENCE (R131, R139) -/

theorem laidOut_installLicence (x : LicenceArguments) (pace : CommandPace) :
    LaidOut argumentAddress (argumentAddress + 24) (argumentFields (.installLicence x pace)) :=
  ⟨le_rfl, le_rfl, le_rfl, le_rfl, le_rfl, le_rfl, le_rfl⟩

/-- The licence that arguments in range spell. -/
def LicenceArguments.licence (x : LicenceArguments) : Licence :=
  { meterId := x.meterId.toNat, maximumFunds := x.maximumFunds.toNat, perPieceCap := x.perPieceCap.toNat
    interval := x.interval.toNat, seed := x.seed, firstSerial := x.firstSerial.toNat }

/-- The books that a licence starts, on the store of a state. -/
def State.installValues (s : State) (x : LicenceArguments) : Items :=
  s.items.install (LicenceArguments.licence x) (s.calendar.dayOr 0)

/-- A licence installed with its update made: the notice NONE, the funds and spoiled groups marked. -/
def State.licensed (s : State) (x : LicenceArguments) : State :=
  { s with
    notice := .none, dirty := { s.dirty with funds := true, spoiled := true }
    store := Store.holding s.store (s.installValues x), inStore := none }

/-- Its command completed and SETUP entered, the status block not yet rewritten. -/
def State.installed (s : State) (x : LicenceArguments) : State := ((s.licensed x).complete .done).setPart .setup

theorem State.after_install (s : State) (x : LicenceArguments) :
    (s.makeUpdate .install (s.installValues x)).after .install = s.installed x := rfl

theorem complete_licensed_eq {s : State} (takes : s.TakesCommands) (i : Instr) (x : LicenceArguments) :
    ((s.inProgress i).licensed x).complete .done =
      { s with
        mem := (((s.inProgress i).licensed x).complete .done).mem, notices := s.notices.raise .commandDone
        notice := .none, dirty := { s.dirty with funds := true, spoiled := true }
        store := Store.holding s.store (s.installValues x) } := by
  obtain ⟨⟨-, idle, -⟩, free⟩ := takes
  have values : (s.inProgress i).installValues x = s.installValues x := by simp [State.installValues]
  rw [State.complete_eq]
  generalize (State.complete _ _).mem = m
  rw [State.licensed, values, State.inProgress_eq, ← idle, ← free]

theorem flush_installed_eq {s : State} (takes : s.TakesCommands) (i : Instr) (x : LicenceArguments) :
    ((s.inProgress i).installed x).flush =
      { s with
        mem := ((s.inProgress i).installed x).flush.mem, generation := ((s.inProgress i).installed x).flush.generation
        notices := s.notices.raise .commandDone, part := .setup, notice := .none
        store := Store.holding s.store (s.installValues x) } := by
  refine (flush_eq _).trans ?_
  generalize ((s.inProgress i).installed x).flush = t
  rw [State.installed, State.setPart, State.touchPart, complete_licensed_eq takes, ← takes.1.2.2]

theorem completed_flush_installed (s : State) (x : LicenceArguments) : (s.installed x).flush.Completed .done :=
  completed_flush_setPart_complete _ _ _

theorem readField_flush_installed_part (s : State) (x : LicenceArguments) :
    (s.installed x).flush.readField 0x03 1 = partCode .setup := readField_flush_setPart nofun

/-- The status block shows the descending register of the new books (R5). -/
theorem readField_flush_installed_funds (s : State) (x : LicenceArguments) :
    (s.installed x).flush.readField 0x18 6 = 0 := by
  have marked : (s.installed x).dirty.funds = true := rfl
  have field : Field.mk 0x18 6 0 ∈ fundsFields (s.installed x) := List.mem_cons_self
  have started : (s.installed x).part ≠ .start := (nofun : PartState.setup ≠ .start)
  exact readField_flush started (f := ⟨0x18, 6, 0⟩) (by simp [dirtyFields, marked, field])

theorem unchangedOutside_flush_installed (s : State) (x : LicenceArguments) :
    UnchangedOutside [statusBlock, codeAndStatus] s (s.installed x).flush := by
  have completes : UnchangedOutside [codeAndStatus] s (s.installed x) :=
    (UnchangedOutside.of_mem (t := s.licensed x) _ rfl rfl).trans
      ((unchangedOutside_complete _ .done).trans (.of_mem (t := s.installed x) _ rfl rfl))
  exact (completes.mono (by simp)).trans ((unchangedOutside_flush _).mono (by simp))

theorem exec_installLicence {s : State} (takes : s.TakesCommands) (locked : s.part = .locked) {x : LicenceArguments}
    (spelled : licenceOf x = some (LicenceArguments.licence x)) :
    exec (.installLicence x (.atOnce .made)) s
      = .next ((s.inProgress (.installLicence x (.atOnce .made))).installed x).flush := by
  have plan : installLicencePlan x (s.inProgress (.installLicence x (.atOnce .made)))
      = .update .install ((s.inProgress (.installLicence x (.atOnce .made))).installValues x)
          (s.inProgress (.installLicence x (.atOnce .made))) := by
    simp only [installLicencePlan, spelled, State.installValues]
  have run := exec_of_work_update (i := .installLicence x (.atOnce .made)) takes rfl nofun nofun nofun
    (by rw [locked]; rfl) rfl rfl plan
  rwa [State.after_install] at run

/-- Settles O34: with every field in range the plan is one whole update, and the new books keep only the banks. -/
theorem installLicenceStartsTheBooks : Obligations.InstallLicenceStartsTheBooks := by
  intro x s takes locked meterId funds fundsMax cap capMax interval intervalMax serial
  have spelled : licenceOf x = some (LicenceArguments.licence x) := by
    refine if_neg ?_
    rintro (h | h | h | h | h | h | h | h)
    · exact meterId h
    · exact funds h
    · exact absurd h (not_lt.mpr fundsMax)
    · exact cap h
    · exact absurd h (not_lt.mpr capMax)
    · exact interval h
    · exact absurd h (not_lt.mpr intervalMax)
    · exact serial h
  have frame := flush_installed_eq takes (.installLicence x (.atOnce .made)) x
  have bytes := unchangedOutside_flush_installed (s.inProgress (.installLicence x (.atOnce .made))) x
  refine ⟨_, exec_installLicence takes locked spelled, completed_flush_installed _ x, ?_, ?_, ?_, ?_,
    readField_flush_installed_part _ x, readField_flush_installed_funds _ x, ?_,
    ((unchangedOutside_inProgress s (laidOut_installLicence x _)).mono (by simp)).trans (bytes.mono (by simp))⟩
  · rw [frame]
  · rw [frame]
  · rw [frame]
    rfl
  · rw [frame]
    rfl
  · rw [frame]

end Sys2Proof.Machine
end

section
/-! SUPPORT. The reports of the report area: REPORT FUNDS, READ ACCOUNTS, CLOSE PERIOD and CLAIM SPOILED (R121, R123 to R126,
R158 to R160). -/

namespace Sys2Proof.Machine

/-- A report written before its command completes reads back field by field. -/
theorem readField_complete_report {u v : State} {fs : List Field} (apart : fs.Pairwise Field.Apart) {f : Field}
    (hf : f ∈ fs) (above : 0x0104 ≤ f.address) (status : Status) (mem : v.mem = (u.writeFields fs).mem)
    (powerOns : v.powerOns = u.powerOns) (order : v.order = u.order) :
    (v.complete status).readField f.address f.width = f.value % 256 ^ f.width :=
  calc (v.complete status).readField f.address f.width
      = v.readField f.address f.width :=
        (unchangedOutside_complete v status).readField rfl (by simp [codeAndStatus]; omega)
    _ = (u.writeFields fs).readField f.address f.width := readField_of_mem mem powerOns order _ _
    _ = f.value % 256 ^ f.width := readField_writeFields_of_mem u apart hf

theorem unchangedOutside_report (u : State) {fs : List Field} {base size : Nat}
    (within : ∀ f ∈ fs, base ≤ f.address ∧ f.address + f.width ≤ base + size) :
    UnchangedOutside [(base, size)] u (u.writeFields fs) := by
  refine (unchangedOutside_writeFields u fs).mono fun r hr => ?_
  obtain ⟨f, hf, rfl⟩ := List.mem_map.mp hr
  exact ⟨_, List.mem_cons_self, within f hf⟩

theorem flagCode_mod (b : Bool) : flagCode b % 256 ^ 1 = if b then 1 else 0 := by cases b <;> rfl

/-! ### The funds report (R126, 11.8) -/

/-- The funds report after its licence fields and its presence byte. -/
def fundsRegisters (base : Nat) (s : State) : List Field :=
  [⟨base + 0x12, 6, s.items.descending⟩, ⟨base + 0x18, 6, s.items.ascending⟩, ⟨base + 0x1E, 6, s.items.credit⟩,
    ⟨base + 0x24, 4, s.items.pieceCount⟩, ⟨base + 0x28, 6, s.items.periodMark⟩, ⟨base + 0x2E, 6, s.available⟩,
    ⟨base + 0x34, 2, s.holds.length⟩, ⟨base + 0x36, 4, holdsSum s.holds⟩, ⟨base + 0x3A, 4, s.serialsLeft⟩,
    ⟨base + 0x3E, 4, s.items.voucherSerial⟩, ⟨base + 0x42, 2, s.items.voucherDay⟩]

/-- From the days since the last voucher on. -/
def fundsState (base : Nat) (s : State) : List Field :=
  optionField (base + 0x44) 2 s.daysSince ++ ([⟨base + 0x46, 1, noticeCode s.notice⟩, ⟨base + 0x47, 1, flagCode s.low⟩,
    ⟨base + 0x48, 6, s.items.alert⟩] ++ (markFields (base + 0x4E) s.items.marks.a
      ++ (markFields (base + 0x5A) s.items.marks.b
        ++ [⟨base + 0x66, 2, s.items.spoiled.length⟩, ⟨base + 0x68, 4, spoiledSum s.items.spoiled⟩])))

theorem fundsReport_eq (s : State) :
    fundsReport s =
      ⟨fundsReportAddress + 0x6C, 20, 0⟩ :: (licenceFields fundsReportAddress s.items.licence
        ++ ⟨fundsReportAddress + 0x01, 1, flagCode s.daysSince.isSome⟩
          :: (fundsRegisters fundsReportAddress s ++ fundsState fundsReportAddress s)) := by
  simp only [fundsReport, fundsRegisters, fundsState, List.cons_append, List.nil_append, List.append_assoc]

theorem laidOut_markFields (base : Nat) (mark : Option Mark) : LaidOut base (base + 12) (markFields base mark) := by
  cases mark with
  | none => exact ⟨le_rfl, by simp [LaidOut]⟩
  | some m => exact ⟨le_rfl, le_rfl, le_rfl, le_rfl, le_rfl, le_rfl⟩

theorem laidOut_fundsTail (base : Nat) (s : State) :
    LaidOut (base + 0x12) (base + 0x6C) (fundsRegisters base s ++ fundsState base s) := by
  have registers : LaidOut (base + 0x12) (base + 0x44) (fundsRegisters base s) :=
    ⟨le_rfl, le_rfl, le_rfl, le_rfl, le_rfl, le_rfl, le_rfl, le_rfl, le_rfl, le_rfl, le_rfl, le_rfl⟩
  have notice : LaidOut (base + 0x46) (base + 0x4E)
      [⟨base + 0x46, 1, noticeCode s.notice⟩, ⟨base + 0x47, 1, flagCode s.low⟩, ⟨base + 0x48, 6, s.items.alert⟩] :=
    ⟨le_rfl, le_rfl, le_rfl, le_rfl⟩
  have spoiled : LaidOut (base + 0x66) (base + 0x6C)
      [⟨base + 0x66, 2, s.items.spoiled.length⟩, ⟨base + 0x68, 4, spoiledSum s.items.spoiled⟩] := ⟨le_rfl, le_rfl, le_rfl⟩
  exact registers.append ((laidOut_optionField _ 2 _).append (notice.append
    ((laidOut_markFields _ _).append ((laidOut_markFields _ _).append spoiled))))

theorem laidOut_licenceFields (base : Nat) (licence : Option Licence) :
    LaidOut base (base + 0x12) (licenceFields base licence) := by
  cases licence with
  | none => exact ⟨le_rfl, by simp [LaidOut]⟩
  | some x => exact ⟨le_rfl, by simp, le_rfl, le_rfl, le_rfl, le_rfl⟩

/-- The licence fields leave the presence byte beside them free. -/
theorem licenceFields_apart_presence {base value : Nat} {licence : Option Licence} {f : Field}
    (hf : f ∈ licenceFields base licence) : f.Apart ⟨base + 0x01, 1, value⟩ := by
  cases licence with
  | none =>
    obtain rfl := List.mem_singleton.mp hf
    exact .inl le_rfl
  | some x =>
    rcases List.mem_cons.mp hf with rfl | hf
    · exact .inl le_rfl
    · have rest : LaidOut (base + 0x02) (base + 0x12) (licenceFields base (some x)).tail :=
        ⟨le_rfl, le_rfl, le_rfl, le_rfl, le_rfl⟩
      exact .inr (rest.within hf).1

theorem fundsReport_apart (s : State) : (fundsReport s).Pairwise Field.Apart := by
  have tail := laidOut_fundsTail fundsReportAddress s
  have licence := laidOut_licenceFields fundsReportAddress s.items.licence
  rw [fundsReport_eq]
  refine .cons (fun f hf => .inr ?_) (List.pairwise_append.mpr
    ⟨licence.apart, .cons (fun f hf => .inl (le_trans (by simp) (tail.within hf).1)) tail.apart, fun f hf g hg => ?_⟩)
  · rcases List.mem_append.mp hf with hf | hf
    · exact (licence.within hf).2.trans (by simp)
    · rcases List.mem_cons.mp hf with rfl | hf
      · simp
      · exact (tail.within hf).2
  · rcases List.mem_cons.mp hg with rfl | hg
    · exact licenceFields_apart_presence hf
    · exact .inl ((licence.within hf).2.trans (tail.within hg).1)

theorem fundsReport_within {s : State} {f : Field} (hf : f ∈ fundsReport s) :
    fundsReportAddress ≤ f.address ∧ f.address + f.width ≤ fundsReportAddress + 128 := by
  rw [fundsReport_eq] at hf
  rcases List.mem_cons.mp hf with rfl | hf
  · simp
  rcases List.mem_append.mp hf with hf | hf
  · have := (laidOut_licenceFields _ _).within hf
    omega
  rcases List.mem_cons.mp hf with rfl | hf
  · simp
  · have := (laidOut_fundsTail _ s).within hf
    omega

/-- Memory that holds a mark's fields shows the mark. -/
theorem showsMark_of_fields {t : State} {at_ : Nat} {mark : Option Mark}
    (shown : ∀ f ∈ markFields at_ mark, t.readField f.address f.width = f.value % 256 ^ f.width) : t.ShowsMark at_ mark := by
  cases mark with
  | none =>
    refine ⟨shown ⟨at_, 1, 0⟩ (by simp [markFields]), nofun⟩
  | some m =>
    simp only [markFields, List.forall_mem_cons] at shown
    obtain ⟨present, account, serial, amount, day, -⟩ := shown
    refine ⟨present, ?_⟩
    rintro x ⟨⟩
    exact ⟨account, serial, amount, day⟩

theorem noticeCode_mod (n : Notice) : noticeCode n % 256 ^ 1 = noticeCode n := by cases n <;> rfl

/-- What REPORT FUNDS shows depends on nothing in the command block. -/
theorem fundsReport_inProgress (s : State) (i : Instr) : fundsReport (s.inProgress i) = fundsReport s := by
  rw [State.inProgress_eq]
  rfl

theorem flagCode_low (s : State) : flagCode s.low % 256 ^ 1 = if s.available < s.items.alert then 1 else 0 := by
  rw [flagCode_mod, State.low]
  simp

/-- Memory that holds a funds report shows its licence. -/
theorem showsLicence_of_fields {t : State} {base : Nat} {licence : Option Licence}
    (shown : ∀ f ∈ licenceFields base licence, t.readField f.address f.width = f.value % 256 ^ f.width) :
    t.readField base 1 = (if licence.isSome then 1 else 0)
      ∧ ∀ x, licence = some x → t.readField (base + 0x02) 4 = x.meterId % 256 ^ 4
        ∧ t.readField (base + 0x06) 6 = x.maximumFunds % 256 ^ 6 ∧ t.readField (base + 0x0C) 4 = x.perPieceCap % 256 ^ 4
        ∧ t.readField (base + 0x10) 2 = x.interval % 256 ^ 2 := by
  cases licence with
  | none => exact ⟨shown ⟨base, 1, 0⟩ (by simp [licenceFields]), nofun⟩
  | some x =>
    simp only [licenceFields, List.forall_mem_cons] at shown
    obtain ⟨present, meterId, funds, cap, interval, -⟩ := shown
    refine ⟨present, ?_⟩
    rintro _ ⟨⟩
    exact ⟨meterId, funds, cap, interval⟩

/-- Settles O43: every field of the report is one of the fields written, and they lie apart. -/
theorem reportFundsShowsTheFunds : Obligations.ReportFundsShowsTheFunds := by
  intro s takes open_
  have taken : takenInPart .reportFunds s.part = true := by rcases open_ with h | h | h <;> rw [h] <;> rfl
  have plan : commandWork .reportFunds (s.inProgress .reportFunds)
      = .done (((s.inProgress .reportFunds).writeFields (fundsReport s)).complete .done) := by
    rw [← fundsReport_inProgress s .reportFunds]
    rfl
  have shown (f : Field) (hf : f ∈ fundsReport s) :
      (((s.inProgress .reportFunds).writeFields (fundsReport s)).complete .done).readField f.address f.width
        = f.value % 256 ^ f.width :=
    readField_complete_report (u := s.inProgress .reportFunds) (fundsReport_apart s) hf
      (le_trans (by simp [fundsReportAddress]) (fundsReport_within hf).1) .done rfl rfl rfl
  have bytes : UnchangedOutside [codeAndStatus, (0x0300, 128)] s
      (((s.inProgress .reportFunds).writeFields (fundsReport s)).complete .done) :=
    ((unchangedOutside_inProgress_bare s rfl).mono (by simp)).trans
      (((unchangedOutside_report _ fun f hf => fundsReport_within hf).mono (by simp [fundsReportAddress])).trans
        ((unchangedOutside_complete _ .done).mono (by simp)))
  have run := exec_of_work_clean (i := .reportFunds) takes rfl nofun nofun nofun taken plan (by simp)
  have frame : ((s.inProgress .reportFunds).writeFields (fundsReport s)).complete .done
      = { s with mem := (((s.inProgress .reportFunds).writeFields (fundsReport s)).complete .done).mem
                 notices := s.notices.raise .commandDone } := by
    rw [State.complete_eq]
    generalize (State.complete _ _).mem = m
    rw [State.writeFields, State.inProgress_eq, ← takes.2]
  have completed : (((s.inProgress .reportFunds).writeFields (fundsReport s)).complete .done).Completed .done :=
    completed_complete _ _
  generalize ((s.inProgress .reportFunds).writeFields (fundsReport s)).complete .done = t at *
  rw [fundsReport_eq] at shown
  simp only [List.forall_mem_cons, List.forall_mem_append, fundsRegisters, fundsState] at shown
  obtain ⟨-, licence, valid, ⟨descending, ascending, credit, pieces, mark, available, holds, sum, serials, voucher, day, -⟩,
    since, ⟨notice, low, alert, -⟩, markA, markB, spoiled, spoiledSum_, -⟩ := shown
  obtain ⟨present, licensed⟩ := showsLicence_of_fields licence
  refine ⟨t, run, completed, frame, present, licensed, descending, ascending, credit, pieces, mark, available, holds, sum,
    serials.trans (Nat.mod_eq_of_lt ?_), voucher, day, fun set => ?_, fun unset => ?_, notice.trans (noticeCode_mod _), alert,
    low.trans (flagCode_low s), showsMark_of_fields markA, showsMark_of_fields markB, spoiled, spoiledSum_, bytes⟩
  · simp only [State.serialsLeft, largestSerial]
    omega
  · have days : s.daysSince = some (s.calendar.day - s.items.voucherDay) := if_pos set
    rw [days] at valid since
    exact ⟨valid, since _ List.mem_cons_self⟩
  · have days : s.daysSince = none := if_neg (by simp [unset])
    rw [days] at valid
    exact valid

end Sys2Proof.Machine
end

section
/-! SUPPORT. The accounts report of READ ACCOUNTS and CLOSE PERIOD, and the spoiled report of CLAIM SPOILED (R121, R123 to R125,
R158 to R160). -/

namespace Sys2Proof.Machine

/-! ### The accounts report (R124, 11.8) -/

/-- The open bits of accounts from an account on are those from account 0, shifted. -/
theorem openBits_eq (xs : List Account) (n : Nat) : openBits xs n = 2 ^ n * openBits xs 0 := by
  induction xs generalizing n with
  | nil => rfl
  | cons x xs ih =>
    simp only [openBits]
    rw [ih (n + 1), ih (0 + 1), flagBit_eq, flagBit_eq]
    split <;> ring

theorem openBits_cons (x : Account) (xs : List Account) : openBits (x :: xs) 0 = Nat.bit x.isOpen (openBits xs 0) := by
  rw [openBits, openBits_eq xs 1, flagBit_eq, Nat.bit_val]
  cases x.isOpen <;> simp; ring

/-- The open bit of an account is at its number. -/
theorem testBit_openBits {xs : List Account} {n : Nat} {x : Account} (given : xs[n]? = some x) :
    (openBits xs 0).testBit n = x.isOpen := by
  induction xs generalizing n with
  | nil => simp at given
  | cons y ys ih =>
    rw [openBits_cons]
    cases n with
    | zero =>
      obtain rfl : y = x := by simpa using given
      exact Nat.testBit_bit_zero _ _
    | succ n => exact (Nat.testBit_bit_succ _ _ _).trans (ih (by simpa using given))

/-- The entry of each account lies ten bytes above the one before. -/
theorem mem_accountFields {base n : Nat} {xs : List Account} {x : Account} (given : xs[n]? = some x) :
    ⟨base + 10 * n, 6, x.usage⟩ ∈ accountFields base xs ∧ ⟨base + 10 * n + 6, 4, x.pieces⟩ ∈ accountFields base xs := by
  induction xs generalizing base n with
  | nil => simp at given
  | cons y ys ih =>
    cases n with
    | zero =>
      obtain rfl : y = x := by simpa using given
      simp [accountFields]
    | succ n =>
      obtain ⟨usage, pieces⟩ := ih (base := base + 10) (n := n) (by simpa using given)
      rw [show base + 10 + 10 * n = base + 10 * (n + 1) by ring] at usage pieces
      exact ⟨by simp [accountFields, usage], by simp [accountFields, pieces]⟩

theorem laidOut_accountFields (base : Nat) (xs : List Account) :
    LaidOut base (base + 10 * xs.length) (accountFields base xs) := by
  induction xs generalizing base with
  | nil => exact le_rfl
  | cons x xs ih =>
    have rest := ih (base + 10)
    rw [show base + 10 + 10 * xs.length = base + 10 * (x :: xs).length by simp; ring] at rest
    exact ⟨le_rfl, le_rfl, rest⟩

theorem laidOut_accountsReport {s : State} (kind : ReportKind) (all : s.items.accounts.length = 32) :
    LaidOut accountsReportAddress (accountsReportAddress + 348) (accountsReport s kind) := by
  have entries := laidOut_accountFields (accountsReportAddress + 28) s.items.accounts
  rw [all] at entries
  exact LaidOut.append (mid := accountsReportAddress + 28)
    ⟨le_rfl, le_rfl, le_rfl, le_rfl, le_rfl, le_rfl, le_rfl, le_rfl, le_rfl, le_rfl⟩ entries

/-- Memory that holds an accounts report shows the accounts. -/
theorem showsAccounts_of_fields {s t : State} {kind : ReportKind} {code : Nat} (code_eq : kind.code % 256 ^ 1 = code)
    (all : s.items.accounts.length = 32)
    (shown : ∀ f ∈ accountsReport s kind, t.readField f.address f.width = f.value % 256 ^ f.width) :
    s.ShowsAccounts t code := by
  simp only [accountsReport, List.forall_mem_append, List.forall_mem_cons, flagCode_mod] at shown
  obtain ⟨⟨kind_, valid, day, minute, ascending, mark, pieces, bits, -⟩, entries⟩ := shown
  refine ⟨kind_.trans code_eq, valid, day, minute, ascending, mark, pieces, fun n x given => ?_⟩
  obtain ⟨usage, count⟩ := mem_accountFields (base := accountsReportAddress + 28) given
  have inside : n < 32 := by
    rw [← all]
    exact (List.getElem?_eq_some_iff.mp given).1
  refine ⟨entries _ usage, entries _ count, ?_⟩
  have bits : t.readField 0x0396 4 = openBits s.items.accounts 0 % 256 ^ 4 := bits
  rw [bits, BitVec.getLsbD_ofNat, show (256 : Nat) ^ 4 = 2 ^ 32 by norm_num, Nat.testBit_mod_two_pow, testBit_openBits given]
  simp [inside]

theorem accountsReport_inProgress (s : State) (i : Instr) (kind : ReportKind) :
    accountsReport (s.inProgress i) kind = accountsReport s kind := by
  rw [State.inProgress_eq]
  rfl

theorem unchangedOutside_accountsReport (u : State) {s : State} (kind : ReportKind) (all : s.items.accounts.length = 32) :
    UnchangedOutside [(0x0380, 348)] u (u.writeFields (accountsReport s kind)) :=
  unchangedOutside_report u fun _ hf => (laidOut_accountsReport kind all).within hf

/-- Settles O44: the report is written from the books as they stand. -/
theorem readAccountsShowsTheAccounts : Obligations.ReadAccountsShowsTheAccounts := by
  intro s takes open_ all
  have taken : takenInPart .readAccounts s.part = true := by rcases open_ with h | h <;> rw [h] <;> rfl
  have plan : commandWork .readAccounts (s.inProgress .readAccounts)
      = .done (((s.inProgress .readAccounts).writeFields (accountsReport s .read)).complete .done) := by
    rw [← accountsReport_inProgress s .readAccounts]
    rfl
  have run := exec_of_work_clean (i := .readAccounts) takes rfl nofun nofun nofun taken plan (by simp)
  have laid := laidOut_accountsReport .read all
  refine ⟨_, run, completed_complete _ _, ?_, showsAccounts_of_fields (kind := .read) rfl all fun f hf => ?_, ?_⟩
  · rw [State.complete_eq]
    generalize (State.complete _ _).mem = m
    rw [State.writeFields, State.inProgress_eq, ← takes.2]
  · exact readField_complete_report (u := s.inProgress .readAccounts) laid.apart hf
      (le_trans (by simp [accountsReportAddress]) (laid.within hf).1) .done rfl rfl rfl
  · exact ((unchangedOutside_inProgress_bare s rfl).mono (by simp)).trans
      (((unchangedOutside_accountsReport _ .read all).mono (by simp)).trans
        ((unchangedOutside_complete _ .done).mono (by simp)))

/-! ### CLOSE PERIOD (R125) -/

theorem closePeriod_usage (x : Items) : (x.closePeriod.accounts.map Account.usage).sum = 0 := by
  simp [Items.closePeriod, List.sum_eq_zero]

/-- A report written while a command is in progress. -/
theorem State.writeFields_inProgress_base (s : State) (i : Instr) (fs : List Field) :
    (s.inProgress i).writeFields fs =
      { s with mem := ((s.inProgress i).writeFields fs).mem, command := ((s.inProgress i).writeFields fs).command } := by
  have command : ((s.inProgress i).writeFields fs).command = some i := by simp
  have written : (s.inProgress i).writeFields fs
      = { s.inProgress i with mem := ((s.inProgress i).writeFields fs).mem } := rfl
  rw [command]
  refine written.trans ?_
  generalize ((s.inProgress i).writeFields fs).mem = m
  rw [State.inProgress_eq]

/-- Settles O48: the report is written before the whole update that zeroes what it shows. -/
theorem closePeriodStartsANewPeriod : Obligations.ClosePeriodStartsANewPeriod := by
  intro s takes operating
  have plan : commandWork (.closePeriod (.atOnce .made)) (s.inProgress (.closePeriod (.atOnce .made)))
      = .update .closePeriod s.items.closePeriod
          ((s.inProgress (.closePeriod (.atOnce .made))).writeFields (accountsReport s .close)) := by
    rw [← accountsReport_inProgress s (.closePeriod (.atOnce .made)), ← s.inProgress_items (.closePeriod (.atOnce .made))]
    rfl
  have run : exec (.closePeriod (.atOnce .made)) s
      = .next (((((s.inProgress (.closePeriod (.atOnce .made))).writeFields (accountsReport s .close)).makeUpdate .closePeriod
          s.items.closePeriod).complete .done)).flush :=
    exec_of_work_update (i := .closePeriod (.atOnce .made)) takes rfl nofun nofun nofun (by rw [operating]; rfl) rfl rfl plan
  have frame := complete_makeUpdate_eq takes (work := .closePeriod) s.items.closePeriod rfl
    (s.writeFields_inProgress_base (.closePeriod (.atOnce .made)) (accountsReport s .close))
  rw [flush_clean (by rw [frame]; exact takes.1.2.2)] at run
  refine ⟨_, run, completed_complete _ _, ?_, fun n => ?_, ?_, ?_, ?_,
    fun all => ⟨showsAccounts_of_fields (kind := .close) rfl all fun f hf => ?_, ?_⟩⟩
  · rw [frame]
    rfl
  · rw [frame]
    exact List.getElem?_map ..
  · rw [frame]
    exact (closePeriod_usage s.items).trans (Nat.sub_self _).symm
  · rw [frame]
    rfl
  · rw [frame]
  · have laid := laidOut_accountsReport .close all
    exact readField_complete_report (u := s.inProgress (.closePeriod (.atOnce .made))) laid.apart hf
      (le_trans (by simp [accountsReportAddress]) (laid.within hf).1) .done rfl rfl rfl
  · exact ((unchangedOutside_inProgress_bare s rfl).mono (by simp)).trans
      (((unchangedOutside_accountsReport _ .close all).mono (by simp)).trans
        ((unchangedOutside_complete_makeUpdate _ _ _ .done).mono (by simp)))

/-! ### The spoiled report and CLAIM SPOILED (R158 to R160) -/

/-- The entries at or below a claim limit, then the others: the order of the report. -/
def Items.reported (x : Items) (limit : Nat) : List SpoiledEntry :=
  x.spoiled.filter (fun entry => decide (entry.serial ≤ limit)) ++ x.spoiled.filter (fun entry => decide (limit < entry.serial))

theorem Items.length_reported (x : Items) (limit : Nat) : (x.reported limit).length = x.spoiled.length := by
  have kept : (fun entry : SpoiledEntry => decide (limit < entry.serial))
      = fun entry => !(decide (entry.serial ≤ limit)) := by
    funext entry
    rw [← decide_not]
    exact decide_eq_decide.mpr not_le.symm
  rw [Items.reported, kept]
  exact (List.filter_append_perm _ _).length_eq

/-- Each entry lies twelve bytes above the one before. -/
theorem mem_spoiledEntryFields {base n : Nat} {xs : List SpoiledEntry} {x : SpoiledEntry} (given : xs[n]? = some x) :
    ⟨base + 12 * n, 4, x.serial⟩ ∈ spoiledEntryFields base xs
      ∧ ⟨base + 12 * n + 4, 4, x.amount⟩ ∈ spoiledEntryFields base xs
      ∧ ⟨base + 12 * n + 8, 2, x.day⟩ ∈ spoiledEntryFields base xs
      ∧ ⟨base + 12 * n + 10, 1, x.account⟩ ∈ spoiledEntryFields base xs
      ∧ ⟨base + 12 * n + 11, 1, 128 * laneCode x.lane + printResultCode x.cause⟩ ∈ spoiledEntryFields base xs := by
  induction xs generalizing base n with
  | nil => simp at given
  | cons y ys ih =>
    cases n with
    | zero =>
      obtain rfl : y = x := by simpa using given
      simp [spoiledEntryFields]
    | succ n =>
      obtain ⟨serial, amount, day, account, cause⟩ := ih (base := base + 12) (n := n) (by simpa using given)
      rw [show base + 12 + 12 * n = base + 12 * (n + 1) by ring] at serial amount day account cause
      exact ⟨by simp [spoiledEntryFields, serial], by simp [spoiledEntryFields, amount],
        by simp [spoiledEntryFields, day], by simp [spoiledEntryFields, account], by simp [spoiledEntryFields, cause]⟩

theorem spoiledCauseByte_mod (lane : Lane) (cause : PrintResult) :
    (128 * laneCode lane + printResultCode cause) % 256 ^ 1 = (if lane = .a then 0 else 128) + printResultCode cause := by
  cases lane <;> cases cause <;> rfl

theorem laidOut_spoiledReport_of_bound {s : State} (limit : Nat) (bound : s.items.spoiled.length ≤ 64) :
    LaidOut spoiledReportAddress (spoiledReportAddress + 780) (spoiledReport s limit) := by
  refine (laidOut_spoiledReport s limit).mono ?_
  have length := s.items.length_reported limit
  rw [Items.reported] at length
  rw [length]
  omega

/-- Memory that holds a spoiled report shows the list. -/
theorem showsSpoiled_of_fields {s t : State} {limit : Nat}
    (shown : ∀ f ∈ spoiledReport s limit, t.readField f.address f.width = f.value % 256 ^ f.width) :
    s.ShowsSpoiled t limit := by
  simp only [spoiledReport, List.forall_mem_append, List.forall_mem_cons, flagCode_mod] at shown
  obtain ⟨⟨limit_, day, minute, valid, claimed, kept, -, -⟩, entries⟩ := shown
  refine ⟨limit_, day, minute, valid, claimed, kept, fun n x given => ?_⟩
  obtain ⟨serial, amount, day, account, cause⟩ := mem_spoiledEntryFields (base := spoiledReportAddress + 12) given
  exact ⟨entries _ serial, entries _ amount, entries _ day, entries _ account,
    (entries _ cause).trans (spoiledCauseByte_mod _ _)⟩

theorem spoiledReport_inProgress (s : State) (i : Instr) (limit : Nat) :
    spoiledReport (s.inProgress i) limit = spoiledReport s limit := by
  rw [State.inProgress_eq]
  rfl

/-- What the report lists as claimed is what lies at or below the limit. -/
theorem Items.claim_claimed (x : Items) (limit : Nat) :
    x.claim (x.claimed limit) = { x with spoiled := x.spoiled.filter (fun entry => decide (limit < entry.serial)) } := by
  have same : x.spoiled.filter (fun entry => !(x.claimed limit).contains entry.serial)
      = x.spoiled.filter (fun entry => decide (limit < entry.serial)) := by
    refine List.filter_congr fun entry listed => ?_
    have within : (x.claimed limit).contains entry.serial = decide (entry.serial ≤ limit) := by
      have named : entry.serial ∈ x.spoiled.map SpoiledEntry.serial := List.mem_map_of_mem listed
      rw [Bool.eq_iff_iff, List.contains_iff_mem, Items.claimed, List.mem_filter]
      exact and_iff_right named
    rw [within, ← decide_not]
    exact decide_eq_decide.mpr not_le
  rw [Items.claim, same]

theorem laidOut_claimSpoiled (limit : BitVec 32) (pace : CommandPace) :
    LaidOut argumentAddress (argumentAddress + 4) (argumentFields (.claimSpoiled limit pace)) := ⟨le_rfl, le_rfl⟩

/-- Entries claimed with the update made, the spoiled group marked when one was removed. -/
def State.claimPlaced (s : State) (claimed : List Nat) : State :=
  let s := s.makeUpdate (.claim (!claimed.isEmpty)) (s.items.claim claimed)
  if !claimed.isEmpty then s.touchSpoiled else s

theorem State.claimPlaced_eq (s : State) (claimed : List Nat) :
    s.claimPlaced claimed =
      { s with
        dirty := (s.claimPlaced claimed).dirty, store := Store.holding s.store (s.items.claim claimed)
        inStore := none } := by
  unfold State.claimPlaced
  dsimp only
  split <;> rfl

theorem State.claimPlaced_mem (s : State) (claimed : List Nat) :
    (s.claimPlaced claimed).mem = s.mem ∧ (s.claimPlaced claimed).powerOns = s.powerOns
      ∧ (s.claimPlaced claimed).order = s.order := by
  rw [State.claimPlaced_eq]
  exact ⟨rfl, rfl, rfl⟩

theorem complete_claimPlaced_eq {s u : State} (takes : s.TakesCommands) (claimed : List Nat)
    (base : u = { s with mem := u.mem, command := u.command }) :
    (u.claimPlaced claimed).complete .done =
      { s with
        mem := ((u.claimPlaced claimed).complete .done).mem, notices := s.notices.raise .commandDone
        dirty := (u.claimPlaced claimed).dirty, store := Store.holding s.store (s.items.claim claimed) } := by
  obtain ⟨⟨-, idle, -⟩, free⟩ := takes
  rw [State.complete_eq]
  generalize (State.complete _ _).mem = m
  generalize dirty : (u.claimPlaced claimed).dirty = d
  rw [State.claimPlaced_eq, dirty, base, ← idle, ← free]
  rfl

theorem flush_complete_claimPlaced_eq {s u : State} (takes : s.TakesCommands) (claimed : List Nat)
    (base : u = { s with mem := u.mem, command := u.command }) :
    ((u.claimPlaced claimed).complete .done).flush =
      { s with
        mem := ((u.claimPlaced claimed).complete .done).flush.mem
        generation := ((u.claimPlaced claimed).complete .done).flush.generation
        notices := s.notices.raise .commandDone, store := Store.holding s.store (s.items.claim claimed) } := by
  refine (flush_eq _).trans ?_
  generalize ((u.claimPlaced claimed).complete .done).flush = t
  rw [complete_claimPlaced_eq takes claimed base, ← takes.1.2.2]

theorem exec_claimSpoiled {s : State} (takes : s.TakesCommands) (operating : s.part = .operating) (limit : BitVec 32) :
    exec (.claimSpoiled limit (.atOnce .made)) s
      = .next (((((s.inProgress (.claimSpoiled limit (.atOnce .made))).writeFields
          (spoiledReport s limit.toNat)).claimPlaced (s.items.claimed limit.toNat)).complete .done)).flush := by
  have plan : commandWork (.claimSpoiled limit (.atOnce .made)) (s.inProgress (.claimSpoiled limit (.atOnce .made)))
      = claimPlan (s.items.claimed limit.toNat)
          ((s.inProgress (.claimSpoiled limit (.atOnce .made))).writeFields (spoiledReport s limit.toNat)) := by
    rw [← spoiledReport_inProgress s (.claimSpoiled limit (.atOnce .made)),
      ← s.inProgress_items (.claimSpoiled limit (.atOnce .made))]
    rfl
  exact exec_of_work_update (i := .claimSpoiled limit (.atOnce .made)) takes rfl nofun nofun nofun
    (by rw [operating]; rfl) rfl rfl plan

theorem unchangedOutside_claimed {s : State} (limit : BitVec 32) (bound : s.items.spoiled.length ≤ 64) (u : State) :
    UnchangedOutside [statusBlock, codeAndStatus, argumentsOf 4, (0x04E0, 780)] u
      (((u.writeFields (spoiledReport s limit.toNat)).claimPlaced (s.items.claimed limit.toNat)).complete .done).flush := by
  have laid := laidOut_spoiledReport_of_bound limit.toNat bound
  have report : UnchangedOutside [(0x04E0, 780)] u (u.writeFields (spoiledReport s limit.toNat)) :=
    unchangedOutside_report u fun _ hf => laid.within hf
  obtain ⟨mem, powerOns, -⟩ :=
    (u.writeFields (spoiledReport s limit.toNat)).claimPlaced_mem (s.items.claimed limit.toNat)
  exact (report.mono (by simp)).trans ((UnchangedOutside.of_mem _ mem powerOns).trans
    (((unchangedOutside_complete _ .done).mono (by simp)).trans ((unchangedOutside_flush _).mono (by simp))))

/-- Settles O49: the report is written before the update that removes what it lists as claimed. -/
theorem claimSpoiledRemovesWhatItReports : Obligations.ClaimSpoiledRemovesWhatItReports := by
  intro limit s takes operating bound
  have base := s.writeFields_inProgress_base (.claimSpoiled limit (.atOnce .made)) (spoiledReport s limit.toNat)
  have frame := flush_complete_claimPlaced_eq takes (s.items.claimed limit.toNat) base
  have laid := laidOut_spoiledReport_of_bound limit.toNat bound
  refine ⟨_, exec_claimSpoiled takes operating limit, (completed_complete _ _).flush, ?_, ?_,
    showsSpoiled_of_fields fun f hf => ?_, ?_,
    ((unchangedOutside_inProgress s (laidOut_claimSpoiled limit _)).mono (by simp)).trans
      (unchangedOutside_claimed limit bound _)⟩
  · rw [frame]
    exact s.items.claim_claimed limit.toNat
  · rw [frame]
    rfl
  · have above := (laid.within hf).1
    obtain ⟨mem, powerOns, order⟩ := ((s.inProgress (.claimSpoiled limit (.atOnce .made))).writeFields
      (spoiledReport s limit.toNat)).claimPlaced_mem (s.items.claimed limit.toNat)
    refine ((unchangedOutside_flush _).readField (by simp) ?_).trans
      (readField_complete_report laid.apart hf (le_trans (by simp [spoiledReportAddress]) above) .done mem powerOns order)
    simp only [spoiledReportAddress] at above
    simp [statusBlock]
    omega
  · rw [frame]

end Sys2Proof.Machine
end

section
/-! SUPPORT. Causes raised one after another, the evaluation of the inspection notice (R129), and whole updates left in their
steps and then completed (R133, R134). -/

namespace Sys2Proof.Machine

/-! ### Causes (R187, R188) -/

theorem Cause.number_lt (c : Cause) : Cause.number c < 16 := by cases c <;> decide

theorem Cause.number_injective : Function.Injective Cause.number := by
  intro c d
  cases c <;> cases d <;> first | exact fun _ => rfl | exact nofun

/-- A cause raised is set beside those that are. -/
theorem Notices.flag_raise (n : Notices) (c d : Cause) : (n.raise c).flag d = (n.flag d || decide (c = d)) := by
  have bit : (BitVec.ofNat 16 (2 ^ Cause.number c)).getLsbD (Cause.number d) = decide (c = d) := by
    rw [BitVec.getLsbD_ofNat, Nat.testBit_two_pow, decide_eq_true (Cause.number_lt d), Bool.true_and,
      decide_eq_decide]
    exact Cause.number_injective.eq_iff
  simp only [Notices.raise, Notices.flag, withBit, BitVec.getLsbD_or, bit]

theorem Notices.flag_raise_other (n : Notices) {c d : Cause} (other : c ≠ d) : (n.raise c).flag d = n.flag d := by
  rw [Notices.flag_raise, decide_eq_false other, Bool.or_false]

/-! ### The inspection notice (R129) -/

/-- With the calendar not valid or no licence nothing is evaluated. -/
theorem State.inspect_unevaluated {s : State} (h : s.calendar.valid = false ∨ s.items.licence = none) : s.inspect = s := by
  unfold State.inspect State.daysSince
  rcases h with unset | unlicensed
  · simp [unset]
  · simp only [unlicensed]
    split
    · rename_i licence _ given
      cases given
    · rfl

/-- INSPECTION_DUE is raised as the notice becomes DUE, or as it becomes WARNED from NONE. -/
def raisesInspection (before notice : Notice) : Bool :=
  match notice with
  | .due => decide (before ≠ .due)
  | .warned => decide (before = .none)
  | .none => false

/-- The days since the last voucher give the notice. -/
theorem State.inspect_evaluated {s : State} {licence : Licence} (valid : s.calendar.valid = true)
    (licensed : s.items.licence = some licence) :
    s.inspect.notice = noticeFor (s.calendar.day - s.items.voucherDay) licence.interval
      ∧ s.inspect.notices =
        if raisesInspection s.notice (noticeFor (s.calendar.day - s.items.voucherDay) licence.interval) then
          s.notices.raise .inspectionDue
        else s.notices := by
  have days : s.daysSince = some (s.calendar.day - s.items.voucherDay) := if_pos valid
  have inspected : s.inspect =
      if raisesInspection s.notice (noticeFor (s.calendar.day - s.items.voucherDay) licence.interval) then
        State.raise { s with notice := noticeFor (s.calendar.day - s.items.voucherDay) licence.interval } .inspectionDue
      else { s with notice := noticeFor (s.calendar.day - s.items.voucherDay) licence.interval } := by
    simp only [State.inspect, days, licensed]
    rfl
  rw [inspected]
  cases raisesInspection s.notice (noticeFor (s.calendar.day - s.items.voucherDay) licence.interval) <;> exact ⟨rfl, rfl⟩

/-- No other cause is raised. -/
theorem State.inspect_flag_other (s : State) {c : Cause} (other : c ≠ .inspectionDue) :
    s.inspect.notices.flag c = s.notices.flag c := by
  by_cases h : s.calendar.valid = false ∨ s.items.licence = none
  · rw [State.inspect_unevaluated h]
  · obtain ⟨valid, licensed⟩ := not_or.mp h
    obtain ⟨licence, licensed⟩ := Option.ne_none_iff_exists'.mp licensed
    obtain ⟨-, notices⟩ := State.inspect_evaluated (by simpa using valid) licensed
    rw [notices]
    split
    · exact Notices.flag_raise_other _ other.symm
    · rfl

/-- The evaluation as R129 says it, of a state whose calendar, books, notice and INSPECTION_DUE are given. -/
theorem noticeEvaluated_of_inspect {s u t : State} (notice : u.notice = s.notice)
    (flag : u.notices.flag .inspectionDue = s.notices.flag .inspectionDue) (noticeAfter : t.notice = u.inspect.notice)
    (flagAfter : t.notices.flag .inspectionDue = u.inspect.notices.flag .inspectionDue) :
    s.NoticeEvaluated t u.calendar u.items.voucherDay u.items.licence := by
  refine ⟨fun h => ?_, fun valid licence licensed => ?_⟩
  · rw [noticeAfter, flagAfter, State.inspect_unevaluated h]
    exact ⟨notice, flag⟩
  · obtain ⟨given, notices⟩ := State.inspect_evaluated valid licensed
    rw [noticeAfter, flagAfter, given, notices, notice]
    refine ⟨fun due => ?_, fun before some_ warned => ?_, fun before none_ => ?_⟩
    · have is : noticeFor (u.calendar.day - u.items.voucherDay) licence.interval = .due := if_pos due
      rw [is]
      refine ⟨rfl, ?_⟩
      by_cases already : s.notice = .due <;> simp [raisesInspection, already, flag, Notices.flag_raise]
    · have is : noticeFor (u.calendar.day - u.items.voucherDay) licence.interval = .warned := by
        unfold noticeFor
        rw [if_neg (not_le.mpr before), if_pos ⟨some_, warned⟩]
      rw [is]
      refine ⟨rfl, ?_⟩
      by_cases fresh : s.notice = .none <;> simp [raisesInspection, fresh, flag, Notices.flag_raise]
    · have is : noticeFor (u.calendar.day - u.items.voucherDay) licence.interval = .none := by
        unfold noticeFor
        rw [if_neg (not_le.mpr before), if_neg (by omega)]
      rw [is]
      exact ⟨rfl, by simp [raisesInspection, flag]⟩

/-! ### A whole update in its steps (R133) -/

/-- The update that was begun and one made at once leave the same. -/
theorem State.place_beginUpdate (s : State) (work : Work) (values : Items) (phase : Phase) :
    (s.beginUpdate work values phase).place (values.newValues work.setsLatch) = s.makeUpdate work values := rfl

/-- The update record becomes EMPTY while an update is in its steps. -/
theorem State.updateRecordEmpty_inSteps {s : State} {work : Work} {phase : Phase} {values : NewValues}
    (busy : s.inStore = some work) (record : s.store.record = .inSteps phase values) :
    s.updateRecordEmpty =
      if ((s.place values).after work).busy then (s.place values).after work
      else (State.takeAllHeld { (s.place values).after work with held := [] } ((s.place values).after work).held).takeHeldReset := by
  simp only [State.updateRecordEmpty, busy, record]

/-- With nothing held behind it the update's own event is completed, and nothing else. -/
theorem State.updateRecordEmpty_alone {s t : State} {work : Work} {phase : Phase} {values : Items}
    (other : work.ofStart = false) (held : t.held = []) (reset : t.heldReset = none)
    (begun : s = t.beginUpdate work values phase) : s.updateRecordEmpty = (t.makeUpdate work values).after work := by
  obtain ⟨-, -, -, -, -, -, -, reset', idle', held', -, -, -⟩ := State.after_sameOutside (t.makeUpdate work values) other
  have idle' : ((t.makeUpdate work values).after work).inStore = none := idle'
  have held' : ((t.makeUpdate work values).after work).held = [] := held'.trans (by simpa using held)
  have reset' : ((t.makeUpdate work values).after work).heldReset = none := reset'.trans (by simpa using reset)
  have busy : s.inStore = some work := by rw [begun]; rfl
  have record : s.store.record = .inSteps phase (values.newValues work.setsLatch) := by rw [begun]; rfl
  rw [State.updateRecordEmpty_inSteps busy record, begun, State.place_beginUpdate]
  generalize (t.makeUpdate work values).after work = u at *
  rw [if_neg (by simp [State.busy, idle']), held']
  simp only [State.takeAllHeld, State.takeHeldReset, reset']
  rw [← held', ← reset']

end Sys2Proof.Machine
end

section
/-! SUPPORT. SET DATE (R107, R129, R173, R181), with a due switch made at once or left in its steps. -/

namespace Sys2Proof.Machine

/-- A command whose whole update is left in its steps as it is taken. -/
theorem exec_of_work_begun {i : Instr} {s t : State} {work : Work} {values : Items} {phase : Phase} (takes : s.TakesCommands)
    (command : (commandCode i).isSome = true) (other : i ≠ .restart) (unparked : ∀ pace, i ≠ .park pace)
    (known : ∀ code, i ≠ .unknownCommand code) (taken : takenInPart i s.part = true) (now : beginsLater i = false)
    (inSteps : paceOf i = .inSteps phase) (plan : commandWork i (s.inProgress i) = .update work values t) :
    exec i s = .next (t.beginUpdate work values phase).flush := by
  obtain ⟨⟨supply, idle, -⟩, free⟩ := takes
  have idle' : (s.inProgress i).inStore = none := by simp [idle]
  have plan := (commandPlan_of_taken (by simpa using taken)).trans plan
  rw [exec_effect supply, effect_command command, State.issue_free free other,
    State.takeCommand_accepted (refusalAtPost_of_taken taken known unparked), State.takeUp_idle idle' now, plan, inSteps]
  rfl

/-! ### The calendar set (R173) -/

/-- The calendar set and the command completed, with a switch's RATE_SWITCH beside it. -/
def State.dateSet (s : State) (day minute second : Nat) (due : Bool) : State :=
  (if due then (s.setCalendar day minute second).afterSwitch else s.setCalendar day minute second).complete .done

theorem State.setCalendar_eq (s : State) (day minute second : Nat) :
    s.setCalendar day minute second =
      { s with
        calendar := s.calendar.setTo day minute second, dirty := { s.dirty with calendar := true }
        notice := (s.setCalendar day minute second).notice, notices := (s.setCalendar day minute second).notices } :=
  State.inspect_eq _

theorem State.dateSet_eq (s : State) (day minute second : Nat) (due : Bool) :
    s.dateSet day minute second due =
      { s with
        mem := (s.dateSet day minute second due).mem, command := none
        calendar := s.calendar.setTo day minute second
        dirty := { s.dirty with calendar := true, banks := s.dirty.banks || due }
        notice := (s.setCalendar day minute second).notice, notices := (s.dateSet day minute second due).notices } := by
  have banks : s.dirty.banks = (s.dirty.banks || false) := by simp
  unfold State.dateSet
  rw [State.complete_eq]
  generalize (State.complete _ _).mem = m
  cases due
  · simp only [Bool.false_eq_true, if_false, ← banks]
    rw [State.setCalendar_eq]
  · simp only [if_true, Bool.or_true]
    rw [State.setCalendar_eq]
    rfl

theorem State.dateSet_notices (s : State) (day minute second : Nat) (due : Bool) :
    (s.dateSet day minute second due).notices =
      (if due then (s.setCalendar day minute second).notices.raise .rateSwitch
        else (s.setCalendar day minute second).notices).raise .commandDone := by
  cases due <;> rfl

theorem State.dateSet_rateSwitch (s : State) (day minute second : Nat) (due : Bool) :
    (s.dateSet day minute second due).notices.flag .rateSwitch = (s.notices.flag .rateSwitch || due) := by
  have kept : (s.setCalendar day minute second).notices.flag .rateSwitch = s.notices.flag .rateSwitch :=
    State.inspect_flag_other _ nofun
  rw [State.dateSet_notices, Notices.flag_raise_other _ (by decide : Cause.commandDone ≠ .rateSwitch)]
  cases due
  · simpa using kept
  · simp [Notices.flag_raise]

theorem State.dateSet_noticeEvaluated (s : State) (day minute second : Nat) (due : Bool) :
    s.NoticeEvaluated (s.dateSet day minute second due) (s.calendar.setTo day minute second) s.items.voucherDay
      s.items.licence := by
  refine noticeEvaluated_of_inspect (s := s)
    (u := State.touchCalendar { s with calendar := s.calendar.setTo day minute second }) rfl rfl ?_ ?_
  · rw [State.dateSet_eq]
    rfl
  · rw [State.dateSet_notices, Notices.flag_raise_other _ (by decide : Cause.commandDone ≠ .inspectionDue)]
    cases due
    · rfl
    · exact Notices.flag_raise_other _ nofun

theorem completed_dateSet (s : State) (day minute second : Nat) (due : Bool) :
    (s.dateSet day minute second due).Completed .done := completed_complete _ _

/-- The status block shows the calendar newly set (R5). -/
theorem readField_flush_dateSet {s : State} (started : s.part ≠ .start) {day minute : Nat} (second : Nat) (due : Bool)
    {f : Field} (hf : f ∈ [Field.mk 0x04 2 day, Field.mk 0x06 2 minute, Field.mk 0x08 1 1]) :
    (s.dateSet day minute second due).flush.readField f.address f.width = f.value % 256 ^ f.width := by
  have fields : calendarFields (s.dateSet day minute second due)
      = [Field.mk 0x04 2 day, Field.mk 0x06 2 minute, Field.mk 0x08 1 1] := by
    rw [State.dateSet_eq]
    rfl
  have marked : (s.dateSet day minute second due).dirty.calendar = true := by rw [State.dateSet_eq]
  have shown : f ∈ calendarFields (s.dateSet day minute second due) := by rwa [fields]
  exact readField_flush (by rwa [State.dateSet_eq]) (by simp [dirtyFields, marked, shown])

theorem unchangedOutside_flush_dateSet (s : State) (day minute second : Nat) (due : Bool) :
    UnchangedOutside [statusBlock, codeAndStatus] s (s.dateSet day minute second due).flush := by
  have set : UnchangedOutside [codeAndStatus] s (s.setCalendar day minute second) := by
    rw [State.setCalendar_eq]
    exact .of_mem _ rfl rfl
  have completes : UnchangedOutside [codeAndStatus] s (s.dateSet day minute second due) := by
    cases due
    · exact set.trans (unchangedOutside_complete _ .done)
    · exact set.trans ((UnchangedOutside.of_mem _ rfl rfl).trans
        (unchangedOutside_complete (s.setCalendar day minute second).afterSwitch .done))
  exact (completes.mono (by simp)).trans ((unchangedOutside_flush _).mono (by simp))

/-- What a SET DATE changes, from a state that differs from the one at its post in memory, command and store. -/
theorem flush_dateSet_eq {s u : State} (takes : s.TakesCommands) (day minute second : Nat) (due : Bool)
    (base : u = { s with mem := u.mem, command := u.command, store := u.store }) :
    (u.dateSet day minute second due).flush =
      { s with
        mem := (u.dateSet day minute second due).flush.mem
        generation := (u.dateSet day minute second due).flush.generation
        notices := (u.dateSet day minute second due).flush.notices
        notice := (u.dateSet day minute second due).flush.notice
        calendar := s.calendar.setTo day minute second
        store := u.store } := by
  have notices : (u.dateSet day minute second due).flush.notices = (u.dateSet day minute second due).notices := by simp
  have notice : (u.dateSet day minute second due).flush.notice = (u.dateSet day minute second due).notice := by simp
  obtain ⟨⟨-, -, clean⟩, free⟩ := takes
  rw [notices, notice]
  refine (flush_eq _).trans ?_
  generalize (u.dateSet day minute second due).flush = t
  generalize store : u.store = st
  have eq := State.dateSet_eq u day minute second due
  generalize u.dateSet day minute second due = v at eq ⊢
  rw [base, store] at eq
  rw [eq, ← clean, ← free]

theorem setDatePlan_inRange {day minute second : Nat} {s : State} (minuteRange : minute ≤ 1439) (secondRange : second ≤ 59)
    (dayRange : s.items.lastImprintDay ≤ day) :
    setDatePlan day minute second s =
      if State.switchDue { s with calendar := s.calendar.setTo day minute second } then
        .update (.setDate day minute second) s.items.switchBanks s
      else .done (s.dateSet day minute second false) :=
  if_neg (by omega)

theorem switchDue_inProgress (s : State) (i : Instr) (c : Calendar) :
    State.switchDue { s.inProgress i with calendar := c } = State.switchDue { s with calendar := c } := by
  rw [State.inProgress_eq]
  rfl

theorem laidOut_setDate (day minute : Half) (second : Byte) (pace : Pace) :
    LaidOut argumentAddress (argumentAddress + 5) (argumentFields (.setDate day minute second pace)) :=
  ⟨le_rfl, le_rfl, le_rfl, le_rfl⟩

theorem State.NoticeEvaluated.of_eq {s s' t t' : State} {c : Calendar} {day : Nat} {licence : Option Licence}
    (h : s.NoticeEvaluated t c day licence) (notice : s'.notice = s.notice) (notices : s'.notices = s.notices)
    (notice' : t'.notice = t.notice) (notices' : t'.notices = t.notices) : s'.NoticeEvaluated t' c day licence := by
  unfold State.NoticeEvaluated at h ⊢
  rwa [notice, notices, notice', notices']

/-- What a completed SET DATE leaves, its switch made or none due (R107, R129, R173). -/
def SetDateLeaves (s t : State) (day minute : Half) (second : Byte) (due : Bool) : Prop :=
  t.Completed .done ∧ t.readField 0x04 2 = day.toNat ∧ t.readField 0x06 2 = minute.toNat ∧ t.readField 0x08 1 = 1
    ∧ s.NoticeEvaluated t (s.calendar.setTo day.toNat minute.toNat second.toNat) s.items.voucherDay s.items.licence
    ∧ t.notices.flag .rateSwitch = (s.notices.flag .rateSwitch || due)
    ∧ (due = false → t.store = s.store) ∧ (due = true → t.items = s.items.switchBanks ∧ t.store.check = t.items.checkWord)
    ∧ t = { s with mem := t.mem, generation := t.generation, notices := t.notices, notice := t.notice
                   calendar := s.calendar.setTo day.toNat minute.toNat second.toNat, store := t.store }
    ∧ UnchangedOutside [statusBlock, codeAndStatus, argumentsOf 5] s t

theorem dateSet_leaves {s u : State} {day minute : Half} {second : Byte} (takes : s.TakesCommands) (setup : s.part = .setup)
    (due : Bool) (base : u = { s with mem := u.mem, command := u.command, store := u.store })
    (kept : due = false → u.store = s.store)
    (switched : due = true → u.items = s.items.switchBanks ∧ u.store.check = u.items.checkWord)
    (bytes : UnchangedOutside [codeAndStatus, argumentsOf 5] s u) :
    SetDateLeaves s (u.dateSet day.toNat minute.toNat second.toNat due).flush day minute second due := by
  have started : u.part ≠ .start := by rw [base]; simp [setup]
  have notice : s.notice = u.notice := by rw [base]
  have notices : s.notices = u.notices := by rw [base]
  have calendar : u.calendar = s.calendar := by rw [base]
  have books : u.items.voucherDay = s.items.voucherDay ∧ u.items.licence = s.items.licence := by
    cases due
    · rw [State.items, kept rfl]
      exact ⟨rfl, rfl⟩
    · rw [(switched rfl).1]
      exact ⟨rfl, rfl⟩
  have shown := fun f hf => readField_flush_dateSet started (day := day.toNat) (minute := minute.toNat) second.toNat due
    (f := f) hf
  have evaluated := State.dateSet_noticeEvaluated u day.toNat minute.toNat second.toNat due
  rw [books.1, books.2, calendar] at evaluated
  have switch := State.dateSet_rateSwitch u day.toNat minute.toNat second.toNat due
  have frame := flush_dateSet_eq takes day.toNat minute.toNat second.toNat due base
  have store : (u.dateSet day.toNat minute.toNat second.toNat due).flush.store = u.store := by rw [frame]
  refine ⟨(completed_dateSet _ _ _ _ due).flush, (shown ⟨0x04, 2, _⟩ (by simp)).trans (Nat.mod_eq_of_lt day.isLt),
    (shown ⟨0x06, 2, _⟩ (by simp)).trans (Nat.mod_eq_of_lt minute.isLt), shown ⟨0x08, 1, 1⟩ (by simp),
    evaluated.of_eq notice notices (by simp) (by simp), ?_, fun h => store.trans (kept h), fun h => ?_, ?_,
    (bytes.mono (by simp)).trans ((unchangedOutside_flush_dateSet _ _ _ _ due).mono (by simp))⟩
  · rw [notices, ← switch]
    simp
  · rw [State.items, store]
    exact switched h
  · rw [store]
    exact frame

theorem exec_updateRecordEmpty_alone {t : State} {work : Work} {phase : Phase} {values : Items} (supply : t.supply = true)
    (other : work.ofStart = false) (held : t.held = []) (reset : t.heldReset = none) :
    exec .updateRecordEmpty (t.beginUpdate work values phase) = .next ((t.makeUpdate work values).after work).flush := by
  rw [exec_effect (by simpa using supply)]
  exact congrArg (fun u => Host.Outcome.next (State.flush u)) (State.updateRecordEmpty_alone other held reset rfl)

/-- With no switch due SET DATE completes at its post. -/
theorem exec_setDate_undue {s : State} (takes : s.TakesCommands) {day minute : Half} {second : Byte} {pace : Pace}
    (setup : s.part = .setup)
    (plan : commandWork (.setDate day minute second pace) (s.inProgress (.setDate day minute second pace))
      = .done ((s.inProgress (.setDate day minute second pace)).dateSet day.toNat minute.toNat second.toNat false)) :
    exec (.setDate day minute second pace) s
      = .next ((s.inProgress (.setDate day minute second pace)).dateSet day.toNat minute.toNat second.toNat false).flush :=
  exec_of_work_done takes rfl nofun nofun nofun (by rw [setup]; rfl) plan

/-- The store as the switch of a SET DATE left it. -/
def State.dateSwitched (s : State) (day minute second : Nat) : State :=
  s.makeUpdate (.setDate day minute second) s.items.switchBanks

theorem State.dateSwitched_base {s u : State} (takes : s.TakesCommands) (day minute second : Nat)
    (base : u = { s with mem := u.mem, command := u.command }) :
    u.dateSwitched day minute second =
      { s with mem := (u.dateSwitched day minute second).mem, command := (u.dateSwitched day minute second).command
               store := (u.dateSwitched day minute second).store } := by
  obtain ⟨⟨-, idle, -⟩, -⟩ := takes
  have eq : u.dateSwitched day minute second = { u with store := (u.dateSwitched day minute second).store, inStore := none } :=
    rfl
  have mem : (u.dateSwitched day minute second).mem = u.mem := rfl
  have command : (u.dateSwitched day minute second).command = u.command := rfl
  rw [mem, command]
  refine eq.trans ?_
  generalize (u.dateSwitched day minute second).store = st
  rw [base, ← idle]

theorem State.after_setDate (s : State) (day minute second : Nat) :
    s.after (.setDate day minute second) = s.dateSet day minute second true := rfl

theorem dateSet_undue_leaves {s : State} (takes : s.TakesCommands) (setup : s.part = .setup) {day minute : Half}
    {second : Byte} {pace : Pace} :
    SetDateLeaves s
      ((s.inProgress (.setDate day minute second pace)).dateSet day.toNat minute.toNat second.toNat false).flush
      day minute second false := by
  have laid := unchangedOutside_inProgress s (laidOut_setDate day minute second pace)
  have store : (s.inProgress (.setDate day minute second pace)).store = s.store := by simp
  refine dateSet_leaves takes setup false ?_ (fun _ => store) nofun laid
  rw [store]
  exact s.inProgress_base _

theorem dateSet_switched_leaves {s : State} (takes : s.TakesCommands) (setup : s.part = .setup) {day minute : Half}
    {second : Byte} {pace : Pace} :
    SetDateLeaves s
      (((s.inProgress (.setDate day minute second pace)).makeUpdate (.setDate day.toNat minute.toNat second.toNat)
        s.items.switchBanks).dateSet day.toNat minute.toNat second.toNat true).flush day minute second true := by
  rw [← State.inProgress_items s (.setDate day minute second pace)]
  have laid := unchangedOutside_inProgress s (laidOut_setDate day minute second pace)
  have items : (s.inProgress (.setDate day minute second pace)).items.switchBanks = s.items.switchBanks := by simp
  exact dateSet_leaves takes setup true (State.dateSwitched_base takes _ _ _ (s.inProgress_base _)) nofun
    (fun _ => ⟨items, rfl⟩) (laid.trans (.of_mem _ rfl rfl))

/-- SET DATE with its switch left in its steps: the update record holds the switch, and nothing else is changed. -/
theorem beginUpdate_setDate_eq {s : State} (i : Instr) (day minute second : Nat) (phase : Phase) :
    (s.inProgress i).beginUpdate (.setDate day minute second) s.items.switchBanks phase =
      { s with
        mem := ((s.inProgress i).beginUpdate (.setDate day minute second) s.items.switchBanks phase).mem
        command := some i, inStore := some (.setDate day minute second)
        store := { s.store with record := .inSteps phase (s.items.switchBanks.newValues false) } } := by
  have mem : ((s.inProgress i).beginUpdate (.setDate day minute second) s.items.switchBanks phase).mem
      = (s.inProgress i).mem := rfl
  rw [mem, State.beginUpdate, State.inProgress_eq]
  rfl

/-- Settles O31: the plan is the completion at once or, with a switch due, one whole update whose rest is the completion. -/
theorem setDateSetsTheCalendar : Obligations.SetDateSetsTheCalendar := by
  intro day minute second pace s takes setup minuteRange secondRange dayRange c due
  have taken : takenInPart (.setDate day minute second pace) s.part = true := by rw [setup]; rfl
  have plan := setDatePlan_inRange (s := s.inProgress (.setDate day minute second pace)) minuteRange secondRange
    (by simpa using dayRange)
  have calendar : (s.inProgress (.setDate day minute second pace)).calendar = s.calendar := by simp
  rw [switchDue_inProgress, calendar, State.inProgress_items] at plan
  change commandWork (.setDate day minute second pace) _ = if due = true then _ else _ at plan
  cases now : due
  · rw [now, if_neg Bool.false_ne_true] at plan
    exact ⟨fun _ => ⟨_, exec_setDate_undue takes setup plan, dateSet_undue_leaves takes setup⟩,
      fun _ h => absurd h Bool.false_ne_true⟩
  · rw [now, if_pos rfl] at plan
    refine ⟨fun settled => ?_, fun phase _ inSteps => ?_⟩
    · obtain rfl : pace = .made := settled.resolve_left nofun
      have run := exec_of_work_update (i := .setDate day minute second .made) takes rfl nofun nofun nofun taken rfl rfl plan
      rw [State.after_setDate] at run
      exact ⟨_, run, dateSet_switched_leaves takes setup⟩
    · subst inSteps
      have run := exec_of_work_begun (i := .setDate day minute second (.inSteps phase)) takes rfl nofun nofun nofun taken rfl
        rfl plan
      have frame := beginUpdate_setDate_eq (s := s) (.setDate day minute second (.inSteps phase)) day.toNat minute.toNat
        second.toNat phase
      rw [flush_clean (by rw [frame]; exact takes.1.2.2)] at run
      refine ⟨_, run, ?_, frame, ?_, fun held reset => ?_⟩
      · exact (readField_of_mem rfl rfl rfl _ _).trans (readField_inProgress s (.setDate day minute second (.inSteps phase)))
      · exact (unchangedOutside_inProgress s (laidOut_setDate day minute second _)).trans (.of_mem _ rfl rfl)
      · have ends := exec_updateRecordEmpty_alone (t := s.inProgress (.setDate day minute second (.inSteps phase)))
          (work := .setDate day.toNat minute.toNat second.toNat) (phase := phase) (values := s.items.switchBanks)
          (by simpa using takes.1.1) rfl (by simpa using held) (by simpa using reset)
        rw [State.after_setDate] at ends
        obtain ⟨completed, -, -, -, -, switch, -, switched, eq, -⟩ :=
          dateSet_switched_leaves (pace := .inSteps phase) (day := day) (minute := minute) (second := second) takes setup
        refine ⟨_, ends, completed, ?_, ?_, (switched rfl).1, ?_⟩
        · exact congrArg State.calendar eq
        · exact (congrArg State.inStore eq).trans takes.1.2.1
        · rw [switch, Bool.or_true]

end Sys2Proof.Machine
end

section
/-! SUPPORT. A command laid in the command block and read back (R179, R195, 11.5). -/

namespace Sys2Proof.Machine

/-- The code and argument fields of a command lie apart. -/
theorem laidFields_apart (i : Instr) (code : Nat) :
    (Field.mk commandCodeAddress 2 code :: argumentFields i).Pairwise Field.Apart := by
  have laid := laidOut_argumentFields i
  exact .cons (fun f hf => .inl (le_trans (by simp [commandCodeAddress, argumentAddress]) (laid.within hf).1)) laid.apart

/-- So each reads back. -/
theorem readField_layCommand {i : Instr} {code : Nat} (s : State) (coded : commandCode i = some code) :
    ∀ f ∈ Field.mk commandCodeAddress 2 code :: argumentFields i,
      (s.layCommand i).readField f.address f.width = f.value % 256 ^ f.width := by
  intro f hf
  simp only [State.layCommand, coded]
  exact readField_writeFields_of_mem s (laidFields_apart i code) hf

theorem readCode_layCommand {i : Instr} {code : Nat} (s : State) (coded : commandCode i = some code) (small : code < 65536) :
    (s.layCommand i).readField commandCodeAddress 2 = code :=
  (readField_layCommand s coded _ List.mem_cons_self).trans (Nat.mod_eq_of_lt small)

theorem argument_layCommand {i : Instr} {code : Nat} (s : State) (coded : commandCode i = some code) :
    ∀ f ∈ argumentFields i, (s.layCommand i).readField f.address f.width = f.value % 256 ^ f.width :=
  fun f hf => readField_layCommand s coded f (List.mem_cons_of_mem _ hf)

/-- An argument of a field's own size is read whole. -/
theorem ofNat_toNat_mod {w : Nat} (x : BitVec w) {n : Nat} (size : 256 ^ n = 2 ^ w) :
    BitVec.ofNat w (x.toNat % 256 ^ n) = x := by
  rw [size, Nat.mod_eq_of_lt x.isLt, BitVec.ofNat_toNat, BitVec.setWidth_eq]

theorem ofNat_toNat_mod_1 (x : BitVec 8) : BitVec.ofNat 8 (x.toNat % 256 ^ 1) = x := ofNat_toNat_mod x rfl

theorem ofNat_toNat_mod_2 (x : BitVec 16) : BitVec.ofNat 16 (x.toNat % 256 ^ 2) = x := ofNat_toNat_mod x rfl

theorem ofNat_toNat_mod_4 (x : BitVec 32) : BitVec.ofNat 32 (x.toNat % 256 ^ 4) = x := ofNat_toNat_mod x rfl

theorem ofNat_toNat_mod_6 (x : BitVec 48) : BitVec.ofNat 48 (x.toNat % 256 ^ 6) = x := ofNat_toNat_mod x rfl

/-- A code that names no command is read back as such. -/
theorem laidCommand_unknown {s : State} {code : Half} (read : s.readField commandCodeAddress 2 = code.toNat)
    (unknown : unknownCode code = true) : s.laidCommand = .unknownCommand code := by
  have beyond : code.toNat = 0 ∨ lastCommandCode < code.toNat := by simpa [unknownCode] using unknown
  simp only [lastCommandCode] at beyond
  simp only [State.laidCommand, read]
  split
  all_goals first
    | omega
    | exact congrArg Instr.unknownCommand (by simp)

/-- Settles O28: the code selects the command's own reading of the argument area, and each argument reads back. -/
theorem laidCommandReadsBack : Obligations.LaidCommandReadsBack := by
  intro i s command wf
  obtain ⟨code, coded⟩ := Option.isSome_iff_exists.mp command
  have arguments := argument_layCommand s coded
  have read := readCode_layCommand s coded
  cases i
  case unknownCommand code' =>
    cases coded
    exact laidCommand_unknown (read code'.isLt) wf
  case closeSetup | loadRates | reportFunds | readAccounts | closePeriod | restart | park =>
    cases coded
    simp only [State.laidCommand, read (by decide), madeAtOnce]
  case setDate | configureLane | installLicence | applyVoucher | setAccount | setFundsAlert | openBatch | closeBatch
      | resumeLane | setPostdate | claimSpoiled =>
    cases coded
    simp only [argumentFields, argumentField, List.forall_mem_cons] at arguments
    simp only [State.laidCommand, read (by decide), State.argument, arguments, ofNat_toNat_mod_1, ofNat_toNat_mod_2,
      ofNat_toNat_mod_4, ofNat_toNat_mod_6, madeAtOnce]
  all_goals cases coded

end Sys2Proof.Machine
end

section
/-! SUPPORT. Every step keeps the bounds of the track queues and of the take queue (R24, R33, R50): a queue grows only by an
ENTRY on a lane that tracks its pieces, below its limit, and a lane comes to STOPPED or HALTED only with its queue empty. -/

namespace Sys2Proof.Machine

theorem lawfulQueues_iff (s : State) :
    s.LawfulQueues ↔ (∀ lane, (s.tracker lane).Lawful) ∧ s.takeQueue.length ≤ takeQueueLimit := by
  constructor
  · rintro ⟨a, b, take⟩
    refine ⟨fun lane => ?_, take⟩
    cases lane
    · exact a
    · exact b
  · rintro ⟨lanes, take⟩
    exact ⟨lanes .a, lanes .b, take⟩

/-! ### Changes that leave the lanes' states and no queue longer -/

/-- The sequence numbers of a lane's queue, oldest first. -/
def Tracker.seqs (t : Tracker) : List Nat := t.queue.map TrackEntry.seq

theorem Tracker.length_seqs (t : Tracker) : t.seqs.length = t.queue.length := by simp [Tracker.seqs]

/-- A tracker with the same state, and no entry in its queue that another's does not hold. -/
def Tracker.Within (t u : Tracker) : Prop := u.state = t.state ∧ u.seqs.Sublist t.seqs

theorem Tracker.Within.refl (t : Tracker) : t.Within t := ⟨rfl, .refl _⟩

theorem Tracker.Within.trans {t u v : Tracker} (h : t.Within u) (h' : u.Within v) : t.Within v :=
  ⟨h'.1.trans h.1, h'.2.trans h.2⟩

theorem Tracker.Within.length_le {t u : Tracker} (h : t.Within u) : u.queue.length ≤ t.queue.length := by
  rw [← t.length_seqs, ← u.length_seqs]
  exact h.2.length_le

theorem Tracker.Within.empty {t u : Tracker} (h : t.Within u) (empty : t.queue = []) : u.queue = [] := by
  have shorter := h.length_le
  rw [empty] at shorter
  exact List.length_eq_zero_iff.mp (Nat.le_zero.mp shorter)

theorem Tracker.Within.lawful {t u : Tracker} (h : t.Within u) (lawful : t.Lawful) : u.Lawful := by
  obtain ⟨bound, quiet⟩ := lawful
  refine ⟨h.length_le.trans bound, fun still => h.empty (quiet ?_)⟩
  rwa [h.1] at still

/-- The lanes' states unchanged, and no queue longer. -/
def QueuesWithin (s t : State) : Prop :=
  (∀ lane, (s.tracker lane).Within (t.tracker lane)) ∧ t.takeQueue.length ≤ s.takeQueue.length

theorem QueuesWithin.refl (s : State) : QueuesWithin s s := ⟨fun _ => .refl _, le_rfl⟩

theorem QueuesWithin.trans {s t u : State} (h : QueuesWithin s t) (h' : QueuesWithin t u) : QueuesWithin s u :=
  ⟨fun lane => (h.1 lane).trans (h'.1 lane), h'.2.trans h.2⟩

theorem QueuesWithin.of_eq {s t : State} (lanes : t.lanes = s.lanes) (take : t.takeQueue = s.takeQueue) : QueuesWithin s t := by
  refine ⟨fun lane => ?_, (congrArg List.length take).le⟩
  rw [State.tracker, State.tracker, lanes]
  exact .refl _

theorem QueuesWithin.lawful {s t : State} (h : QueuesWithin s t) (lawful : s.LawfulQueues) : t.LawfulQueues := by
  obtain ⟨lanes, take⟩ := (lawfulQueues_iff s).mp lawful
  exact (lawfulQueues_iff t).mpr ⟨fun lane => (h.1 lane).lawful (lanes lane), h.2.trans take⟩

theorem tracker_setTracker_other (s : State) {lane other : Lane} (t : Tracker) (apart : other ≠ lane) :
    (s.setTracker lane t).tracker other = s.tracker other := PerLane.get_set_other _ _ apart

theorem queuesWithin_setTracker {s : State} {lane : Lane} {t : Tracker} (h : (s.tracker lane).Within t) :
    QueuesWithin s (s.setTracker lane t) := by
  refine ⟨fun other => ?_, le_rfl⟩
  by_cases same : other = lane
  · subst same
    rwa [tracker_setTracker]
  · rw [tracker_setTracker_other s t same]
    exact .refl _

theorem queuesWithin_onTracker {s : State} {lane : Lane} {f : Tracker → Tracker}
    (h : (s.tracker lane).Within (f (s.tracker lane))) : QueuesWithin s (s.onTracker lane f) := queuesWithin_setTracker h

theorem Tracker.within_onEntry (t : Tracker) (seq : Nat) {f : TrackEntry → TrackEntry} (same : ∀ e, (f e).seq = e.seq) :
    t.Within (t.onEntry seq f) := by
  refine ⟨rfl, ?_⟩
  have seqs : (t.onEntry seq f).seqs = t.seqs := by
    simp only [Tracker.seqs, Tracker.onEntry, List.map_map]
    refine List.map_congr_left fun e _ => ?_
    simp only [Function.comp]
    split
    · exact same e
    · rfl
  rw [seqs]

theorem Tracker.within_of_queue {t u : Tracker} (state : u.state = t.state) (queue : u.queue = t.queue) : t.Within u := by
  refine ⟨state, ?_⟩
  rw [Tracker.seqs, queue]
  exact .refl _

section
variable {s t : State} (h : QueuesWithin s t)
include h

theorem QueuesWithin.writeFields (fs : List Field) : QueuesWithin s (t.writeFields fs) := h.trans (.of_eq rfl rfl)

theorem QueuesWithin.setSlot (lane : Lane) (index : Nat) (state : SlotState) : QueuesWithin s (t.setSlot lane index state) :=
  h.trans (.of_eq rfl rfl)

theorem QueuesWithin.raise (c : Cause) : QueuesWithin s (t.raise c) := h.trans (.of_eq rfl rfl)

theorem QueuesWithin.touchLane (lane : Lane) : QueuesWithin s (t.touchLane lane) :=
  h.trans (.of_eq (by simp) (by simp))

theorem QueuesWithin.onTracker {lane : Lane} {f : Tracker → Tracker} (within : ∀ t, Tracker.Within t (f t)) :
    QueuesWithin s (t.onTracker lane f) := h.trans (queuesWithin_onTracker (within _))

theorem QueuesWithin.onEntry (lane : Lane) (seq : Nat) {f : TrackEntry → TrackEntry} (same : ∀ e, (f e).seq = e.seq) :
    QueuesWithin s (t.onEntry lane seq f) := h.trans (queuesWithin_onTracker (Tracker.within_onEntry _ seq same))

theorem QueuesWithin.onLink (lane : Lane) (f : Link → Link) : QueuesWithin s (t.onLink lane f) := h.trans (.of_eq rfl rfl)

theorem QueuesWithin.writeResults (lane : Lane) (e : TrackEntry) (fields : Nat → List Field) (bits : List Nat) :
    QueuesWithin s (t.writeResults lane e fields bits) := by
  unfold State.writeResults
  dsimp only
  split
  · exact h.onEntry _ _ fun _ => rfl
  · refine QueuesWithin.writeFields ?_ _
    exact h.onEntry _ _ fun _ => rfl

end

theorem queuesWithin_changeLane {s : State} {lane : Lane} {f : Tracker → Tracker}
    (h : (s.tracker lane).Within (f (s.tracker lane))) : QueuesWithin s (s.changeLane lane f) :=
  (queuesWithin_onTracker h).trans (.of_eq (by rw [State.changeLane_eq]; rfl) (by rw [State.changeLane_eq]; rfl))

theorem queuesWithin_stray (s : State) (lane : Lane) : QueuesWithin s (s.stray lane) :=
  (queuesWithin_changeLane (s := s) (lane := lane) (Tracker.within_of_queue rfl rfl)).trans (.of_eq rfl rfl)

theorem queuesWithin_refuseSlotWrite (s : State) (lane : Lane) : QueuesWithin s (s.refuseSlotWrite lane) :=
  (queuesWithin_changeLane (s := s) (lane := lane) (Tracker.within_of_queue rfl rfl)).trans (.of_eq rfl rfl)

theorem queuesWithin_endBatch (s : State) (lane : Lane) : QueuesWithin s (s.endBatch lane) := by
  unfold State.endBatch
  dsimp only
  split
  · exact (((QueuesWithin.refl s).writeFields _).raise _).onTracker fun _ => Tracker.within_of_queue rfl rfl
  · exact .refl s

theorem queuesWithin_slotDone (s : State) (lane : Lane) (e : TrackEntry) (index : Nat) (outcome : PieceOutcome)
    (cause : Option DivertCause) : QueuesWithin s (s.slotDone lane e index outcome cause) := by
  unfold State.slotDone
  refine .trans ?_ (queuesWithin_endBatch _ lane)
  refine QueuesWithin.raise (QueuesWithin.touchLane (QueuesWithin.onTracker (QueuesWithin.setSlot ?_ _ _ _) ?_) _) _
  · exact (QueuesWithin.refl s).writeResults ..
  · exact fun _ => Tracker.within_of_queue rfl rfl

theorem Tracker.within_remove (t : Tracker) (seq : Nat) : t.Within (t.remove seq) := ⟨rfl, List.filter_sublist.map _⟩

theorem queuesWithin_endEntry (s : State) (lane : Lane) (e : TrackEntry) (outcome : PieceOutcome)
    (cause : Option DivertCause) : QueuesWithin s (s.endEntry lane e outcome cause) := by
  unfold State.endEntry
  refine QueuesWithin.onTracker ?_ fun t => t.within_remove e.seq
  split
  · exact queuesWithin_slotDone ..
  · exact .refl s

theorem queuesWithin_endEntries (s : State) (lane : Lane) (otherwise : DivertCause) (es : List TrackEntry) :
    QueuesWithin s (s.endEntries lane otherwise es) := by
  induction es generalizing s with
  | nil => exact .refl s
  | cons e es ih => exact (queuesWithin_endEntry s ..).trans (ih _)

theorem queuesWithin_driveGate (s : State) (lane : Lane) (e : TrackEntry) : QueuesWithin s (s.driveGate lane e) := by
  refine QueuesWithin.onEntry (QueuesWithin.writeResults (QueuesWithin.onTracker (.refl s) ?_) ..) _ _ fun _ => rfl
  exact fun _ => Tracker.within_of_queue rfl rfl

theorem queuesWithin_endAtExit (s : State) (lane : Lane) (e : TrackEntry) : QueuesWithin s (s.endAtExit lane e) := by
  unfold State.endAtExit
  split
  · exact .refl s
  all_goals exact queuesWithin_endEntry ..

theorem queuesWithin_settleEntry (s : State) (lane : Lane) (seq : Nat) (result : PrintResult) :
    QueuesWithin s (s.settleEntry lane seq result) := by
  have shown (e : TrackEntry) (stage : Stage) (fields : Nat → List Field) (bits : List Nat) :
      QueuesWithin s ((s.onEntry lane seq (fun e => { e with stage := stage })).writeResults lane e fields bits) := by
    refine QueuesWithin.writeResults ?_ lane e fields bits
    exact QueuesWithin.onEntry (.refl s) lane seq fun _ => rfl
  unfold State.settleEntry
  split
  · exact .refl s
  · dsimp only
    split
    · split
      · exact (shown _ _ _ _).trans (queuesWithin_endEntry _ lane _ _ _)
      · exact shown _ _ _ _
    · exact shown _ _ _ _

theorem queuesWithin_releaseLane (s : State) (lane : Lane) : QueuesWithin s (s.releaseLane lane) := by
  unfold State.releaseLane
  split
  · exact .of_eq rfl rfl
  · exact .refl s

/-! ### An emptied queue (R44, R46, R47) -/

/-- An entry ended is in the queue no longer. -/
theorem seq_notMem_endEntry (s : State) (lane : Lane) (e : TrackEntry) (outcome : PieceOutcome)
    (cause : Option DivertCause) : e.seq ∉ ((s.endEntry lane e outcome cause).tracker lane).seqs := by
  unfold State.endEntry
  rw [tracker_onTracker]
  simp [Tracker.remove, Tracker.seqs]

theorem seqs_endEntries (s : State) (lane : Lane) (otherwise : DivertCause) (es : List TrackEntry) :
    ∀ e ∈ es, e.seq ∉ ((s.endEntries lane otherwise es).tracker lane).seqs := by
  induction es generalizing s with
  | nil => exact fun _ h => nomatch h
  | cons e es ih =>
    intro x hx
    rcases List.mem_cons.mp hx with rfl | hx
    · exact fun still => seq_notMem_endEntry s lane x _ _
        (((queuesWithin_endEntries _ lane otherwise es).1 lane).2.subset still)
    · exact ih _ x hx

/-- With every entry of its queue ended a lane's queue is empty. -/
theorem queue_endEntries (s : State) (lane : Lane) (otherwise : DivertCause) :
    ((s.endEntries lane otherwise (s.tracker lane).queue).tracker lane).queue = [] := by
  have within := ((queuesWithin_endEntries s lane otherwise (s.tracker lane).queue).1 lane).2
  have ended := seqs_endEntries s lane otherwise (s.tracker lane).queue
  have none : ((s.endEntries lane otherwise (s.tracker lane).queue).tracker lane).seqs = [] := by
    refine List.eq_nil_iff_forall_not_mem.mpr fun seq still => ?_
    obtain ⟨e, listed, rfl⟩ := List.mem_map.mp (within.subset still)
    exact ended e listed still
  exact List.map_eq_nil_iff.mp none

/-! ### Changes of a lane's state -/

section
variable {s : State} (h : s.LawfulQueues)
include h

theorem lawful_setTracker {lane : Lane} {t : Tracker} (lawful : t.Lawful) : (s.setTracker lane t).LawfulQueues := by
  obtain ⟨lanes, take⟩ := (lawfulQueues_iff s).mp h
  refine (lawfulQueues_iff _).mpr ⟨fun other => ?_, take⟩
  by_cases same : other = lane
  · subst same
    rwa [tracker_setTracker]
  · rw [tracker_setTracker_other s t same]
    exact lanes other

theorem lawful_tracker (lane : Lane) : (s.tracker lane).Lawful := ((lawfulQueues_iff s).mp h).1 lane

theorem lawful_of_eq {t : State} (lanes : t.lanes = s.lanes) (take : t.takeQueue = s.takeQueue) : t.LawfulQueues :=
  (QueuesWithin.of_eq lanes take).lawful h

theorem lawful_touchLane (lane : Lane) : (s.touchLane lane).LawfulQueues := lawful_of_eq h (by simp) (by simp)

theorem lawful_drainCheck (lane : Lane) : (s.drainCheck lane).LawfulQueues := by
  unfold State.drainCheck
  dsimp only
  split
  case isTrue drained =>
    refine lawful_touchLane (lawful_setTracker h ?_) lane
    exact ⟨(lawful_tracker h lane).1, fun _ => drained.2⟩
  case isFalse => exact h

theorem lawful_emptyHalted (lane : Lane) : (s.emptyHalted lane).LawfulQueues := by
  unfold State.emptyHalted
  dsimp only
  split
  · have ended := (queuesWithin_endEntries s lane .jammed (s.tracker lane).queue).lawful h
    refine lawful_touchLane (lawful_setTracker ended ?_) lane
    exact ⟨(lawful_tracker ended lane).1, fun _ => queue_endEntries s lane .jammed⟩
  · exact h

theorem lawful_halt (lane : Lane) (cause : HaltCause) : (s.halt lane cause).LawfulQueues := by
  unfold State.halt
  dsimp only
  split
  · refine lawful_emptyHalted ?_ lane
    have halting : (s.setTracker lane
        { s.tracker lane with
          state := .halting, haltCause := some cause, queue := (s.tracker lane).queue.map TrackEntry.jam }).LawfulQueues := by
      refine lawful_setTracker h ⟨?_, ?_⟩
      · simpa using (lawful_tracker h lane).1
      · rintro (still | still) <;> cases still
    refine QueuesWithin.lawful (QueuesWithin.raise (QueuesWithin.touchLane (.trans ?_ (queuesWithin_releaseLane _ lane)) lane) _)
      halting
    exact ⟨fun _ => .refl _, List.length_filter_le _ _⟩
  · exact h

end

end Sys2Proof.Machine
end

section
/-! SUPPORT. The queue laws through the events of the belt, the links, the rating unit, the commands and START, and so through
every step (R24, R33, R50). -/

namespace Sys2Proof.Machine

/-- A queue below its limit, of a lane that tracks its pieces, takes one more entry. -/
theorem Tracker.lawful_enter {t : Tracker} {e : TrackEntry} (tracks : t.state.tracks = true)
    (room : t.queue.length < queueLimit) : (t.enter e).Lawful := by
  refine ⟨by simpa [Tracker.enter] using room, fun still => ?_⟩
  have still : t.state = .stopped ∨ t.state = .halted := still
  rcases still with still | still <;> simp [still, LaneState.tracks] at tracks

/-! ### The completions of the rating unit and the funds unit, case by case -/

/-- A rating completion finds no rating, drops its result, prices the piece or refuses it (R55 to R58). -/
theorem State.ratingCompletion_cases (s : State) :
    s.ratingCompletion = s ∨ ∃ record, s.ratingCompletion = s.endRating record
      ∨ ∃ e, (∃ postage format zone weight, s.ratingCompletion = (s.endRating record).keepPriced record e
            (s.items.banks.get record.bank).tableId postage format zone weight
            (record.working.result (s.items.banks.get record.bank) record.input (s.items.licence.map Licence.perPieceCap)))
        ∨ ∃ cause, s.ratingCompletion = (s.endRating record).keepRefused record e
            (s.items.banks.get record.bank).tableId cause
            (record.working.result (s.items.banks.get record.bank) record.input (s.items.licence.map Licence.perPieceCap)) := by
  unfold State.ratingCompletion
  split
  · exact .inl rfl
  case h_2 record rating =>
    refine .inr ⟨record, ?_⟩
    dsimp only
    split
    · exact .inl rfl
    case h_2 e kept =>
      refine .inr ⟨e, ?_⟩
      split
      · exact .inl ⟨_, _, _, _, rfl⟩
      · exact .inr ⟨_, rfl⟩

/-- The funds unit finds no request, a void one, one that it refuses or one that it places (R39, R114). -/
theorem State.takeRequest_cases (s : State) :
    s.takeRequest = s ∨ ∃ request rest, s.requests = request :: rest
      ∧ (s.takeRequest = { s with requests := rest }
        ∨ (∃ cause, s.takeRequest = { s with requests := rest }.refuseHold request cause)
        ∨ (((s.tracker request.lane).find request.seq).filter TrackEntry.awaitsHold ≠ none ∧ s.holdRefusal request = none
            ∧ s.takeRequest = { s with requests := rest }.placeHold request)) := by
  unfold State.takeRequest
  split
  · exact .inl rfl
  case h_2 request rest requests =>
    refine .inr ⟨request, rest, requests, ?_⟩
    dsimp only
    split
    · exact .inl rfl
    case h_2 e awaits =>
      split
      · exact .inr (.inl ⟨_, rfl⟩)
      case h_2 passes => exact .inr (.inr ⟨(fun void => nomatch void.symm.trans awaits), passes, rfl⟩)

/-! ### The rating unit and the funds unit move no entry and take none from a queue but the take queue's head -/

theorem queuesWithin_take (s : State) : QueuesWithin s s.take := by
  unfold State.take
  split
  case h_1 q rest idle queue =>
    have shorter : QueuesWithin s { s with takeQueue := rest } := ⟨fun _ => .refl _, by rw [queue]; exact Nat.le_succ _⟩
    dsimp only
    split
    · exact shorter
    · exact QueuesWithin.trans (QueuesWithin.onEntry (f := fun e => { e with stage := .rating }) shorter q.lane q.seq fun _ => rfl)
        (.of_eq rfl rfl)
  case h_2 => exact .refl s

theorem queuesWithin_keepPriced (s : State) (record : RatingRecord) (e : TrackEntry) (tableId postage format zone weight : Nat)
    (result : RatingResult) : QueuesWithin s (s.keepPriced record e tableId postage format zone weight result) := by
  unfold State.keepPriced
  dsimp only
  refine QueuesWithin.trans (QueuesWithin.onTracker (lane := record.lane) (f := fun t => t.stickyOverflow result.flags.overflow)
    ?_ fun _ => Tracker.within_of_queue rfl rfl) (.of_eq rfl rfl)
  exact QueuesWithin.onEntry (QueuesWithin.writeResults (.refl s) ..) _ _ fun _ => rfl

theorem queuesWithin_keepRefused (s : State) (record : RatingRecord) (e : TrackEntry) (tableId : Nat) (cause : DivertCause)
    (result : RatingResult) : QueuesWithin s (s.keepRefused record e tableId cause result) := by
  unfold State.keepRefused
  dsimp only
  refine QueuesWithin.onTracker (f := fun t => t.stickyOverflow result.flags.overflow) ?_ fun _ => Tracker.within_of_queue rfl rfl
  exact QueuesWithin.onEntry (QueuesWithin.writeResults (.refl s) ..) _ _ fun _ => rfl

theorem queuesWithin_ratingCompletion (s : State) : QueuesWithin s s.ratingCompletion := by
  rcases s.ratingCompletion_cases with same | ⟨record, ended | ⟨e, ended | ended⟩⟩
  · rw [same]
    exact .refl s
  · rw [ended]
    exact .of_eq rfl rfl
  · obtain ⟨postage, format, zone, weight, ended⟩ := ended
    rw [ended]
    exact .trans (.of_eq rfl rfl) (queuesWithin_keepPriced (s.endRating record) ..)
  · obtain ⟨cause, ended⟩ := ended
    rw [ended]
    exact .trans (.of_eq rfl rfl) (queuesWithin_keepRefused (s.endRating record) ..)

theorem queuesWithin_refuseHold (s : State) (request : Hold) (cause : DivertCause) : QueuesWithin s (s.refuseHold request cause) := by
  have diverted : QueuesWithin s (s.onEntry request.lane request.seq (fun e => e.divert cause)) :=
    QueuesWithin.onEntry (.refl s) _ _ fun _ => rfl
  unfold State.refuseHold
  split
  · exact diverted.raise _
  · exact diverted

theorem queuesWithin_placeHold (s : State) (request : Hold) : QueuesWithin s (s.placeHold request) := by
  have listed : QueuesWithin s { s with holds := s.holds ++ [request] }.touchFunds := .of_eq rfl rfl
  have held := QueuesWithin.onEntry (f := fun e => { e with stage := .held, held := some request.amount }) listed request.lane
    request.seq fun _ => rfl
  unfold State.placeHold
  dsimp only
  split
  · exact held.raise _
  · exact held

theorem queuesWithin_takeRequest (s : State) : QueuesWithin s s.takeRequest := by
  rcases s.takeRequest_cases with same | ⟨request, rest, -, void | refused | ⟨-, -, placed⟩⟩
  · rw [same]
    exact .refl s
  · rw [void]
    exact .of_eq rfl rfl
  · obtain ⟨cause, refused⟩ := refused
    rw [refused]
    exact .trans (.of_eq rfl rfl) (queuesWithin_refuseHold { s with requests := rest } request cause)
  · rw [placed]
    exact .trans (.of_eq rfl rfl) (queuesWithin_placeHold { s with requests := rest } request)

section
variable {s : State} (h : s.LawfulQueues)
include h

/-! ### The belt -/

theorem lawful_stray (lane : Lane) : (s.stray lane).LawfulQueues := (queuesWithin_stray s lane).lawful h

theorem lawful_onEntry (lane : Lane) (seq : Nat) {f : TrackEntry → TrackEntry} (same : ∀ e, (f e).seq = e.seq) :
    (s.onEntry lane seq f).LawfulQueues := ((QueuesWithin.refl s).onEntry lane seq same).lawful h

theorem lawful_onTracker {lane : Lane} {f : Tracker → Tracker} (lawful : (f (s.tracker lane)).Lawful) :
    (s.onTracker lane f).LawfulQueues := lawful_setTracker h lawful

theorem lawful_raise (c : Cause) : (s.raise c).LawfulQueues := h

theorem lawful_takeQueue {queue : List QueueEntry} (shorter : queue.length ≤ s.takeQueue.length) :
    State.LawfulQueues { s with takeQueue := queue } := by
  obtain ⟨a, b, take⟩ := h
  exact ⟨a, b, shorter.trans take⟩

theorem lawful_enterWithoutSlot {lane : Lane} (cause : DivertCause) (tracks : (s.tracker lane).state.tracks = true)
    (room : (s.tracker lane).queue.length < queueLimit) : (s.enterWithoutSlot lane cause).LawfulQueues := by
  have entered : ((s.onTracker lane (fun t => t.enter (TrackEntry.slotless t.nextSeq cause))).touchLane lane).LawfulQueues :=
    lawful_touchLane (lawful_onTracker h (Tracker.lawful_enter tracks room)) lane
  unfold State.enterWithoutSlot
  dsimp only
  split
  · refine lawful_raise (lawful_onTracker entered ?_) _
    exact (Tracker.within_of_queue rfl rfl).lawful (lawful_tracker entered lane)
  · exact entered

theorem lawful_openSlot {lane : Lane} (tracks : (s.tracker lane).state.tracks = true)
    (room : (s.tracker lane).queue.length < queueLimit) : (s.openSlot lane).LawfulQueues := by
  have written : (((s.writeFields (identityFields lane (slotIndex (s.tracker lane).nextSeq) (s.tracker lane).nextSeq
      (s.tracker lane).batch.id)).setSlot lane (slotIndex (s.tracker lane).nextSeq) .opened).raise
        (slotOpenCause lane)).LawfulQueues := lawful_of_eq h rfl rfl
  have entered := Tracker.lawful_enter (e := TrackEntry.opened (s.tracker lane).nextSeq (s.tracker lane).batch.id) tracks room
  unfold State.openSlot
  dsimp only
  refine lawful_touchLane (lawful_onTracker written ?_) lane
  exact (Tracker.within_of_queue rfl rfl).lawful entered

theorem lawful_enter {lane : Lane} (tracks : (s.tracker lane).state.tracks = true) : (s.enter lane).LawfulQueues := by
  unfold State.enter
  split
  case isTrue => exact lawful_halt h lane _
  case isFalse room =>
    split
    · exact lawful_enterWithoutSlot h _ tracks (not_le.mp room)
    · exact lawful_openSlot h tracks (not_le.mp room)

theorem lawful_exitPhotocell (lane : Lane) : (s.exitPhotocell lane).LawfulQueues := by
  unfold State.exitPhotocell
  split
  · exact lawful_stray h lane
  · dsimp only
    split
    · exact (queuesWithin_driveGate s lane _).lawful h
    · refine lawful_drainCheck ?_ lane
      exact (queuesWithin_endAtExit _ lane _).lawful ((queuesWithin_driveGate s lane _).lawful h)

theorem lawful_rateFilled (lane : Lane) (e : TrackEntry) (index : Nat) : (s.rateFilled lane e index).LawfulQueues := by
  have taken : ((s.setSlot lane index .taken).onEntry lane e.seq
      (fun k => { k.pass .rate with input := some (s.inputCopy lane index) })).LawfulQueues :=
    lawful_onEntry (lawful_of_eq h rfl rfl) lane e.seq fun _ => rfl
  unfold State.rateFilled
  dsimp only
  split
  · exact lawful_onEntry taken lane e.seq fun _ => rfl
  case isFalse room =>
    split
    · exact lawful_onEntry taken lane e.seq fun _ => rfl
    · refine lawful_onEntry (s := State.mk ..) ?_ lane e.seq fun _ => rfl
      obtain ⟨lanes, -⟩ := (lawfulQueues_iff _).mp taken
      refine (lawfulQueues_iff _).mpr ⟨lanes, ?_⟩
      simp only [List.length_append, List.length_singleton]
      omega

theorem lawful_ratePhotocell (lane : Lane) : (s.ratePhotocell lane).LawfulQueues := by
  unfold State.ratePhotocell
  split
  · exact lawful_stray h lane
  · split
    · split
      · exact lawful_rateFilled h lane _ _
      · exact lawful_onEntry (s := s.setSlot _ _ _) (lawful_of_eq h rfl rfl) lane _ fun _ => rfl
    · exact lawful_onEntry h lane _ fun _ => rfl

/-- A dispatch that asks for no update changes the entry alone, and may release its hold. -/
theorem keeps_queues_dispatchPlan (lane : Lane) (e : TrackEntry) : (s.dispatchPlan lane e).Keeps State.LawfulQueues := by
  unfold State.dispatchPlan
  split
  · exact lawful_onEntry (s := s.releaseHold _ _) (lawful_of_eq h (by simp) (by simp)) lane _ fun _ => rfl
  · split
    · exact lawful_onEntry h lane _ fun _ => rfl
    · exact fun _ => lawful_of_eq h rfl rfl

theorem keeps_queues_printPhotocell (lane : Lane) : (s.printPhotocell lane).Keeps State.LawfulQueues := by
  unfold State.printPhotocell
  split
  · exact lawful_stray h lane
  · split
    · exact keeps_queues_dispatchPlan h lane _
    · refine lawful_onEntry (s := s.leaveTakeQueue _ _) ?_ lane _ fun _ => rfl
      exact lawful_takeQueue h (List.length_filter_le _ _)
    · exact lawful_onEntry h lane _ fun _ => rfl
    · exact lawful_onEntry h lane _ fun _ => rfl

theorem keeps_queues_sensorPlan (lane : Lane) (photocell : Position) (edge : Edge) (tracked : State → Plan)
    (tracks : (s.tracker lane).state.tracks = true → (tracked s).Keeps State.LawfulQueues) :
    (s.sensorPlan lane photocell edge tracked).Keeps State.LawfulQueues := by
  unfold State.sensorPlan
  dsimp only
  split
  · exact h
  · split
    case isTrue runs => exact tracks runs
    case isFalse => exact lawful_stray h lane

theorem lawful_encoderCount (lane : Lane) : (s.encoderCount lane).LawfulQueues := by
  have counted : (s.setTracker lane { s.tracker lane with queue := (s.tracker lane).queue.map TrackEntry.count }).LawfulQueues := by
    obtain ⟨bound, quiet⟩ := lawful_tracker h lane
    refine lawful_setTracker h ⟨by simpa using bound, fun still => ?_⟩
    exact List.map_eq_nil_iff.mpr (quiet still)
  unfold State.encoderCount
  dsimp only
  split
  · split
    · exact lawful_halt counted lane _
    · exact counted
  · exact h

theorem lawful_moveLane {lane : Lane} {state : LaneState}
    (empty : state = .stopped ∨ state = .halted → (s.tracker lane).queue = []) : (s.moveLane lane state).LawfulQueues := by
  refine lawful_touchLane (lawful_onTracker h ?_) lane
  exact ⟨(lawful_tracker h lane).1, empty⟩

theorem lawful_runWrite (lane : Lane) (value : Bool) : (s.runWrite lane value).LawfulQueues := by
  unfold State.runWrite
  split
  · split
    · split
      · exact lawful_moveLane (state := .running) h nofun
      · exact h
    · exact lawful_drainCheck (lawful_moveLane (state := .draining) h nofun) lane
    · exact lawful_moveLane (state := .running) h nofun
    case h_4 halted => exact lawful_moveLane h fun _ => (lawful_tracker h lane).2 (.inr halted)
    · exact h
  · exact h

/-! ### The links -/

theorem keeps_queues_settlePlan (lane : Lane) (result : PrintResult) (expired : Bool) :
    (s.settlePlan lane result expired).Keeps State.LawfulQueues := by
  unfold State.settlePlan
  split
  · exact h
  · exact fun _ => lawful_of_eq h rfl rfl

theorem keeps_queues_answerPlan (lane : Lane) (frame : BitVec 48) :
    (s.answerPlan lane frame).Keeps State.LawfulQueues := by
  unfold State.answerPlan
  dsimp only
  split
  · split
    · exact h
    · split
      · exact h
      · split
        · exact keeps_queues_settlePlan h ..
        · split
          · exact keeps_queues_settlePlan (s := s.setLink lane _) h ..
          · exact h
  · exact h

theorem keeps_queues_expiryPlan (lane : Lane) : (s.expiryPlan lane).Keeps State.LawfulQueues := by
  unfold State.expiryPlan
  dsimp only
  split
  · exact h
  · split
    · exact keeps_queues_settlePlan h ..
    · exact h
    · exact h

theorem keeps_queues_linkPlan (lane : Lane) (plan : State → Plan) (plans : (plan s).Keeps State.LawfulQueues) :
    (s.linkPlan lane plan).Keeps State.LawfulQueues := by
  unfold State.linkPlan
  split
  · exact plans
  · exact h

theorem lawful_frameSent (lane : Lane) : (s.frameSent lane).LawfulQueues := by
  unfold State.frameSent
  dsimp only
  split <;> exact h

theorem lawful_answerReady (lane : Lane) : (s.answerReady lane).LawfulQueues := by
  unfold State.answerReady
  dsimp only
  split
  · exact h
  · split <;> exact h
  · exact h

/-! ### The rating unit and the funds unit -/

theorem lawful_take : s.take.LawfulQueues := (queuesWithin_take s).lawful h

theorem lawful_ratingCompletion : s.ratingCompletion.LawfulQueues := (queuesWithin_ratingCompletion s).lawful h

theorem lawful_takeRequest : s.takeRequest.LawfulQueues := (queuesWithin_takeRequest s).lawful h

end

end Sys2Proof.Machine
end

section
/-! SUPPORT. What START's steps and most commands leave alone: the lanes, the links, the rating unit and the holds. -/

namespace Sys2Proof.Machine

/-- The lanes, the links, the rating unit's work and the funds unit's requests and holds are the same. -/
abbrev SameUnits (s t : State) : Prop :=
  t.lanes = s.lanes ∧ t.links = s.links ∧ t.takeQueue = s.takeQueue ∧ t.rating = s.rating ∧ t.useCounts = s.useCounts
    ∧ t.requests = s.requests ∧ t.holds = s.holds

theorem SameUnits.refl (s : State) : SameUnits s s := by simp [SameUnits]

theorem SameUnits.trans {s t u : State} (first : SameUnits s t) (second : SameUnits t u) : SameUnits s u := by
  simp only [SameUnits] at first second ⊢
  simp [first, second]

/-! ### START -/

@[simp] theorem State.inspect_sameUnits (s : State) : SameUnits s s.inspect := by
  rw [State.inspect_eq]
  simp [SameUnits]

@[simp] theorem State.setCalendar_sameUnits (s : State) (day minute second : Nat) :
    SameUnits s (s.setCalendar day minute second) := by simp [State.setCalendar, SameUnits]

@[simp] theorem State.afterSwitch_sameUnits (s : State) : SameUnits s s.afterSwitch := by simp [State.afterSwitch, SameUnits]

@[simp] theorem State.faultFound_sameUnits (s : State) : SameUnits s s.faultFound := by simp [State.faultFound, SameUnits]

@[simp] theorem State.writeWholeStatus_sameUnits (s : State) : SameUnits s s.writeWholeStatus := by
  simp [State.writeWholeStatus, SameUnits]

@[simp] theorem State.endStart_sameUnits (s : State) : SameUnits s s.endStart := by
  unfold State.endStart
  dsimp only
  split <;> simp [SameUnits]

theorem State.goOn_sameUnits {s : State} {steps : State → State} (h : SameUnits s (steps s)) : SameUnits s (s.goOn steps) := by
  unfold State.goOn
  split
  · exact .refl s
  · exact h

@[simp] theorem State.startFrom7_sameUnits (s : State) : SameUnits s s.startFrom7 := by simp [State.startFrom7, SameUnits]

@[simp] theorem State.afterStartSwitch_sameUnits (s : State) : SameUnits s s.afterStartSwitch :=
  s.afterSwitch_sameUnits.trans (State.goOn_sameUnits (State.startFrom7_sameUnits _))

@[simp] theorem State.afterClear_sameUnits (s : State) : SameUnits s s.afterClear :=
  s.faultFound_sameUnits.trans (State.goOn_sameUnits (State.endStart_sameUnits _))

@[simp] theorem State.startFrom6_sameUnits (s : State) (stop : Option Phase) : SameUnits s (s.startFrom6 stop) := by
  unfold State.startFrom6
  split
  · split <;> simp [SameUnits]
  · simp [SameUnits]

@[simp] theorem State.startFrom5_sameUnits (s : State) (pace : StartPace) : SameUnits s (s.startFrom5 pace) := by
  unfold State.startFrom5
  split
  · simp [SameUnits]
  · split <;> simp [SameUnits]

@[simp] theorem State.warnInStart_sameUnits (s : State) : SameUnits s s.warnInStart := by
  unfold State.warnInStart
  split <;> simp [SameUnits]

@[simp] theorem State.settleRecord_sameUnits (s : State) : SameUnits s s.settleRecord := by
  unfold State.settleRecord
  split
  · exact .refl s
  · exact .refl s
  · split <;> simp [SameUnits]

@[simp] theorem State.startSteps_sameUnits (s : State) (pace : StartPace) : SameUnits s (s.startSteps pace) := by
  unfold State.startSteps
  split
  · dsimp only
    split
    · split <;> simp [SameUnits]
    · simp [SameUnits]
  · exact .refl s

/-! ### The rest of an update that does not reach the units -/

/-- The updates whose rest reaches the trackers, the links, the rating unit or the holds: a debit, a settling and PARK. -/
def Work.reachesUnits : Work → Bool
  | .debit .. => true
  | .settle .. => true
  | .park => true
  | _ => false

theorem State.after_sameUnits (s : State) {work : Work} (other : work.reachesUnits = false) : SameUnits s (s.after work) := by
  cases work with
  | debit => cases other
  | settle => cases other
  | park => cases other
  | claim removed => cases removed <;> simp [State.after, SameUnits]
  | setAlert before =>
    simp only [State.after, State.afterSetAlert]
    split <;> simp [SameUnits]
  | commit active => cases active <;> simp [State.after, State.afterCommit, SameUnits]
  | startConversion stop => exact State.goOn_sameUnits (State.startFrom6_sameUnits _ _)
  | _ => simp [State.after, SameUnits]

/-! ### The commands that do not name a lane -/

/-- The commands that reach the trackers, the links, the rating unit or the holds: those that name a lane, and PARK. -/
def commandReachesUnits : Instr → Bool
  | .configureLane _ => true
  | .openBatch .. => true
  | .closeBatch _ => true
  | .resumeLane _ => true
  | .park _ => true
  | _ => false

theorem State.answerWith_sameUnits (s : State) (status : Status) : SameUnits s (s.answerWith status).state := by
  simp [State.answerWith, SameUnits]

theorem closeSetupPlan_sameUnits (s : State) : SameUnits s (closeSetupPlan s).state := by
  simp [closeSetupPlan, SameUnits]

theorem reportFundsPlan_sameUnits (s : State) : SameUnits s (reportFundsPlan s).state := by
  simp [reportFundsPlan, SameUnits]

theorem readAccountsPlan_sameUnits (s : State) : SameUnits s (readAccountsPlan s).state := by
  simp [readAccountsPlan, SameUnits]

theorem closePeriodPlan_sameUnits (s : State) : SameUnits s (closePeriodPlan s).state := by
  simp [closePeriodPlan, SameUnits]

theorem claimSpoiledPlan_sameUnits (limit : Nat) (s : State) : SameUnits s (claimSpoiledPlan limit s).state := by
  simp [claimSpoiledPlan, claimPlan, SameUnits]

theorem commandWork_sameUnits {i : Instr} (other : commandReachesUnits i = false) (s : State) :
    SameUnits s (commandWork i s).state := by
  cases i with
  | setDate day minute second pace =>
    show SameUnits s (setDatePlan day.toNat minute.toNat second.toNat s).state
    rcases setDatePlan_cases day.toNat minute.toNat second.toNat s with eq | eq | eq <;> rw [eq]
    · exact s.answerWith_sameUnits _
    · exact .refl s
    · simp [SameUnits]
  | configureLane => cases other
  | openBatch => cases other
  | closeBatch => cases other
  | resumeLane => cases other
  | park => cases other
  | installLicence x pace =>
    show SameUnits s (installLicencePlan x s).state
    unfold installLicencePlan
    split
    · exact s.answerWith_sameUnits _
    · exact .refl s
  | loadRates =>
    show SameUnits s (loadRatesPlan s).state
    unfold loadRatesPlan
    split <;> simp [SameUnits]
  | applyVoucher x pace =>
    show SameUnits s (applyVoucherPlan x s).state
    unfold applyVoucherPlan
    split
    · exact s.answerWith_sameUnits _
    · split
      · exact s.answerWith_sameUnits _
      · split
        · exact s.answerWith_sameUnits _
        · exact .refl s
  | setAccount account state pace =>
    show SameUnits s (setAccountPlan account state s).state
    unfold setAccountPlan
    split
    · exact .refl s
    · exact s.answerWith_sameUnits _
  | setFundsAlert threshold pace =>
    show SameUnits s (setFundsAlertPlan threshold.toNat s).state
    unfold setFundsAlertPlan
    split
    · exact .refl s
    · exact s.answerWith_sameUnits _
  | setPostdate offset =>
    show SameUnits s (setPostdatePlan offset.toNat s).state
    unfold setPostdatePlan
    split
    · exact s.answerWith_sameUnits _
    · simp [SameUnits]
  | unknownCommand code => exact s.answerWith_sameUnits _
  | closeSetup => exact closeSetupPlan_sameUnits s
  | reportFunds => exact reportFundsPlan_sameUnits s
  | readAccounts => exact readAccountsPlan_sameUnits s
  | closePeriod pace => exact closePeriodPlan_sameUnits s
  | claimSpoiled limit pace => exact claimSpoiledPlan_sameUnits _ s
  | _ => exact .refl s

theorem loadRatesCompletionPlan_sameUnits (s : State) : SameUnits s (loadRatesCompletionPlan s).state := by
  unfold loadRatesCompletionPlan
  split
  · exact .refl s
  · split
    · simp [SameUnits]
    · split
      · simp [SameUnits]
      · exact .refl s

theorem State.switchPlan_sameUnits (s : State) : SameUnits s s.switchPlan.state := by
  unfold State.switchPlan
  split <;> exact .refl s

end Sys2Proof.Machine
end

section
/-! SUPPORT. The queue laws through the rest of a whole update, the commands and START, and so through every step (R24, R33,
R50). -/

namespace Sys2Proof.Machine

/-! ### A debit's dispatch (R118, R147) -/

/-- The imprint that a debit hands to the link. -/
def imprintOf (lane : Lane) (licence : Licence) (hold : Hold) (serial day : Nat) (e : TrackEntry) : Imprint :=
  { seq := hold.seq, serial := serial, amount := hold.amount, account := hold.account, day := day
    frame := imprintFrame lane licence hold serial day e }

/-- The piece shown as debited, DISPATCHED past PRINT, and its imprint with the link. -/
def State.dispatched (s : State) (lane : Lane) (hold : Hold) (serial day : Nat) (e : TrackEntry) (imprint : Imprint) : State :=
  ((s.writeResults lane e
      (fun index => [slotField lane index 0x2C 4 serial, slotField lane index 0x30 2 day]) [serialBit, dayBit]).onEntry
        lane hold.seq (fun e => { e.pass .print with stage := .dispatched })).onLink lane (fun k => k.dispatch imprint)

/-- After a debit the hold is gone, and the piece, when it is there, is dispatched. -/
theorem State.afterDebit_cases (s : State) (lane : Lane) (hold : Hold) (serial day : Nat) :
    (s.afterDebit lane hold serial day = s.releaseHold lane hold.seq
        ∧ ((s.tracker lane).find hold.seq = none ∨ s.items.licence = none))
      ∨ ∃ e licence, (s.tracker lane).find hold.seq = some e ∧ s.items.licence = some licence
        ∧ s.afterDebit lane hold serial day
          = (s.releaseHold lane hold.seq).dispatched lane hold serial day e (imprintOf lane licence hold serial day e) := by
  unfold State.afterDebit
  dsimp only
  split
  case h_1 e licence found licensed => exact .inr ⟨e, licence, found, licensed, rfl⟩
  case h_2 other =>
    refine .inl ⟨rfl, ?_⟩
    by_contra! both
    obtain ⟨e, found⟩ := Option.ne_none_iff_exists'.mp both.1
    obtain ⟨licence, licensed⟩ := Option.ne_none_iff_exists'.mp both.2
    exact other e licence found licensed

section
variable {s : State} (h : s.LawfulQueues)
include h

theorem lawful_sameUnits {t : State} (same : SameUnits s t) : t.LawfulQueues := lawful_of_eq h same.1 same.2.2.1

/-! ### The rest of a whole update -/

theorem lawful_dispatched (lane : Lane) (hold : Hold) (serial day : Nat) (e : TrackEntry) (imprint : Imprint) :
    (s.dispatched lane hold serial day e imprint).LawfulQueues := by
  unfold State.dispatched
  refine QueuesWithin.lawful (QueuesWithin.onLink ?_ lane (fun k => k.dispatch imprint)) h
  refine QueuesWithin.onEntry (f := fun e => { e.pass .print with stage := .dispatched }) ?_ lane hold.seq fun _ => rfl
  exact QueuesWithin.writeResults (.refl s) ..

theorem lawful_afterDebit (lane : Lane) (hold : Hold) (serial day : Nat) : (s.afterDebit lane hold serial day).LawfulQueues := by
  have released : (s.releaseHold lane hold.seq).LawfulQueues := h
  rcases s.afterDebit_cases lane hold serial day with ⟨none, -⟩ | ⟨e, licence, -, -, found⟩
  · rwa [none]
  · rw [found]
    exact lawful_dispatched released ..

theorem lawful_afterSettle (lane : Lane) (result : PrintResult) (expired : Bool) :
    (s.afterSettle lane result expired).LawfulQueues := by
  unfold State.afterSettle
  split
  · exact h
  · extract_lets s₁ s₂ s₃ s₄
    have touched : s₂.LawfulQueues := by
      dsimp only [s₂]
      split <;> exact h
    have settled : s₃.LawfulQueues := (queuesWithin_settleEntry ..).lawful touched
    have halted : s₄.LawfulQueues := by
      dsimp only [s₄]
      split
      · exact lawful_halt settled ..
      · exact settled
    exact lawful_drainCheck (lawful_emptyHalted halted _) _

theorem lawful_parkLane (lane : Lane) : (s.parkLane lane).LawfulQueues := by
  unfold State.parkLane
  extract_lets s₁ s₂ s₃
  have shown : s₁.LawfulQueues := by
    dsimp only [s₁]
    split
    · exact h
    · split
      · exact h
      · exact (QueuesWithin.writeResults (.refl s) ..).lawful h
  have ended : s₂.LawfulQueues := (queuesWithin_endEntries ..).lawful shown
  have stopped : s₃.LawfulQueues :=
    lawful_onTracker ended ⟨(lawful_tracker ended lane).1, fun _ => queue_endEntries s₁ lane .parked⟩
  exact lawful_touchLane (s := s₃.onLink lane Link.park) stopped lane

theorem lawful_afterPark : s.afterPark.LawfulQueues := by
  have abandoned : (State.abandonRating { s with holds := [] }).LawfulQueues :=
    lawful_takeQueue (s := s) h (Nat.zero_le _)
  have parked := lawful_parkLane (lawful_parkLane abandoned .a) .b
  exact lawful_of_eq parked (by simp [State.afterPark]) (by simp [State.afterPark])

theorem lawful_after (work : Work) : (s.after work).LawfulQueues := by
  cases work with
  | debit lane hold serial day => exact lawful_afterDebit h ..
  | settle lane result expired => exact lawful_afterSettle h ..
  | park => exact lawful_afterPark h
  | _ => exact lawful_sameUnits h (s.after_sameUnits rfl)

/-! ### Every event that may be held -/

omit h in
theorem keeps_queues_of_state {plan : Plan} (h : plan.state.LawfulQueues) : plan.Keeps State.LawfulQueues := by
  cases plan with
  | done t => exact h
  | update work values t => exact fun _ => h

theorem lawful_complete (status : Status) : (s.complete status).LawfulQueues := h

theorem keeps_queues_configureLanePlan (x : LaneArguments) : (configureLanePlan x s).Keeps State.LawfulQueues := by
  unfold configureLanePlan
  split
  · exact lawful_complete h _
  · split
    · exact lawful_complete h _
    · split
      · exact lawful_complete (lawful_onTracker h (lawful_tracker h _)) _
      · exact lawful_complete h _

theorem keeps_queues_openBatchPlan (lane : Byte) (id : Nat) : (openBatchPlan lane id s).Keeps State.LawfulQueues := by
  unfold openBatchPlan
  split
  · exact lawful_complete h _
  · split
    · exact lawful_complete (lawful_onTracker h (lawful_tracker h _)) _
    · exact lawful_complete h _

theorem keeps_queues_closeBatchPlan (lane : Byte) : (closeBatchPlan lane s).Keeps State.LawfulQueues := by
  unfold closeBatchPlan
  split
  · exact lawful_complete h _
  · split
    · refine lawful_complete ((queuesWithin_endBatch _ _).lawful ?_) _
      exact lawful_onTracker h (lawful_tracker h _)
    · exact lawful_complete h _

theorem keeps_queues_resumeLanePlan (lane : Byte) : (resumeLanePlan lane s).Keeps State.LawfulQueues := by
  unfold resumeLanePlan
  split
  · exact lawful_complete h _
  case h_2 lane named =>
    split
    · have running : (s.onTracker lane (fun t => { t with state := .running, haltCause := none })).LawfulQueues :=
        lawful_onTracker h ⟨(lawful_tracker h lane).1, nofun⟩
      refine lawful_complete (lawful_touchLane ?_ lane) _
      exact lawful_of_eq running rfl rfl
    · exact lawful_complete h _

theorem keeps_queues_commandWork (i : Instr) : (commandWork i s).Keeps State.LawfulQueues := by
  cases i with
  | configureLane x => exact keeps_queues_configureLanePlan h x
  | openBatch lane id => exact keeps_queues_openBatchPlan h lane _
  | closeBatch lane => exact keeps_queues_closeBatchPlan h lane
  | resumeLane lane => exact keeps_queues_resumeLanePlan h lane
  | park pace =>
    show (parkPlan s).Keeps _
    unfold parkPlan
    split
    · exact h
    · exact lawful_complete h _
    · split
      · exact lawful_afterPark h
      · exact fun _ => h
  | _ => exact keeps_queues_of_state (lawful_sameUnits h (commandWork_sameUnits rfl s))

theorem keeps_queues_commandPlan (i : Instr) : (commandPlan i s).Keeps State.LawfulQueues := by
  unfold commandPlan
  split
  · exact keeps_queues_commandWork h i
  · exact lawful_complete h _

theorem keeps_queues_eventPlan (i : Instr) : (eventPlan i s).Keeps State.LawfulQueues := by
  cases i with
  | entry lane edge => exact keeps_queues_sensorPlan h lane _ edge (fun s => .done (s.enter lane)) (lawful_enter h)
  | rate lane edge =>
    exact keeps_queues_sensorPlan h lane _ edge (fun s => .done (s.ratePhotocell lane)) fun _ => lawful_ratePhotocell h lane
  | print lane edge pace =>
    exact keeps_queues_sensorPlan h lane _ edge (fun s => s.printPhotocell lane) fun _ => keeps_queues_printPhotocell h lane
  | exit lane edge =>
    exact keeps_queues_sensorPlan h lane _ edge (fun s => .done (s.exitPhotocell lane)) fun _ => lawful_exitPhotocell h lane
  | encoderCount lane => exact lawful_encoderCount h lane
  | run lane value => exact lawful_runWrite h lane value
  | loadRatesCompletion pace => exact keeps_queues_of_state (lawful_sameUnits h (loadRatesCompletionPlan_sameUnits s))
  | take => exact lawful_take h
  | ratingCompletion => exact lawful_ratingCompletion h
  | holdRequest => exact lawful_takeRequest h
  | frameSent lane => exact keeps_queues_linkPlan h lane (fun s => .done (s.frameSent lane)) (lawful_frameSent h lane)
  | answerReady lane => exact keeps_queues_linkPlan h lane (fun s => .done (s.answerReady lane)) (lawful_answerReady h lane)
  | answer lane frame pace =>
    exact keeps_queues_linkPlan h lane (fun s => s.answerPlan lane frame) (keeps_queues_answerPlan h lane frame)
  | answerTimerExpiry lane pace => exact keeps_queues_linkPlan h lane (fun s => s.expiryPlan lane) (keeps_queues_expiryPlan h lane)
  | _ => exact keeps_queues_commandPlan h _

theorem keeps_queues_heldEvent (e : HeldEvent) : (e.plan s).Keeps State.LawfulQueues := by
  cases e with
  | event i => exact keeps_queues_eventPlan h i
  | switchCheck => exact keeps_queues_of_state (lawful_sameUnits h s.switchPlan_sameUnits)

end

/-! ### Every step -/

theorem lawful_resetEvent (s : State) (cause : ResetCause) : (s.resetEvent cause).LawfulQueues :=
  ⟨⟨Nat.zero_le _, fun _ => rfl⟩, ⟨Nat.zero_le _, fun _ => rfl⟩, Nat.zero_le _⟩

theorem kept_lawfulQueues : Kept State.LawfulQueues where
  pending _ h := h
  notices _ h := h
  command _ h := h
  waiting _ _ _ h := h
  loading _ _ h := h
  powerWarn _ h := h
  fields _ _ h := h
  byte _ _ _ h := h
  refuseSlotWrite lane h := (queuesWithin_refuseSlotWrite _ lane).lawful h
  plan e h _ := keeps_queues_heldEvent h e
  claim _ h _ := fun _ => h
  completes work _ _ h _ _ := lawful_after (s := State.place _ _) h work
  reset cause _ := lawful_resetEvent _ cause
  straps _ _ _ := lawful_resetEvent _ _
  powerOn _ _ _ := lawful_resetEvent _ _
  start pace h := lawful_sameUnits h (State.startSteps_sameUnits _ pace)
  supplyLoss h := h
  batteryLoss h := h
  second _ h := h
  quietBoundary h _ := h
  boundary h := lawful_sameUnits (s := State.touchCalendar _) h (State.inspect_sameUnits _)

/-- Settles O4: `kept_lawfulQueues`; the rewrite of the status block touches no queue. -/
theorem everyStepKeepsTheQueueLaws : Obligations.EveryStepKeepsTheQueueLaws := by
  intro s t lawful steps
  exact kept_lawfulQueues.step (Q := State.LawfulQueues) (fun _ h => h)
    (fun s h => lawful_of_eq h s.flush_frame.2.2.2.2.2.2.2.2.2.2.2.1 (by simp)) (fun _ _ h => h)
    (fun _ _ _ _ _ => .inr fun _ _ _ h => h) lawful steps

end Sys2Proof.Machine
end

section
/-! SUPPORT. Which whole updates the events ask for, with which new values, and on what state (R133). -/

namespace Sys2Proof.Machine

/-- What a whole update is when an event asks for it: who asks, on what grounds, and for which new values. -/
def State.Asks (s : State) (work : Work) (values : Items) : Prop :=
  match work with
  | .debit lane hold serial day =>
    s.dispatchRefusal lane = none ∧ s.holdOf lane hold.seq = some hold ∧ (s.tracker lane).state.tracks = true
      ∧ (∃ e, (s.tracker lane).applies .print = some e ∧ e.seq = hold.seq) ∧ serial = s.items.pieceCount + 1
      ∧ day = s.calendar.imprintDay ∧ values = s.items.debit lane hold serial day
  | .settle lane result _ =>
    ∃ imprint, (s.link lane).outstanding = some imprint ∧ values = s.items.settle lane imprint result
  | .park => s.part ≠ .start ∧ s.part ≠ .parked ∧ values = s.items.convertMarks
  | .claim removed => ∃ claimed, removed = !claimed.isEmpty ∧ values = s.items.claim claimed
  | .credit => ∃ amount serial day, values = s.items.creditVoucher amount serial day
  | .install => s.part = .locked ∧ ∃ licence day, values = s.items.install licence day
  | .setAccount => ∃ account isOpen, values = s.items.setAccount account isOpen
  | .setAlert before => before = s.items.alert ∧ ∃ alert, values = { s.items with alert := alert }
  | .closePeriod => values = s.items.closePeriod
  | .commit active => ∃ bank, values = s.items.commitBank bank active
  | .bankSwitch => s.switchDue = true ∧ values = s.items.switchBanks
  | .setDate .. => values = s.items.switchBanks
  | .startClear => False
  | .startConversion _ => False
  | .startSwitch => False

/-- What an event does before the whole update it asks for: it may write a report, and a late frame leaves its link awaiting the
answer again (R125, R151, R159). -/
structure State.UpToUpdate (s t : State) : Prop where
  lanes : t.lanes = s.lanes
  takeQueue : t.takeQueue = s.takeQueue
  holds : t.holds = s.holds
  store : t.store = s.store
  part : t.part = s.part
  command : t.command = s.command
  dirty : t.dirty = s.dirty
  notices : t.notices = s.notices
  generation : t.generation = s.generation
  calendar : t.calendar = s.calendar
  outstanding : ∀ lane, (t.link lane).outstanding = (s.link lane).outstanding
  low : ∀ a, a < 0x0100 → t.readByte a = s.readByte a

theorem State.UpToUpdate.refl (s : State) : s.UpToUpdate s :=
  ⟨rfl, rfl, rfl, rfl, rfl, rfl, rfl, rfl, rfl, rfl, fun _ => rfl, fun _ _ => rfl⟩

theorem State.UpToUpdate.writeFields {s : State} {fs : List Field} (above : ∀ f ∈ fs, 0x0100 ≤ f.address) :
    s.UpToUpdate (s.writeFields fs) := by
  refine ⟨rfl, rfl, rfl, rfl, rfl, rfl, rfl, rfl, rfl, rfl, fun _ => rfl, fun a low => ?_⟩
  refine unchangedOutside_writeFields s fs a fun range hr => ?_
  obtain ⟨f, hf, rfl⟩ := List.mem_map.mp hr
  have := above f hf
  simp only [Within]
  omega

/-- A plan that asks for an update asks for one of these. -/
def Plan.Asked (s : State) : Plan → Prop
  | .done _ => True
  | .update work values t => s.Asks work values ∧ s.UpToUpdate t

section
variable (s : State)

/-! ### The belt and the links -/

theorem State.dispatchPlan_asked {lane : Lane} {e : TrackEntry} (tracks : (s.tracker lane).state.tracks = true)
    (applies : (s.tracker lane).applies .print = some e) : (s.dispatchPlan lane e).Asked s := by
  unfold State.dispatchPlan
  split
  · trivial
  case h_2 passed =>
    split
    · trivial
    case h_2 hold held =>
      have isFor := List.find?_some held
      have seq : hold.seq = e.seq := by
        simp only [Hold.isFor, Bool.and_eq_true, beq_iff_eq] at isFor
        exact isFor.2
      exact ⟨⟨passed, by rw [seq]; exact held, tracks, ⟨e, applies, seq.symm⟩, rfl, rfl, rfl⟩, .refl s⟩

theorem State.printPhotocell_asked {lane : Lane} (tracks : (s.tracker lane).state.tracks = true) :
    (s.printPhotocell lane).Asked s := by
  unfold State.printPhotocell
  split
  · trivial
  case h_2 e applies =>
    split
    · exact s.dispatchPlan_asked tracks applies
    all_goals trivial

theorem State.sensorPlan_asked {lane : Lane} {photocell : Position} {edge : Edge} {tracked : State → Plan}
    (h : (s.tracker lane).state.tracks = true → (tracked s).Asked s) : (s.sensorPlan lane photocell edge tracked).Asked s := by
  unfold State.sensorPlan
  dsimp only
  split
  · trivial
  · split
    · exact h (by assumption)
    · trivial

theorem State.settlePlan_asked (lane : Lane) (result : PrintResult) (expired : Bool) :
    (s.settlePlan lane result expired).Asked s := by
  unfold State.settlePlan
  split
  · trivial
  case h_2 imprint outstanding => exact ⟨⟨imprint, outstanding, rfl⟩, .refl s⟩

/-- A late frame with an expiry held leaves the link awaiting its answer, and the exchange is settled as it stood (R154). -/
theorem State.settlePlan_late_asked (lane : Lane) {k : Link} (same : k.outstanding = (s.link lane).outstanding)
    (result : PrintResult) (expired : Bool) : ((s.setLink lane k).settlePlan lane result expired).Asked s := by
  unfold State.settlePlan
  split
  · trivial
  case h_2 imprint outstanding =>
    rw [link_setLink, same] at outstanding
    refine ⟨⟨imprint, outstanding, rfl⟩, rfl, rfl, rfl, rfl, rfl, rfl, rfl, rfl, rfl, rfl, fun other => ?_, fun _ _ => rfl⟩
    by_cases eq : other = lane
    · subst eq
      rw [link_setLink, same]
    · exact congrArg Link.outstanding (PerLane.get_set_other _ _ eq)

theorem State.answerPlan_asked (lane : Lane) (frame : BitVec 48) : (s.answerPlan lane frame).Asked s := by
  unfold State.answerPlan
  dsimp only
  split
  · split
    · trivial
    · split
      · trivial
      · split
        · exact s.settlePlan_asked ..
        · split
          · exact s.settlePlan_late_asked lane (k := { s.link lane with late := none, state := .awaiting }) rfl _ _
          · trivial
  · trivial

theorem State.expiryPlan_asked (lane : Lane) : (s.expiryPlan lane).Asked s := by
  unfold State.expiryPlan
  dsimp only
  split
  · trivial
  · split
    · exact s.settlePlan_asked ..
    · trivial
    · trivial

theorem State.linkPlan_asked {lane : Lane} {plan : State → Plan} (h : (plan s).Asked s) : (s.linkPlan lane plan).Asked s := by
  unfold State.linkPlan
  split
  · exact h
  · trivial

/-! ### The commands -/

theorem accountsReport_above (kind : ReportKind) : ∀ f ∈ accountsReport s kind, 0x0100 ≤ f.address := by
  have laid : LaidOut accountsReportAddress (accountsReportAddress + 28 + 10 * s.items.accounts.length) (accountsReport s kind) :=
    LaidOut.append (mid := accountsReportAddress + 28)
      ⟨le_rfl, le_rfl, le_rfl, le_rfl, le_rfl, le_rfl, le_rfl, le_rfl, le_rfl, le_rfl⟩ (laidOut_accountFields _ _)
  exact fun f hf => le_trans (by decide) (laid.within hf).1

theorem closePeriodPlan_asked : (closePeriodPlan s).Asked s := ⟨rfl, .writeFields (accountsReport_above s .close)⟩

theorem claimPlan_asked (claimed : List Nat) {t : State} (upTo : s.UpToUpdate t) : (claimPlan claimed t).Asked s := by
  refine ⟨⟨claimed, rfl, ?_⟩, upTo⟩
  rw [State.items, State.items, upTo.store]

theorem claimSpoiledPlan_asked (limit : Nat) : (claimSpoiledPlan limit s).Asked s := by
  refine claimPlan_asked s _ (.writeFields fun f hf => ?_)
  exact le_trans (by decide) ((laidOut_spoiledReport s limit).within hf).1

theorem installLicencePlan_asked (x : LicenceArguments) (locked : s.part = .locked) : (installLicencePlan x s).Asked s := by
  unfold installLicencePlan
  split
  · trivial
  · exact ⟨⟨locked, _, _, rfl⟩, .refl s⟩

theorem commandWork_asked {i : Instr} (taken : takenInPart i s.part = true) : (commandWork i s).Asked s := by
  cases i with
  | setDate day minute second pace =>
    show (setDatePlan day.toNat minute.toNat second.toNat s).Asked s
    rcases setDatePlan_cases day.toNat minute.toNat second.toNat s with eq | eq | eq <;> rw [eq]
    · trivial
    · exact ⟨rfl, .refl s⟩
    · trivial
  | configureLane x =>
    show (configureLanePlan x s).Asked s
    unfold configureLanePlan
    split
    · trivial
    · split
      · trivial
      · split <;> trivial
  | installLicence x pace =>
    have locked : (s.part == .locked) = true := taken
    exact installLicencePlan_asked s x (eq_of_beq locked)
  | loadRates =>
    show (loadRatesPlan s).Asked s
    unfold loadRatesPlan
    split <;> trivial
  | applyVoucher x pace =>
    show (applyVoucherPlan x s).Asked s
    unfold applyVoucherPlan
    split
    · trivial
    · split
      · trivial
      · split
        · trivial
        · exact ⟨⟨_, _, _, rfl⟩, .refl s⟩
  | setAccount account state pace =>
    show (setAccountPlan account state s).Asked s
    unfold setAccountPlan
    split
    · exact ⟨⟨_, _, rfl⟩, .refl s⟩
    · trivial
  | setFundsAlert threshold pace =>
    show (setFundsAlertPlan threshold.toNat s).Asked s
    unfold setFundsAlertPlan
    split
    · exact ⟨⟨rfl, _, rfl⟩, .refl s⟩
    · trivial
  | openBatch lane id =>
    show (openBatchPlan lane id.toNat s).Asked s
    unfold openBatchPlan
    split
    · trivial
    · split <;> trivial
  | closeBatch lane =>
    show (closeBatchPlan lane s).Asked s
    unfold closeBatchPlan
    split
    · trivial
    · split <;> trivial
  | resumeLane lane =>
    show (resumeLanePlan lane s).Asked s
    unfold resumeLanePlan
    split
    · trivial
    · split <;> trivial
  | setPostdate offset =>
    show (setPostdatePlan offset.toNat s).Asked s
    unfold setPostdatePlan
    split <;> trivial
  | park pace =>
    show (parkPlan s).Asked s
    unfold parkPlan
    split
    · trivial
    · trivial
    case h_3 started unparked =>
      split
      · trivial
      · exact ⟨⟨started, unparked, rfl⟩, .refl s⟩
  | closePeriod pace => exact closePeriodPlan_asked s
  | claimSpoiled limit pace => exact claimSpoiledPlan_asked s _
  | _ => trivial

theorem commandPlan_asked (i : Instr) : (commandPlan i s).Asked s := by
  unfold commandPlan
  split
  case isTrue taken => exact commandWork_asked s taken
  case isFalse => trivial

theorem loadRatesCompletionPlan_asked : (loadRatesCompletionPlan s).Asked s := by
  unfold loadRatesCompletionPlan
  split
  · trivial
  · split
    · trivial
    · split
      · trivial
      · exact ⟨⟨_, rfl⟩, .refl s⟩

/-! ### Every event that may be held -/

theorem eventPlan_asked (i : Instr) : (eventPlan i s).Asked s := by
  cases i with
  | entry lane edge => exact s.sensorPlan_asked (tracked := fun s => .done (s.enter lane)) fun _ => trivial
  | rate lane edge => exact s.sensorPlan_asked (tracked := fun s => .done (s.ratePhotocell lane)) fun _ => trivial
  | print lane edge pace => exact s.sensorPlan_asked (tracked := fun s => s.printPhotocell lane) fun runs => s.printPhotocell_asked runs
  | exit lane edge => exact s.sensorPlan_asked (tracked := fun s => .done (s.exitPhotocell lane)) fun _ => trivial
  | frameSent lane => exact s.linkPlan_asked (plan := fun s => .done (s.frameSent lane)) trivial
  | answerReady lane => exact s.linkPlan_asked (plan := fun s => .done (s.answerReady lane)) trivial
  | answer lane frame pace => exact s.linkPlan_asked (plan := fun s => s.answerPlan lane frame) (s.answerPlan_asked lane frame)
  | answerTimerExpiry lane pace => exact s.linkPlan_asked (plan := fun s => s.expiryPlan lane) (s.expiryPlan_asked lane)
  | loadRatesCompletion pace => exact loadRatesCompletionPlan_asked s
  | encoderCount lane => trivial
  | run lane value => trivial
  | take => trivial
  | ratingCompletion => trivial
  | holdRequest => trivial
  | _ => exact commandPlan_asked s _

theorem HeldEvent.plan_asked (e : HeldEvent) : (e.plan s).Asked s := by
  cases e with
  | event i => exact eventPlan_asked s i
  | switchCheck =>
    show s.switchPlan.Asked s
    unfold State.switchPlan
    split
    case isTrue due => exact ⟨⟨due, rfl⟩, .refl s⟩
    case isFalse => trivial

end

end Sys2Proof.Machine
end

section
/-! SUPPORT. What the events that ask for no whole update do to the store, the holds and the quiet of the lanes (R113, R117,
R133, R176). -/

namespace Sys2Proof.Machine

/-! ### Quiet lanes -/

/-- Both lanes are STOPPED with nothing tracked. -/
def State.QuietLanes (s : State) : Prop := ∀ lane, (s.tracker lane).state = .stopped ∧ (s.tracker lane).queue = []

theorem State.quietOutsideOperating_iff (s : State) :
    s.QuietOutsideOperating ↔ (s.part ≠ .operating → s.QuietLanes ∧ s.holds = []) := by
  refine forall_congr' fun _ => ⟨fun ⟨a, b, free⟩ => ⟨fun lane => ?_, free⟩, fun ⟨quiet, free⟩ => ⟨quiet .a, quiet .b, free⟩⟩
  cases lane
  · exact a
  · exact b

theorem State.QuietLanes.within {s t : State} (quiet : s.QuietLanes) (h : QueuesWithin s t) : t.QuietLanes := by
  intro lane
  obtain ⟨state, queue⟩ := quiet lane
  obtain ⟨same, seqs⟩ := h.1 lane
  refine ⟨same.trans state, ?_⟩
  rw [Tracker.seqs, Tracker.seqs, queue] at seqs
  exact List.map_eq_nil_iff.mp (List.sublist_nil.mp seqs)

theorem State.QuietLanes.of_eq {s t : State} (quiet : s.QuietLanes) (lanes : t.lanes = s.lanes) : t.QuietLanes := by
  intro lane
  rw [State.tracker, lanes]
  exact quiet lane

theorem State.QuietLanes.idle {s : State} (quiet : s.QuietLanes) (lane : Lane) : (s.tracker lane).state.tracks = false := by
  rw [(quiet lane).1]
  rfl

/-! ### Holds released with a lane -/

/-- No hold is new, and only the lane's own may be gone. -/
def HoldsTrimmed (lane : Lane) (s t : State) : Prop :=
  t.holds.Sublist s.holds ∧ ∀ hold ∈ s.holds, hold.lane ≠ lane → hold ∈ t.holds

theorem HoldsTrimmed.of_eq {lane : Lane} {s t : State} (same : t.holds = s.holds) : HoldsTrimmed lane s t := by
  rw [HoldsTrimmed, same]
  exact ⟨.refl _, fun _ h _ => h⟩

theorem HoldsTrimmed.trans {lane : Lane} {s t u : State} (h : HoldsTrimmed lane s t) (h' : HoldsTrimmed lane t u) :
    HoldsTrimmed lane s u :=
  ⟨h'.1.trans h.1, fun hold listed apart => h'.2 hold (h.2 hold listed apart) apart⟩

theorem holdsTrimmed_releaseLane (s : State) (lane : Lane) : HoldsTrimmed lane s (s.releaseLane lane) := by
  unfold State.releaseLane
  split
  · exact ⟨List.filter_sublist, fun hold listed apart => List.mem_filter.mpr ⟨listed, by simpa using apart⟩⟩
  · exact .of_eq rfl

theorem holdsTrimmed_releaseHold (s : State) (lane : Lane) (seq : Nat) : HoldsTrimmed lane s (s.releaseHold lane seq) := by
  refine ⟨List.filter_sublist, fun hold listed apart => List.mem_filter.mpr ⟨listed, ?_⟩⟩
  simp [Hold.isFor, apart]

theorem holdsTrimmed_halt (s : State) (lane : Lane) (cause : HaltCause) : HoldsTrimmed lane s (s.halt lane cause) := by
  unfold State.halt
  dsimp only
  split
  · refine .trans (holdsTrimmed_releaseLane s lane) (.of_eq ?_)
    simp [State.releaseLane]
    split <;> simp
  · exact .of_eq rfl

theorem holdsTrimmed_enter (s : State) (lane : Lane) : HoldsTrimmed lane s (s.enter lane) := by
  unfold State.enter
  split
  · exact holdsTrimmed_halt s lane _
  · split <;> exact .of_eq (by simp)

theorem holdsTrimmed_encoderCount (s : State) (lane : Lane) : HoldsTrimmed lane s (s.encoderCount lane) := by
  unfold State.encoderCount
  dsimp only
  split
  · split
    · exact .trans (.of_eq rfl) (holdsTrimmed_halt _ lane _)
    · exact .of_eq rfl
  · exact .of_eq rfl

@[simp] theorem State.rateFilled_holds (s : State) (lane : Lane) (e : TrackEntry) (index : Nat) :
    (s.rateFilled lane e index).holds = s.holds := by
  unfold State.rateFilled
  dsimp only
  split
  · simp
  · split <;> simp

@[simp] theorem State.ratePhotocell_holds (s : State) (lane : Lane) : (s.ratePhotocell lane).holds = s.holds := by
  unfold State.ratePhotocell
  split
  · simp
  · split
    · split
      · simp
      · simp [State.rateLateFill]
    · simp

/-! ### An event without an update -/

/-- What an event without a whole update of its own may do to the funds: the store stands as it stood, holds may be released, or
one placed that the funds cover for an OPEN account, outside OPERATING it stays quiet, and what an update in its steps rests on
is left (R113, R133). -/
structure State.FundsMove (s t : State) : Prop where
  store : t.store = s.store
  inStore : t.inStore = s.inStore
  holds : t.holds.Sublist s.holds
    ∨ ∃ request, t.holds = s.holds ++ [request] ∧ request.amount ≤ s.available ∧ s.items.accountOpen request.account = true
  quiet : s.QuietOutsideOperating → t.QuietOutsideOperating
  kept : ∀ work values, s.inStore = some work → s.LawfulUpdate work values → t.LawfulUpdate work values

theorem State.FundsMove.refl (s : State) : s.FundsMove s := ⟨rfl, rfl, .inl (.refl _), id, fun _ _ _ h => h⟩

theorem State.items_of_store {s t : State} (store : t.store = s.store) : t.items = s.items := by rw [State.items, store]; rfl

/-- What an update in its steps rests on is kept with the retained items, the part state and, for a debit, its hold. -/
theorem State.LawfulUpdate.of_eq {s t : State} {work : Work} {values : Items} (h : s.LawfulUpdate work values)
    (items : t.items = s.items) (part : t.part = s.part)
    (kept : ∀ lane hold serial day, work = .debit lane hold serial day → hold.lane = lane → hold ∈ s.holds → hold ∈ t.holds) :
    t.LawfulUpdate work values := by
  cases work with
  | debit lane hold serial day =>
    obtain ⟨listed, own, left⟩ := h
    refine ⟨kept lane hold serial day rfl own listed, own, ?_⟩
    rwa [items]
  | install => exact part.trans h
  | startClear => exact part.trans h
  | startConversion stop => exact part.trans h
  | startSwitch => exact part.trans h
  | _ =>
    show t.items.descending ≤ _
    rw [items]
    exact h

/-- An event that leaves the part state and touches one lane, whose own debit is not in its steps. -/
theorem State.FundsMove.of_lane {s t : State} (lane : Lane) (store : t.store = s.store) (inStore : t.inStore = s.inStore)
    (part : t.part = s.part) (trimmed : HoldsTrimmed lane s t) (quiet : s.part ≠ .operating → s.QuietLanes → t.QuietLanes)
    (free : ∀ hold serial day, s.inStore ≠ some (.debit lane hold serial day)) : s.FundsMove t := by
  have items := State.items_of_store store
  refine ⟨store, inStore, .inl trimmed.1, fun h => ?_, fun work values busy h => ?_⟩
  · rw [State.quietOutsideOperating_iff] at h ⊢
    intro other
    rw [part] at other
    obtain ⟨lanes, none⟩ := h other
    exact ⟨quiet other lanes, List.sublist_nil.mp (none ▸ trimmed.1)⟩
  · refine h.of_eq items part fun of hold serial day debit own listed => trimmed.2 hold listed ?_
    rintro rfl
    rw [debit, ← own] at busy
    exact free hold serial day busy

/-- An event that leaves the part state and the holds. -/
theorem State.FundsMove.of_within {s t : State} (store : t.store = s.store) (inStore : t.inStore = s.inStore)
    (part : t.part = s.part) (holds : t.holds = s.holds) (within : QueuesWithin s t) : s.FundsMove t := by
  have items := State.items_of_store store
  refine ⟨store, inStore, .inl (holds ▸ .refl _), fun h => ?_, fun work values busy h => ?_⟩
  · rw [State.quietOutsideOperating_iff] at h ⊢
    intro other
    rw [part] at other
    obtain ⟨lanes, none⟩ := h other
    exact ⟨lanes.within within, holds.trans none⟩
  · exact h.of_eq items part fun _ _ _ _ _ _ listed => holds ▸ listed

/-- The store is in the steps of no update of a block that an event reaches (R133). -/
theorem State.not_inStore_of_mustWait {s : State} {e : HeldEvent} {asks : Bool} (may : s.mustWait e asks = false)
    {block : Block} (reaches : block ∈ e.blocks) {work : Work} (blocks : block ∈ work.blocks) : s.inStore ≠ some work := by
  intro busy
  have waits : e.blocks.any s.waits = true := by
    refine List.any_eq_true.mpr ⟨block, reaches, ?_⟩
    simp [State.waits, busy, blocks]
  simp [State.mustWait, State.busy, busy, waits] at may

end Sys2Proof.Machine
end

section
/-! SUPPORT. Every event that asks for no whole update moves the funds lawfully (R113, R114, R117, R133, R176). -/

namespace Sys2Proof.Machine

/-- A plan that asks for no update comes to a lawful move of the funds. -/
def Plan.Moves (s : State) : Plan → Prop
  | .done t => s.FundsMove t
  | .update .. => True

section
variable (s : State)

/-! ### The belt -/

theorem State.fundsMove_stray (lane : Lane) : s.FundsMove (s.stray lane) :=
  .of_within (by simp) (by simp) (by simp) (by simp) (queuesWithin_stray s lane)

theorem State.sensorPlan_moves {lane : Lane} {photocell : Position} {edge : Edge} {tracked : State → Plan}
    (h : (s.tracker lane).state.tracks = true → (tracked s).Moves s) : (s.sensorPlan lane photocell edge tracked).Moves s := by
  unfold State.sensorPlan
  dsimp only
  split
  · exact .refl s
  · split
    · exact h (by assumption)
    · exact s.fundsMove_stray lane

/-- A lane that tracks its pieces is not quiet. -/
theorem not_quietLanes_of_tracks {lane : Lane} (tracks : (s.tracker lane).state.tracks = true) : ¬ s.QuietLanes := by
  intro quiet
  rw [quiet.idle lane] at tracks
  cases tracks

variable {s} in
/-- An event of a lane's tracker, on a lane that tracks its pieces. -/
theorem State.FundsMove.of_tracked {t : State} {lane : Lane} (tracks : (s.tracker lane).state.tracks = true)
    (free : ∀ hold serial day, s.inStore ≠ some (.debit lane hold serial day)) (belt : OnBelt s t)
    (trimmed : HoldsTrimmed lane s t) : s.FundsMove t := by
  refine .of_lane lane ?_ ?_ ?_ trimmed (fun _ quiet => absurd quiet (not_quietLanes_of_tracks s tracks)) free <;>
    simp only [OnBelt] at belt <;> simp [belt]

theorem State.fundsMove_encoderCount {lane : Lane} (free : ∀ hold serial day, s.inStore ≠ some (.debit lane hold serial day)) :
    s.FundsMove (s.encoderCount lane) := by
  cases tracks : (s.tracker lane).state.tracks
  · have still : s.encoderCount lane = s := by simp [State.encoderCount, tracks]
    rw [still]
    exact .refl s
  · exact .of_tracked tracks free (s.encoderCount_onBelt lane) (holdsTrimmed_encoderCount s lane)

theorem State.fundsMove_runWrite {lane : Lane} (value : Bool)
    (free : ∀ hold serial day, s.inStore ≠ some (.debit lane hold serial day)) : s.FundsMove (s.runWrite lane value) := by
  refine .of_lane lane (by simp) (by simp) (by simp) (.of_eq (by simp)) (fun other quiet => ?_) free
  have still : s.runWrite lane value = s := by
    unfold State.runWrite
    rw [(quiet lane).1]
    cases value <;> simp [other]
  rwa [still]

theorem State.dispatchPlan_moves {lane : Lane} (e : TrackEntry) (tracks : (s.tracker lane).state.tracks = true)
    (free : ∀ hold serial day, s.inStore ≠ some (.debit lane hold serial day)) : (s.dispatchPlan lane e).Moves s := by
  unfold State.dispatchPlan
  split
  · refine .of_tracked tracks free (by simp [OnBelt]) (.trans (holdsTrimmed_releaseHold s lane e.seq) (.of_eq (by simp)))
  · split
    · exact .of_tracked tracks free (by simp [OnBelt]) (.of_eq (by simp))
    · trivial

theorem State.printPhotocell_moves {lane : Lane} (tracks : (s.tracker lane).state.tracks = true)
    (free : ∀ hold serial day, s.inStore ≠ some (.debit lane hold serial day)) : (s.printPhotocell lane).Moves s := by
  unfold State.printPhotocell
  split
  · exact s.fundsMove_stray lane
  · split
    · exact s.dispatchPlan_moves _ tracks free
    all_goals exact .of_tracked tracks free (by simp [OnBelt]) (.of_eq (by simp))

/-! ### The links -/

theorem State.settlePlan_moves (lane : Lane) (result : PrintResult) (expired : Bool) {t : State} (move : s.FundsMove t) :
    (t.settlePlan lane result expired).Moves s := by
  unfold State.settlePlan
  split
  · exact move
  · trivial

theorem State.fundsMove_setLink (lane : Lane) (k : Link) : s.FundsMove (s.setLink lane k) :=
  .of_within rfl rfl rfl rfl (.of_eq rfl rfl)

theorem State.answerPlan_moves (lane : Lane) (frame : BitVec 48) : (s.answerPlan lane frame).Moves s := by
  unfold State.answerPlan
  dsimp only
  split
  · split
    · exact s.fundsMove_setLink lane _
    · split
      · exact s.fundsMove_setLink lane _
      · split
        · exact s.settlePlan_moves _ _ _ (.refl s)
        · split
          · exact s.settlePlan_moves _ _ _ (s.fundsMove_setLink lane _)
          · exact s.fundsMove_setLink lane _
  · exact .refl s

theorem State.expiryPlan_moves (lane : Lane) : (s.expiryPlan lane).Moves s := by
  unfold State.expiryPlan
  dsimp only
  split
  · exact .refl s
  · split
    · exact s.settlePlan_moves _ _ _ (.refl s)
    · exact s.fundsMove_setLink lane _
    · exact .refl s

theorem State.linkPlan_moves {lane : Lane} {plan : State → Plan} (h : (plan s).Moves s) : (s.linkPlan lane plan).Moves s := by
  unfold State.linkPlan
  split
  · exact h
  · exact .refl s

theorem State.fundsMove_frameSent (lane : Lane) : s.FundsMove (s.frameSent lane) := by
  unfold State.frameSent
  dsimp only
  split
  · exact s.fundsMove_setLink lane _
  · exact .refl s

theorem State.fundsMove_answerReady (lane : Lane) : s.FundsMove (s.answerReady lane) := by
  unfold State.answerReady
  dsimp only
  split
  · exact s.fundsMove_setLink lane _
  · split
    · exact s.fundsMove_setLink lane _
    · exact .refl s
  · exact .refl s

/-! ### The rating unit and the funds unit -/

/-- What the rating unit changes: memory, the entries, and its own records. -/
theorem State.take_still : s.take.store = s.store ∧ s.take.part = s.part ∧ s.take.holds = s.holds := by
  unfold State.take
  split
  · dsimp only
    split <;> simp
  · simp

theorem State.ratingCompletion_still :
    s.ratingCompletion.store = s.store ∧ s.ratingCompletion.part = s.part ∧ s.ratingCompletion.holds = s.holds := by
  rcases s.ratingCompletion_cases with same | ⟨record, ended | ⟨e, ended | ended⟩⟩
  · simp [same]
  · simp [ended, State.endRating]
  · obtain ⟨postage, format, zone, weight, ended⟩ := ended
    rw [ended]
    generalize s.items.licence.map Licence.perPieceCap = cap
    simp [State.keepPriced, State.endRating]
  · obtain ⟨cause, ended⟩ := ended
    rw [ended]
    generalize s.items.licence.map Licence.perPieceCap = cap
    simp [State.keepRefused, State.endRating]

theorem State.fundsMove_take : s.FundsMove s.take := by
  obtain ⟨store, part, holds⟩ := s.take_still
  exact .of_within store s.take_sameOutside.inStore part holds (queuesWithin_take s)

theorem State.fundsMove_ratingCompletion : s.FundsMove s.ratingCompletion := by
  obtain ⟨store, part, holds⟩ := s.ratingCompletion_still
  exact .of_within store s.ratingCompletion_sameOutside.inStore part holds (queuesWithin_ratingCompletion s)

theorem State.refuseHold_still (request : Hold) (cause : DivertCause) :
    (s.refuseHold request cause).store = s.store ∧ (s.refuseHold request cause).part = s.part
      ∧ (s.refuseHold request cause).holds = s.holds := by
  unfold State.refuseHold
  dsimp only
  split <;> simp

theorem State.placeHold_still (request : Hold) :
    (s.placeHold request).store = s.store ∧ (s.placeHold request).part = s.part
      ∧ (s.placeHold request).holds = s.holds ++ [request] := by
  unfold State.placeHold
  dsimp only
  split <;> simp

variable {s} in
/-- What a hold that passes its checks has been checked for (R114). -/
theorem State.holdRefusal_none {request : Hold} (passes : s.holdRefusal request = none) :
    s.items.accountOpen request.account = true ∧ s.inspectionPasses = true ∧ request.amount ≤ s.available
      ∧ s.items.pieceCount + s.holds.length < largestSerial := by
  unfold State.holdRefusal at passes
  split at passes
  · cases passes
  case isFalse isOpen =>
    split at passes
    · cases passes
    case isFalse inspected =>
      split at passes
      · cases passes
      case isFalse funded =>
        simp only [not_or, not_lt, not_le] at funded
        exact ⟨by simpa using isOpen, by simpa using inspected, funded.1, funded.2⟩

theorem State.fundsMove_takeRequest : s.FundsMove s.takeRequest := by
  rcases s.takeRequest_cases with same | ⟨request, rest, -, void | refused | ⟨awaits, passes, placed⟩⟩
  · rw [same]
    exact .refl s
  · rw [void]
    exact .of_within rfl rfl rfl rfl (.of_eq rfl rfl)
  · obtain ⟨cause, refused⟩ := refused
    have within := queuesWithin_takeRequest s
    have inStore := s.takeRequest_sameOutside.inStore
    rw [refused] at within inStore ⊢
    obtain ⟨store, part, holds⟩ := State.refuseHold_still { s with requests := rest } request cause
    exact .of_within store inStore part holds within
  · have within := queuesWithin_takeRequest s
    have inStore := s.takeRequest_sameOutside.inStore
    rw [placed] at within inStore ⊢
    obtain ⟨store, part, holds⟩ := State.placeHold_still { s with requests := rest } request
    have items := State.items_of_store store
    obtain ⟨isOpen, -, covered, -⟩ := State.holdRefusal_none passes
    refine ⟨store, inStore, .inr ⟨request, holds, covered, isOpen⟩, fun h => ?_, fun work values busy h => ?_⟩
    · rw [State.quietOutsideOperating_iff] at h ⊢
      intro other
      rw [part] at other
      have empty := ((h other).1 request.lane).2
      simp [Tracker.find, empty] at awaits
    · exact h.of_eq items part fun _ _ _ _ _ _ listed => holds ▸ List.mem_append_left _ listed

end

end Sys2Proof.Machine
end

section
/-! SUPPORT. The tracker's operations on one lane leave the other lane alone; and what PARK leaves of the lanes (R47). -/

namespace Sys2Proof.Machine

/-- Only the one lane's tracker differs. -/
structure OnlyLane (lane : Lane) (s t : State) : Prop where
  other : ∀ other, other ≠ lane → t.tracker other = s.tracker other

theorem OnlyLane.refl (lane : Lane) (s : State) : OnlyLane lane s s := ⟨fun _ _ => rfl⟩

theorem OnlyLane.trans {lane : Lane} {s t u : State} (h : OnlyLane lane s t) (h' : OnlyLane lane t u) : OnlyLane lane s u :=
  ⟨fun other apart => (h'.other other apart).trans (h.other other apart)⟩

theorem OnlyLane.of_eq {lane : Lane} {s t : State} (lanes : t.lanes = s.lanes) : OnlyLane lane s t :=
  ⟨fun other _ => congrArg (PerLane.get · other) lanes⟩

theorem OnlyLane.lanes {lane : Lane} {s t : State} (h : OnlyLane lane s t) : t.lanes = s.lanes.set lane (t.tracker lane) := by
  have lanes : ∀ p q : PerLane Tracker, (∀ other, other ≠ lane → p.get other = q.get other) → p = q.set lane (p.get lane) := by
    rintro ⟨a, b⟩ ⟨c, d⟩ same
    cases lane
    · exact congrArg (PerLane.mk a) (same .b (by decide))
    · exact congrArg (fun x => PerLane.mk x b) (same .a (by decide))
  exact lanes _ _ h.other

section
variable {s t : State} {lane : Lane} (h : OnlyLane lane s t)
include h

theorem OnlyLane.setTracker (r : Tracker) : OnlyLane lane s (t.setTracker lane r) :=
  h.trans ⟨fun _ apart => tracker_setTracker_other t r apart⟩

theorem OnlyLane.onTracker (f : Tracker → Tracker) : OnlyLane lane s (t.onTracker lane f) := h.setTracker _

theorem OnlyLane.onEntry (seq : Nat) (f : TrackEntry → TrackEntry) : OnlyLane lane s (t.onEntry lane seq f) := h.onTracker _

theorem OnlyLane.writeFields (fs : List Field) : OnlyLane lane s (t.writeFields fs) := h.trans (.of_eq rfl)

theorem OnlyLane.setSlot (of : Lane) (index : Nat) (state : SlotState) : OnlyLane lane s (t.setSlot of index state) :=
  h.trans (.of_eq rfl)

theorem OnlyLane.raise (c : Cause) : OnlyLane lane s (t.raise c) := h.trans (.of_eq rfl)

theorem OnlyLane.touchLane (of : Lane) : OnlyLane lane s (t.touchLane of) := h.trans (.of_eq (by simp))

theorem OnlyLane.onLink (of : Lane) (f : Link → Link) : OnlyLane lane s (t.onLink of f) := h.trans (.of_eq rfl)

theorem OnlyLane.releaseLane (of : Lane) : OnlyLane lane s (t.releaseLane of) := h.trans (.of_eq (by simp))

theorem OnlyLane.writeResults (e : TrackEntry) (fields : Nat → List Field) (bits : List Nat) :
    OnlyLane lane s (t.writeResults lane e fields bits) := by
  unfold State.writeResults
  dsimp only
  split
  · exact h.onEntry _ _
  · exact (h.onEntry _ _).writeFields _

theorem OnlyLane.endBatch : OnlyLane lane s (t.endBatch lane) := by
  unfold State.endBatch
  dsimp only
  split
  · exact ((h.writeFields _).raise _).onTracker _
  · exact h

theorem OnlyLane.slotDone (e : TrackEntry) (index : Nat) (outcome : PieceOutcome) (cause : Option DivertCause) :
    OnlyLane lane s (t.slotDone lane e index outcome cause) := by
  unfold State.slotDone
  exact (((((h.writeResults ..).setSlot ..).onTracker _).touchLane _).raise _).endBatch

theorem OnlyLane.endEntry (e : TrackEntry) (outcome : PieceOutcome) (cause : Option DivertCause) :
    OnlyLane lane s (t.endEntry lane e outcome cause) := by
  unfold State.endEntry
  refine OnlyLane.onTracker ?_ _
  split
  · exact h.slotDone ..
  · exact h

theorem OnlyLane.endEntries (otherwise : DivertCause) (es : List TrackEntry) :
    OnlyLane lane s (t.endEntries lane otherwise es) := by
  induction es generalizing t with
  | nil => exact h
  | cons e es ih => exact ih (h.endEntry ..)

theorem OnlyLane.drainCheck : OnlyLane lane s (t.drainCheck lane) := by
  unfold State.drainCheck
  dsimp only
  split
  · exact (h.setTracker _).touchLane _
  · exact h

theorem OnlyLane.emptyHalted : OnlyLane lane s (t.emptyHalted lane) := by
  unfold State.emptyHalted
  dsimp only
  split
  · exact ((h.endEntries ..).onTracker _).touchLane _
  · exact h

theorem OnlyLane.halt (cause : HaltCause) : OnlyLane lane s (t.halt lane cause) := by
  unfold State.halt
  dsimp only
  split
  · refine (((OnlyLane.releaseLane ?_ _).touchLane _).raise _).emptyHalted
    exact OnlyLane.trans (h.setTracker _) (.of_eq rfl)
  · exact h

theorem OnlyLane.settleEntry (seq : Nat) (result : PrintResult) : OnlyLane lane s (t.settleEntry lane seq result) := by
  unfold State.settleEntry
  split
  · exact h
  · dsimp only
    split
    · split
      · exact ((h.onEntry _ _).writeResults ..).endEntry ..
      · exact (h.onEntry _ _).writeResults ..
    · exact (h.onEntry _ _).writeResults ..

theorem OnlyLane.parkLane : OnlyLane lane s (t.parkLane lane) := by
  unfold State.parkLane
  extract_lets t₁ t₂ t₃
  have shown : OnlyLane lane s t₁ := by
    dsimp only [t₁]
    split
    · exact h
    · split
      · exact h
      · exact h.writeResults ..
  exact (((shown.endEntries ..).onTracker _).onLink _ _).touchLane _

end

/-! ### PARK -/

theorem State.tracker_touchLane (s : State) (lane other : Lane) : (s.touchLane lane).tracker other = s.tracker other :=
  congrArg (PerLane.get · other) (by simp)

/-- A parked lane is STOPPED with nothing tracked (R47). -/
theorem tracker_parkLane (s : State) (lane : Lane) :
    ((s.parkLane lane).tracker lane).state = .stopped ∧ ((s.parkLane lane).tracker lane).queue = [] := by
  unfold State.parkLane
  extract_lets s₁ s₂ s₃
  have parked : (s₃.onLink lane Link.park |>.touchLane lane).tracker lane
      = { s₂.tracker lane with state := .stopped, haltCause := none } := by
    rw [State.tracker_touchLane]
    exact tracker_setTracker s₂ lane _
  rw [parked]
  exact ⟨rfl, queue_endEntries s₁ lane .parked⟩

/-- A lane's end in PARK moves memory, the lane and its link, the notices and the marks of the status block. -/
@[simp] theorem State.parkLane_still (s : State) (lane : Lane) :
    (s.parkLane lane).part = s.part ∧ (s.parkLane lane).command = s.command ∧ (s.parkLane lane).generation = s.generation
      ∧ (s.parkLane lane).takeQueue = s.takeQueue ∧ (s.parkLane lane).rating = s.rating
      ∧ (s.parkLane lane).useCounts = s.useCounts ∧ (s.parkLane lane).load = s.load
      ∧ (s.parkLane lane).requests = s.requests ∧ (s.parkLane lane).holds = s.holds ∧ (s.parkLane lane).notice = s.notice
      ∧ (s.parkLane lane).calendar = s.calendar ∧ (s.parkLane lane).store = s.store := by
  unfold State.parkLane
  dsimp only
  split
  · simp
  · split <;> simp

/-- PARK leaves both lanes STOPPED with nothing tracked, no hold and the part PARKED (R47, R193). -/
theorem State.afterPark_quiet (s : State) : s.afterPark.QuietLanes ∧ s.afterPark.holds = [] ∧ s.afterPark.part = .parked := by
  have lanes : s.afterPark.lanes = (((State.abandonRating { s with holds := [] }).parkLane .a).parkLane .b).lanes := by
    simp [State.afterPark]
  refine ⟨State.QuietLanes.of_eq ?_ lanes, by simp [State.afterPark, State.abandonRating], by simp [State.afterPark]⟩
  intro lane
  cases lane
  · rw [(OnlyLane.parkLane (.refl .b _)).other .a (by decide)]
    exact tracker_parkLane _ .a
  · exact tracker_parkLane _ .b

end Sys2Proof.Machine
end

section
/-! SUPPORT. Every command and event that asks for no whole update moves the funds lawfully (R113, R133, R176, R182). -/

namespace Sys2Proof.Machine

section
variable {s : State}

theorem State.fundsMove_complete (status : Status) : s.FundsMove (s.complete status) :=
  .of_within (by simp) (by simp) (by simp) (by simp) (.of_eq (by simp) (by simp))

/-- A completion after an event that moves the funds lawfully. -/
theorem State.FundsMove.complete {t : State} (h : s.FundsMove t) (status : Status) : s.FundsMove (t.complete status) := by
  obtain ⟨store, inStore, holds, quiet, kept⟩ := h
  refine ⟨by simpa using store, by simpa using inStore, by simpa using holds, quiet, fun work values busy h => ?_⟩
  exact (kept work values busy h).of_eq rfl (by simp) fun _ _ _ _ _ _ listed => by simpa using listed

theorem configureLanePlan_moves (x : LaneArguments)
    (free : ∀ lane, laneOfCode x.lane.toNat = some lane → ∀ hold serial day, s.inStore ≠ some (.debit lane hold serial day)) :
    (configureLanePlan x s).Moves s := by
  unfold configureLanePlan
  split
  · exact s.fundsMove_complete _
  case h_2 lane named =>
    split
    · exact s.fundsMove_complete _
    · split
      · refine State.FundsMove.complete ?_ _
        exact .of_lane lane rfl rfl rfl (.of_eq rfl) (fun _ quiet => quiet.within (queuesWithin_onTracker (Tracker.within_of_queue rfl rfl)))
          (free lane named)
      · exact s.fundsMove_complete _

theorem openBatchPlan_moves (code : Byte) (id : Nat) : (openBatchPlan code id s).Moves s := by
  unfold openBatchPlan
  split
  · exact s.fundsMove_complete _
  case h_2 lane named =>
    split
    · have opened : s.FundsMove (s.onTracker lane (fun t => { t with batch := Batch.begin id s.calendar.stamp })) :=
        .of_within rfl rfl rfl rfl (queuesWithin_onTracker (Tracker.within_of_queue rfl rfl))
      exact opened.complete _
    · exact s.fundsMove_complete _

theorem closeBatchPlan_moves (code : Byte) : (closeBatchPlan code s).Moves s := by
  unfold closeBatchPlan
  split
  · exact s.fundsMove_complete _
  · split
    · refine State.FundsMove.complete (.of_within (by simp) (by simp) (by simp) (by simp) ?_) _
      exact (queuesWithin_onTracker (Tracker.within_of_queue rfl rfl)).trans (queuesWithin_endBatch _ _)
    · exact s.fundsMove_complete _

theorem resumeLanePlan_moves (code : Byte)
    (free : ∀ lane, laneOfCode code.toNat = some lane → ∀ hold serial day, s.inStore ≠ some (.debit lane hold serial day))
    (operating : s.part = .operating) : (resumeLanePlan code s).Moves s := by
  unfold resumeLanePlan
  split
  · exact s.fundsMove_complete _
  case h_2 lane named =>
    split
    · refine State.FundsMove.complete (.of_lane lane (by simp) (by simp) (by simp) (.of_eq (by simp)) ?_ (free lane ?_)) _
      · exact fun other => absurd operating other
      · unfold State.namedLane at named
        split at named
        case h_1 found =>
          split at named
          · rw [found, ← named]
          · cases named
        case h_2 => cases named
    · exact s.fundsMove_complete _

theorem mem_park_blocks_tracker (pace : Pace) (lane : Lane) : Block.tracker lane ∈ HeldEvent.blocks (.event (.park pace)) := by
  show _ ∈ [Block.tracker .a, .tracker .b, .link .a, .link .b, .ratingUnit, .funds]
  cases lane <;> simp

theorem mem_park_blocks_funds (pace : Pace) : Block.funds ∈ HeldEvent.blocks (.event (.park pace)) := by
  show _ ∈ [Block.tracker .a, .tracker .b, .link .a, .link .b, .ratingUnit, .funds]
  simp

/-- PARK ends everything at once: no debit, no settling and no work of the funds unit is in its steps (R133, R193). -/
theorem parkPlan_moves {pace : Pace} (may : s.mustWait (.event (.park pace)) (parkPlan s).asks = false) :
    (parkPlan s).Moves s := by
  unfold parkPlan
  split
  · exact .refl s
  · exact s.fundsMove_complete _
  case h_3 started unparked =>
    split
    · obtain ⟨quiet, holds, part⟩ := s.afterPark_quiet
      have store : s.afterPark.store = s.store := by simp [State.afterPark, State.abandonRating]
      refine ⟨store, s.afterPark_sameOutside.inStore, .inl (holds ▸ List.nil_sublist _), fun _ => ?_, fun work values busy h => ?_⟩
      · rw [State.quietOutsideOperating_iff]
        exact fun _ => ⟨quiet, holds⟩
      · have waits {block : Block} (reaches : block ∈ HeldEvent.blocks (.event (.park pace))) : block ∉ work.blocks :=
          fun blocks => State.not_inStore_of_mustWait may reaches blocks busy
        cases work with
        | debit lane hold serial day =>
          exact absurd (List.mem_singleton.mpr rfl) (waits (block := .tracker lane) (mem_park_blocks_tracker pace lane))
        | install => exact absurd (List.mem_singleton.mpr rfl) (waits (block := .funds) (mem_park_blocks_funds pace))
        | startClear => exact absurd h started
        | startConversion stop => exact absurd h started
        | startSwitch => exact absurd h started
        | _ =>
          show Items.descending _ ≤ _
          rw [State.items_of_store store]
          exact h
    · trivial

theorem closeSetupPlan_moves (setup : s.part = .setup) : (closeSetupPlan s).Moves s := by
  refine ⟨by simp, by simp, .inl (by simp), fun _ other => absurd (by simp) other, fun work values _ h => ?_⟩
  cases work with
  | debit lane hold serial day => simpa [State.LawfulUpdate, State.items] using h
  | install => exact nomatch setup.symm.trans h
  | startClear => exact nomatch setup.symm.trans h
  | startConversion stop => exact nomatch setup.symm.trans h
  | startSwitch => exact nomatch setup.symm.trans h
  | _ => exact h

/-- A command that keeps the units, the store and the part state. -/
theorem State.FundsMove.of_sameUnits {t : State} (units : SameUnits s t) (outside : SameOutside s t) (store : t.store = s.store)
    (part : t.part = s.part) : s.FundsMove t :=
  .of_within store outside.inStore part units.2.2.2.2.2.2 (.of_eq units.1 units.2.2.1)

/-- A command whose plan's state keeps the store and the part state. -/
theorem Plan.moves_of_sameUnits {plan : Plan} (units : SameUnits s plan.state) (outside : SameOutside s plan.state)
    (still : plan.state.store = s.store ∧ plan.state.part = s.part) : plan.Moves s := by
  cases plan with
  | done t => exact .of_sameUnits units outside still.1 still.2
  | update => trivial

/-- A command that reaches no unit leaves the store as it stands, and all but CLOSE SETUP the part state. -/
theorem commandWork_still {i : Instr} (other : commandReachesUnits i = false) (notClose : i ≠ .closeSetup) (s : State) :
    (commandWork i s).state.store = s.store ∧ (commandWork i s).state.part = s.part := by
  have answered (status : Status) : (s.answerWith status).state.store = s.store ∧ (s.answerWith status).state.part = s.part := by
    simp [State.answerWith]
  cases i with
  | setDate day minute second pace =>
    show (setDatePlan day.toNat minute.toNat second.toNat s).state.store = _ ∧ (setDatePlan day.toNat minute.toNat second.toNat s).state.part = _
    rcases setDatePlan_cases day.toNat minute.toNat second.toNat s with eq | eq | eq <;> rw [eq]
    · exact answered _
    · exact ⟨rfl, rfl⟩
    · rw [State.setCalendar, State.inspect_eq]
      exact ⟨rfl, rfl⟩
  | configureLane => cases other
  | openBatch => cases other
  | closeBatch => cases other
  | resumeLane => cases other
  | park => cases other
  | closeSetup => exact absurd rfl notClose
  | installLicence x pace =>
    show (installLicencePlan x s).state.store = _ ∧ (installLicencePlan x s).state.part = _
    unfold installLicencePlan
    split
    · exact answered _
    · exact ⟨rfl, rfl⟩
  | loadRates =>
    show (loadRatesPlan s).state.store = _ ∧ (loadRatesPlan s).state.part = _
    unfold loadRatesPlan
    split <;> exact ⟨rfl, rfl⟩
  | applyVoucher x pace =>
    show (applyVoucherPlan x s).state.store = _ ∧ (applyVoucherPlan x s).state.part = _
    unfold applyVoucherPlan
    split
    · exact answered _
    · split
      · exact answered _
      · split <;> exact ⟨rfl, rfl⟩
  | setAccount account state pace =>
    show (setAccountPlan account state s).state.store = _ ∧ (setAccountPlan account state s).state.part = _
    unfold setAccountPlan
    split <;> exact ⟨rfl, rfl⟩
  | setFundsAlert threshold pace =>
    show (setFundsAlertPlan threshold.toNat s).state.store = _ ∧ (setFundsAlertPlan threshold.toNat s).state.part = _
    unfold setFundsAlertPlan
    split <;> exact ⟨rfl, rfl⟩
  | setPostdate offset =>
    show (setPostdatePlan offset.toNat s).state.store = _ ∧ (setPostdatePlan offset.toNat s).state.part = _
    unfold setPostdatePlan
    split <;> exact ⟨rfl, rfl⟩
  | _ => exact ⟨rfl, rfl⟩

theorem trackerBlock_of_code {code : Byte} {lane : Lane} (named : laneOfCode code.toNat = some lane) :
    Block.tracker lane ∈ trackerBlock code := by
  rw [trackerBlock, named]
  exact List.mem_singleton.mpr rfl

/-- No debit of a lane is in its steps when an event comes to the lane's tracker (R133). -/
theorem State.no_debit_of_mustWait {e : HeldEvent} {asks : Bool} (may : s.mustWait e asks = false) {lane : Lane}
    (reaches : Block.tracker lane ∈ e.blocks) (hold : Hold) (serial day : Nat) :
    s.inStore ≠ some (.debit lane hold serial day) :=
  State.not_inStore_of_mustWait may reaches (List.mem_singleton.mpr rfl)

theorem commandPlan_moves (i : Instr) (may : s.mustWait (.event i) (commandPlan i s).asks = false) :
    (commandPlan i s).Moves s := by
  unfold commandPlan at may ⊢
  split at may
  case isFalse untaken =>
    rw [if_neg untaken]
    exact s.fundsMove_complete _
  case isTrue taken =>
    rw [if_pos taken]
    cases i with
    | configureLane x =>
      exact configureLanePlan_moves x fun lane named => State.no_debit_of_mustWait may (trackerBlock_of_code named)
    | openBatch lane id => exact openBatchPlan_moves lane _
    | closeBatch lane => exact closeBatchPlan_moves lane
    | resumeLane lane =>
      refine resumeLanePlan_moves lane (fun lane named => State.no_debit_of_mustWait may (trackerBlock_of_code named)) ?_
      exact eq_of_beq (show (s.part == .operating) = true from taken)
    | park pace => exact parkPlan_moves may
    | closeSetup => exact closeSetupPlan_moves (eq_of_beq (show (s.part == .setup) = true from taken))
    | _ =>
      exact Plan.moves_of_sameUnits (commandWork_sameUnits rfl s) (commandWork_sameOutside _ s)
        (commandWork_still rfl (by nofun) s)

theorem loadRatesCompletionPlan_moves : (loadRatesCompletionPlan s).Moves s := by
  refine Plan.moves_of_sameUnits (loadRatesCompletionPlan_sameUnits s) (loadRatesCompletionPlan_sameOutside s) ?_
  unfold loadRatesCompletionPlan
  split
  · exact ⟨rfl, rfl⟩
  · split
    · exact ⟨rfl, rfl⟩
    · split <;> exact ⟨rfl, rfl⟩

theorem HeldEvent.plan_moves (e : HeldEvent) (may : s.mustWait e (e.plan s).asks = false) : (e.plan s).Moves s := by
  have free {lane : Lane} (reaches : Block.tracker lane ∈ e.blocks) (hold : Hold) (serial day : Nat) :=
    State.no_debit_of_mustWait may reaches hold serial day
  cases e with
  | switchCheck =>
    show s.switchPlan.Moves s
    unfold State.switchPlan
    split
    · trivial
    · exact .refl s
  | event i =>
    cases i with
    | entry lane edge =>
      exact s.sensorPlan_moves (tracked := fun s => .done (s.enter lane)) fun tracks =>
        .of_tracked tracks (free (List.mem_singleton.mpr rfl)) (s.enter_onBelt lane) (holdsTrimmed_enter s lane)
    | rate lane edge =>
      exact s.sensorPlan_moves (tracked := fun s => .done (s.ratePhotocell lane)) fun tracks =>
        .of_tracked tracks (free (List.mem_singleton.mpr rfl)) (s.ratePhotocell_onBelt lane) (.of_eq (by simp))
    | print lane edge pace =>
      exact s.sensorPlan_moves (tracked := fun s => s.printPhotocell lane) fun tracks =>
        s.printPhotocell_moves tracks (free (List.mem_singleton.mpr rfl))
    | exit lane edge =>
      exact s.sensorPlan_moves (tracked := fun s => .done (s.exitPhotocell lane)) fun tracks =>
        .of_tracked tracks (free (List.mem_singleton.mpr rfl)) (s.exitPhotocell_onLanes lane).1 (.of_eq (by simp))
    | encoderCount lane => exact s.fundsMove_encoderCount (free (List.mem_singleton.mpr rfl))
    | run lane value => exact s.fundsMove_runWrite value (free (List.mem_singleton.mpr rfl))
    | loadRatesCompletion pace => exact loadRatesCompletionPlan_moves
    | take => exact s.fundsMove_take
    | ratingCompletion => exact s.fundsMove_ratingCompletion
    | holdRequest => exact s.fundsMove_takeRequest
    | frameSent lane => exact s.linkPlan_moves (plan := fun s => .done (s.frameSent lane)) (s.fundsMove_frameSent lane)
    | answerReady lane => exact s.linkPlan_moves (plan := fun s => .done (s.answerReady lane)) (s.fundsMove_answerReady lane)
    | answer lane frame pace => exact s.linkPlan_moves (plan := fun s => s.answerPlan lane frame) (s.answerPlan_moves lane frame)
    | answerTimerExpiry lane pace => exact s.linkPlan_moves (plan := fun s => s.expiryPlan lane) (s.expiryPlan_moves lane)
    | _ => exact commandPlan_moves _ may

end

end Sys2Proof.Machine
end

section
/-! SUPPORT. The retained store through the rest of a whole update and through START: what holds of the retained items, now and
as an update in its steps will leave them (R133, R135 to R137). -/

namespace Sys2Proof.Machine

/-- A property of the retained items holds of them now and of the new values of an update in its steps. -/
structure State.StoreHas (G : Items → Prop) (s : State) : Prop where
  now : G s.items
  soon : ∀ phase values, s.store.record = .inSteps phase values → G values.items

theorem State.StoreHas.of_store {G : Items → Prop} {s t : State} (h : s.StoreHas G) (store : t.store = s.store) :
    t.StoreHas G := by
  refine ⟨?_, fun phase values record => h.soon phase values (store ▸ record)⟩
  rw [State.items_of_store store]
  exact h.now

/-- With the update record EMPTY nothing more is to come. -/
theorem State.StoreHas.of_empty {G : Items → Prop} {s : State} (h : G s.items) (record : s.store.record = .empty) :
    s.StoreHas G := ⟨h, fun _ _ other => nomatch record.symm.trans other⟩

theorem State.StoreHas.place {G : Items → Prop} (s : State) {values : NewValues} (h : G values.items) :
    (s.place values).StoreHas G := .of_empty h rfl

theorem State.StoreHas.beginUpdate {G : Items → Prop} {s : State} (now : G s.items) {values : Items} (soon : G values)
    (work : Work) (phase : Phase) : (s.beginUpdate work values phase).StoreHas G := by
  refine ⟨now, fun other given record => ?_⟩
  cases record
  exact soon

/-! ### Which store each part of START leaves -/

@[simp] theorem State.inspect_still (s : State) :
    s.inspect.store = s.store ∧ s.inspect.part = s.part ∧ s.inspect.command = s.command ∧ s.inspect.mem = s.mem
      ∧ s.inspect.generation = s.generation ∧ s.inspect.dirty = s.dirty ∧ s.inspect.load = s.load
      ∧ s.inspect.calendar = s.calendar := by
  rw [State.inspect_eq]
  simp

@[simp] theorem State.afterSwitch_still (s : State) :
    s.afterSwitch.store = s.store ∧ s.afterSwitch.part = s.part ∧ s.afterSwitch.command = s.command
      ∧ s.afterSwitch.mem = s.mem ∧ s.afterSwitch.generation = s.generation := by simp [State.afterSwitch]

@[simp] theorem State.faultFound_still (s : State) :
    s.faultFound.store = s.store ∧ s.faultFound.inStore = s.inStore ∧ s.faultFound.part = s.part
      ∧ s.faultFound.heldReset = s.heldReset ∧ s.faultFound.command = s.command := by simp [State.faultFound]

@[simp] theorem State.endStart_still (s : State) : s.endStart.store = s.store ∧ s.endStart.inStore = s.inStore := by
  unfold State.endStart
  dsimp only
  split <;> simp [State.writeWholeStatus]

theorem State.goOn_still {s : State} {steps : State → State} (h : (steps s).store = s.store ∧ (steps s).inStore = s.inStore) :
    (s.goOn steps).store = s.store ∧ (s.goOn steps).inStore = s.inStore := by
  unfold State.goOn
  split
  · exact ⟨rfl, rfl⟩
  · exact h

@[simp] theorem State.startFrom7_still (s : State) : s.startFrom7.store = s.store ∧ s.startFrom7.inStore = s.inStore := by
  simp [State.startFrom7]

@[simp] theorem State.afterStartSwitch_still (s : State) :
    s.afterStartSwitch.store = s.store ∧ s.afterStartSwitch.inStore = s.inStore := by
  obtain ⟨store, inStore⟩ := State.goOn_still s.afterSwitch.startFrom7_still
  exact ⟨store.trans s.afterSwitch_still.1, inStore.trans s.afterSwitch_sameOutside.inStore⟩

@[simp] theorem State.afterClear_still (s : State) : s.afterClear.store = s.store ∧ s.afterClear.inStore = s.inStore := by
  obtain ⟨store, inStore⟩ := State.goOn_still s.faultFound.endStart_still
  exact ⟨store.trans s.faultFound_still.1, inStore.trans s.faultFound_still.2.1⟩

@[simp] theorem State.warnInStart_still (s : State) :
    s.warnInStart.store = s.store ∧ s.warnInStart.inStore = s.inStore ∧ s.warnInStart.part = s.part := by
  unfold State.warnInStart
  split <;> simp

/-- START keeps in its part state while an update of its own is in its steps. -/
def State.StartInSteps (s : State) : Prop := ∀ work, s.inStore = some work → work.ofStart = true ∧ s.part = .start

theorem State.StartInSteps.of_none {s : State} (idle : s.inStore = none) : s.StartInSteps := by
  intro work busy
  rw [idle] at busy
  cases busy

/-! ### A property that START's updates keep -/

/-- A property of the retained items that the updates of START keep: the switch, the conversion and the clearing. -/
structure Items.KeptByStart (G : Items → Prop) : Prop where
  switch : ∀ x, G x → G x.switchBanks
  conversion : ∀ x, G x → G x.convertMarks
  cleared : G Items.cleared

section
variable {G : Items → Prop} (kept : Items.KeptByStart G) {s : State}
include kept

theorem storeHas_startFrom6 (h : s.StoreHas G) (stop : Option Phase) : (s.startFrom6 stop).StoreHas G := by
  unfold State.startFrom6
  split
  · split
    · exact .of_store (.place s (kept.switch _ h.now)) (State.afterStartSwitch_still _).1
    · exact .beginUpdate h.now (kept.switch _ h.now) _ _
  · exact h.of_store s.startFrom7_still.1

theorem storeHas_startFrom5 (h : s.StoreHas G) (pace : StartPace) : (s.startFrom5 pace).StoreHas G := by
  unfold State.startFrom5
  split
  · exact storeHas_startFrom6 kept h _
  · split
    · exact storeHas_startFrom6 kept (.place s (kept.conversion _ h.now)) _
    · exact .beginUpdate h.now (kept.conversion _ h.now) _ _

omit kept in
theorem storeHas_settleRecord (h : s.StoreHas G) : s.settleRecord.StoreHas G := by
  unfold State.settleRecord
  split
  · exact h
  · exact .of_empty h.now rfl
  case h_3 values record =>
    have placed : (s.place values).StoreHas G := .place s (h.soon _ _ record)
    split
    · exact placed.of_store (State.faultFound_still _).1
    · exact placed

theorem storeHas_startSteps (h : s.StoreHas G) (pace : StartPace) : (s.startSteps pace).StoreHas G := by
  unfold State.startSteps
  split
  · have settled := storeHas_settleRecord (h.of_store s.warnInStart_still.1)
    dsimp only
    split
    · split
      · exact .of_store (.place _ kept.cleared) (State.afterClear_still _).1
      · exact .beginUpdate settled.now kept.cleared _ _
    · exact storeHas_startFrom5 kept settled pace
  · exact h

end

/-! ### START's own updates in their steps -/

/-- The update record settled stands EMPTY, with the part at rest as it was. -/
theorem State.settleRecord_still (s : State) :
    s.settleRecord.store.record = .empty ∧ s.settleRecord.part = s.part
      ∧ (s.inStore = none → s.settleRecord.inStore = none) := by
  unfold State.settleRecord
  split
  case h_1 record => exact ⟨record, rfl, id⟩
  case h_2 => exact ⟨rfl, rfl, id⟩
  case h_3 => split <;> exact ⟨rfl, rfl, fun _ => rfl⟩

section
variable {s : State} (part : s.part = .start)
include part

theorem startInSteps_beginUpdate {work : Work} (start : work.ofStart = true) (values : Items) (phase : Phase) :
    (s.beginUpdate work values phase).StartInSteps := by
  intro other busy
  cases busy
  exact ⟨start, part⟩

theorem startInSteps_startFrom6 (idle : s.inStore = none) (stop : Option Phase) : (s.startFrom6 stop).StartInSteps := by
  unfold State.startFrom6
  split
  · split
    · exact .of_none (State.afterStartSwitch_still _).2
    · exact startInSteps_beginUpdate part rfl _ _
  · exact .of_none (s.startFrom7_still.2.trans idle)

theorem startInSteps_startFrom5 (idle : s.inStore = none) (pace : StartPace) : (s.startFrom5 pace).StartInSteps := by
  unfold State.startFrom5
  split
  · exact startInSteps_startFrom6 part idle _
  · split
    · exact startInSteps_startFrom6 (s := s.makeUpdate _ _) part rfl _
    · exact startInSteps_beginUpdate part rfl _ _

theorem startInSteps_startSteps (idle : s.inStore = none) (pace : StartPace) : (s.startSteps pace).StartInSteps := by
  obtain ⟨-, inStore, samePart⟩ := s.warnInStart_still
  obtain ⟨-, settledPart, atRest⟩ := s.warnInStart.settleRecord_still
  have part' : s.warnInStart.settleRecord.part = .start := settledPart.trans (samePart.trans part)
  have idle' := atRest (inStore.trans idle)
  unfold State.startSteps
  split
  · dsimp only
    split
    · split
      · exact .of_none (State.afterClear_still _).2
      · exact startInSteps_beginUpdate part' rfl _ _
    · exact startInSteps_startFrom5 part' idle' pace
  · exact .of_none idle

theorem startInSteps_after {work : Work} (start : work.ofStart = true) (values : NewValues) :
    ((s.place values).after work).StartInSteps := by
  cases work with
  | startClear => exact .of_none (State.afterClear_still _).2
  | startConversion stop =>
    simp only [State.after, State.goOn]
    split
    · exact .of_none rfl
    · exact startInSteps_startFrom6 (s := s.place values) part rfl stop
  | startSwitch => exact .of_none (State.afterStartSwitch_still _).2
  | _ => cases start

end

/-! ### The rest of a whole update -/

@[simp] theorem State.afterDebit_still (s : State) (lane : Lane) (hold : Hold) (serial day : Nat) :
    (s.afterDebit lane hold serial day).store = s.store ∧ (s.afterDebit lane hold serial day).part = s.part
      ∧ (s.afterDebit lane hold serial day).holds = withoutHold s.holds lane hold.seq := by
  rcases s.afterDebit_cases lane hold serial day with ⟨none, -⟩ | ⟨e, licence, -, -, found⟩
  · simp [none]
  · simp [found, State.dispatched]

@[simp] theorem State.afterSettle_still (s : State) (lane : Lane) (result : PrintResult) (expired : Bool) :
    (s.afterSettle lane result expired).store = s.store ∧ (s.afterSettle lane result expired).part = s.part := by
  unfold State.afterSettle
  split
  · simp
  · dsimp only
    split <;> split <;> simp

/-- The rest of an update that is not START's leaves the store as the update made it. -/
theorem State.after_store (s : State) {work : Work} (other : work.ofStart = false) : (s.after work).store = s.store := by
  cases work with
  | startClear => cases other
  | startConversion stop => cases other
  | startSwitch => cases other
  | debit lane hold serial day => exact (s.afterDebit_still lane hold serial day).1
  | settle lane result expired => exact (s.afterSettle_still lane result expired).1
  | park => simp [State.after, State.afterPark, State.abandonRating]
  | claim removed => cases removed <;> simp [State.after]
  | setAlert before =>
    simp only [State.after, State.afterSetAlert]
    split <;> simp
  | commit active => cases active <;> simp [State.after, State.afterCommit]
  | setDate day minute second => simp [State.after, State.setCalendar]
  | _ => simp [State.after]

theorem storeHas_after {G : Items → Prop} (kept : Items.KeptByStart G) (s : State) (work : Work) {values : NewValues}
    (h : G values.items) : ((s.place values).after work).StoreHas G := by
  have placed : (s.place values).StoreHas G := .place s h
  cases work with
  | startClear => exact placed.of_store (State.afterClear_still _).1
  | startConversion stop =>
    simp only [State.after, State.goOn]
    split
    · exact placed
    · exact storeHas_startFrom6 kept placed stop
  | startSwitch => exact placed.of_store (State.afterStartSwitch_still _).1
  | _ => exact placed.of_store (State.after_store _ rfl)

end Sys2Proof.Machine
end

section
/-! SUPPORT. The laws of the registers and the holds through every step (R111, R113, R118, R131, R136, R142). -/

namespace Sys2Proof.Machine

/-! ### The registers balance (R111) -/

theorem balanced_keptByStart : Items.KeptByStart Items.Balanced where
  switch _ h := h
  conversion _ h := h
  cleared := rfl

theorem holdsSum_sublist {xs ys : List Hold} (h : xs.Sublist ys) : holdsSum xs ≤ holdsSum ys :=
  (h.map Hold.amount).sum_le_sum fun _ _ => Nat.zero_le _

theorem amount_le_holdsSum {hold : Hold} {holds : List Hold} (listed : hold ∈ holds) : hold.amount ≤ holdsSum holds :=
  List.single_le_sum (fun _ _ => Nat.zero_le _) _ (List.mem_map_of_mem listed)

/-- A hold gone leaves the sum of the others. -/
theorem holdsSum_withoutHold {hold : Hold} {holds : List Hold} (listed : hold ∈ holds) :
    holdsSum (withoutHold holds hold.lane hold.seq) + hold.amount ≤ holdsSum holds := by
  induction holds with
  | nil => cases listed
  | cons x xs ih =>
    rcases List.mem_cons.mp listed with rfl | listed
    · have rest : holdsSum (withoutHold xs hold.lane hold.seq) ≤ holdsSum xs := holdsSum_sublist List.filter_sublist
      have gone : withoutHold (hold :: xs) hold.lane hold.seq = withoutHold xs hold.lane hold.seq := by
        simp [withoutHold, Hold.isFor]
      rw [gone]
      simp only [holdsSum, List.map_cons, List.sum_cons] at rest ⊢
      omega
    · have rest := ih listed
      by_cases same : x.isFor hold.lane hold.seq = true
      · have gone : withoutHold (x :: xs) hold.lane hold.seq = withoutHold xs hold.lane hold.seq := by simp [withoutHold, same]
        rw [gone]
        simp only [holdsSum, List.map_cons, List.sum_cons] at rest ⊢
        omega
      · have stays : withoutHold (x :: xs) hold.lane hold.seq = x :: withoutHold xs hold.lane hold.seq := by
          simp [withoutHold, same]
        rw [stays]
        simp only [holdsSum, List.map_cons, List.sum_cons] at rest ⊢
        omega

section
variable {s : State} (h : s.LawfulFunds)
include h

/-- What the laws of the funds come to, with the record's values apart. -/
theorem State.LawfulFunds.has : s.StoreHas Items.Balanced := ⟨h.1, fun phase values record => (h.2.2.2 phase values record).1⟩

theorem State.LawfulFunds.move {t : State} (move : s.FundsMove t) : t.LawfulFunds := by
  obtain ⟨balanced, covered, quiet, soon⟩ := h
  obtain ⟨store, inStore, holds, still, kept⟩ := move
  have items := State.items_of_store store
  refine ⟨by rwa [items], ?_, still quiet, fun phase values record => ?_⟩
  · rw [items]
    rcases holds with fewer | ⟨request, one, funded, -⟩
    · exact (holdsSum_sublist fewer).trans covered
    · rw [State.available] at funded
      simp only [one, holdsSum, List.map_append, List.sum_append, List.map_cons, List.map_nil, List.sum_cons, List.sum_nil] at *
      omega
  · rw [store] at record
    obtain ⟨now, lawful⟩ := soon phase values record
    refine ⟨now, fun work busy => ?_⟩
    rw [inStore] at busy
    exact kept work values.items busy (lawful work busy)

/-- The hold that a debit takes is covered by the descending register. -/
theorem State.LawfulFunds.covers {hold : Hold} (listed : hold ∈ s.holds) : hold.amount ≤ s.items.descending :=
  (amount_le_holdsSum listed).trans h.2.1

/-- The new values of every update balance, and leave of the funds what the update's own rest needs. -/
theorem State.LawfulFunds.asks {work : Work} {values : Items} (asks : s.Asks work values) :
    values.Balanced ∧ s.LawfulUpdate work values := by
  have balanced : s.items.ascending + s.items.descending = s.items.credit := h.1
  cases work with
  | debit lane hold serial day =>
    obtain ⟨-, held, -, -, -, -, rfl⟩ := asks
    have listed : hold ∈ s.holds := List.mem_of_find?_eq_some held
    have covered := h.covers listed
    have isFor := List.find?_some held
    simp only [Hold.isFor, Bool.and_eq_true, beq_iff_eq] at isFor
    refine ⟨?_, listed, isFor.1, ?_⟩
    · show s.items.ascending + hold.amount + (s.items.descending - hold.amount) = s.items.credit
      omega
    · exact Nat.sub_add_cancel covered
  | settle lane result expired =>
    obtain ⟨imprint, -, rfl⟩ := asks
    exact ⟨balanced, le_rfl⟩
  | park =>
    obtain ⟨-, -, rfl⟩ := asks
    exact ⟨balanced, le_rfl⟩
  | claim removed =>
    obtain ⟨claimed, -, rfl⟩ := asks
    exact ⟨balanced, le_rfl⟩
  | credit =>
    obtain ⟨amount, serial, day, rfl⟩ := asks
    refine ⟨?_, Nat.le_add_right _ _⟩
    show s.items.ascending + (s.items.descending + amount) = s.items.credit + amount
    omega
  | install =>
    obtain ⟨locked, licence, day, rfl⟩ := asks
    exact ⟨rfl, locked⟩
  | setAccount =>
    obtain ⟨account, isOpen, rfl⟩ := asks
    exact ⟨balanced, le_rfl⟩
  | setAlert before =>
    obtain ⟨-, alert, rfl⟩ := asks
    exact ⟨balanced, le_rfl⟩
  | closePeriod =>
    obtain rfl := asks
    exact ⟨balanced, le_rfl⟩
  | commit active =>
    obtain ⟨bank, rfl⟩ := asks
    cases active <;> exact ⟨balanced, le_rfl⟩
  | bankSwitch =>
    obtain ⟨-, rfl⟩ := asks
    exact ⟨balanced, le_rfl⟩
  | setDate day minute second =>
    obtain rfl := asks
    exact ⟨balanced, le_rfl⟩
  | startClear => cases asks
  | startConversion stop => cases asks
  | startSwitch => cases asks

theorem State.LawfulFunds.upToUpdate {t : State} (upTo : s.UpToUpdate t) (inStore : t.inStore = s.inStore) : t.LawfulFunds :=
  h.move (.of_within upTo.store inStore upTo.part upTo.holds (.of_eq upTo.lanes upTo.takeQueue))

/-- An update begun: its values stand in the update record. -/
theorem State.LawfulFunds.begun {work : Work} {values : Items} {t : State} (asks : s.Asks work values) (upTo : s.UpToUpdate t)
    (inStore : t.inStore = s.inStore) (phase : Phase) : (t.beginUpdate work values phase).LawfulFunds := by
  obtain ⟨balanced, covered, quiet, -⟩ := h.upToUpdate upTo inStore
  obtain ⟨now, lawful⟩ := h.asks asks
  refine ⟨balanced, covered, quiet, fun other given record => ?_⟩
  cases record
  refine ⟨now, fun work' busy => ?_⟩
  cases busy
  exact lawful.of_eq (show t.items = s.items from State.items_of_store upTo.store) upTo.part fun _ _ _ _ _ _ listed => upTo.holds ▸ listed

theorem State.LawfulFunds.plan (e : HeldEvent) (may : s.mustWait e (e.plan s).asks = false) :
    (e.plan s).Keeps State.LawfulFunds := by
  have moves := e.plan_moves may
  have asked := e.plan_asked s
  have outside := e.plan_sameOutside s
  cases plan : e.plan s with
  | done t =>
    rw [plan] at moves
    exact h.move moves
  | update work values t =>
    rw [plan] at asked outside
    exact fun phase => h.begun asked.1 asked.2 outside.inStore phase

/-! ### START (R135 to R137) -/

/-- In START nothing is tracked and no money is held. -/
theorem State.LawfulFunds.quiet {part : PartState} (at_ : s.part = part) (other : part ≠ .operating) :
    s.QuietLanes ∧ s.holds = [] := (s.quietOutsideOperating_iff.mp h.2.2.1) (at_ ▸ other)

omit h in
/-- Where nothing is tracked and no money is held, the registers alone make the funds lawful. -/
theorem State.LawfulFunds.of_quiet {t : State} (has : t.StoreHas Items.Balanced) (steps : t.StartInSteps)
    (quiet : t.QuietLanes) (holds : t.holds = []) : t.LawfulFunds := by
  refine ⟨has.now, by simp [holds, holdsSum], t.quietOutsideOperating_iff.mpr fun _ => ⟨quiet, holds⟩,
    fun phase values record => ⟨has.soon phase values record, fun work busy => ?_⟩⟩
  obtain ⟨start, part⟩ := steps work busy
  cases work <;> first | exact part | cases start

theorem State.LawfulFunds.start (pace : StartPace) : (s.startSteps pace).LawfulFunds := by
  by_cases steps : s.part = .start ∧ s.busy = false
  · obtain ⟨quiet, holds⟩ := h.quiet steps.1 (by decide)
    have units := s.startSteps_sameUnits pace
    have idle : s.inStore = none := by simpa [State.busy] using steps.2
    exact .of_quiet (storeHas_startSteps balanced_keptByStart h.has pace) (startInSteps_startSteps steps.1 idle pace) (quiet.of_eq units.1) (units.2.2.2.2.2.2.trans holds)
  · have still : s.startSteps pace = s := by rw [State.startSteps, if_neg steps]
    rwa [still]

/-! ### The rest of a whole update (R118, R131, R133) -/

omit h in
/-- Registers that balance and cover the holds, with the update record EMPTY. -/
theorem State.LawfulFunds.of_empty {t : State} (balanced : t.items.Balanced) (covered : holdsSum t.holds ≤ t.items.descending)
    (quiet : t.QuietOutsideOperating) (record : t.store.record = .empty) : t.LawfulFunds :=
  ⟨balanced, covered, quiet, fun _ _ other => nomatch record.symm.trans other⟩

omit h in
omit h in
omit h in
/-- A settling leaves quiet lanes quiet, and releases no hold of another lane. -/
theorem State.afterSettle_quiet (s : State) (lane : Lane) (result : PrintResult) (expired : Bool) :
    HoldsTrimmed lane s (s.afterSettle lane result expired)
      ∧ (s.QuietLanes → (s.afterSettle lane result expired).QuietLanes) := by
  unfold State.afterSettle
  split
  · exact ⟨.of_eq rfl, id⟩
  case h_2 imprint outstanding =>
    extract_lets s₁ s₂ s₃ s₄
    have still : s₂.lanes = s.lanes ∧ s₂.holds = s.holds := by
      dsimp only [s₂]
      split <;> exact ⟨rfl, rfl⟩
    have same : s₃.holds = s.holds := (State.settleEntry_onLanes s₂ lane imprint.seq result).2.2.trans still.2
    have halted : HoldsTrimmed lane s₃ s₄ := by
      dsimp only [s₄]
      split
      · exact holdsTrimmed_halt s₃ lane _
      · exact .of_eq rfl
    refine ⟨.trans (.of_eq same) (halted.trans (.of_eq (by simp))), fun quiet => ?_⟩
    have settled : s₃.QuietLanes := (quiet.of_eq still.1).within (queuesWithin_settleEntry s₂ lane imprint.seq result)
    have same : s₄ = s₃ := by
      dsimp only [s₄]
      split
      · simp [State.halt, settled.idle lane]
      · rfl
    have notHalting : s₃.emptyHalted lane = s₃ := by simp [State.emptyHalted, (settled lane).1]
    have notDraining : s₃.drainCheck lane = s₃ := by simp [State.drainCheck, (settled lane).1]
    rwa [same, notHalting, notDraining]

omit h in
/-- The part state after the rest of an update that reaches no unit: an install moves it on, START's end moves it, and no other. -/
theorem State.after_part (s : State) {work : Work} (units : work.reachesUnits = false) (start : work.ofStart = false)
    (install : work ≠ .install) : (s.after work).part = s.part := by
  cases work with
  | debit => cases units
  | settle => cases units
  | park => cases units
  | startClear => cases start
  | startConversion => cases start
  | startSwitch => cases start
  | install => exact absurd rfl install
  | claim removed => cases removed <;> simp [State.after]
  | setAlert before =>
    simp only [State.after, State.afterSetAlert]
    split <;> simp
  | commit active => cases active <;> simp [State.after, State.afterCommit]
  | setDate day minute second => simp [State.after, State.setCalendar]
  | _ => simp [State.after]

/-- The rest of an update that neither reaches a unit nor is START's or an install. -/
theorem State.LawfulFunds.after_other {work : Work} {phase : Phase} {values : NewValues} (busy : s.inStore = some work)
    (record : s.store.record = .inSteps phase values) (units : work.reachesUnits = false) (start : work.ofStart = false)
    (install : work ≠ .install) : ((s.place values).after work).LawfulFunds := by
  obtain ⟨-, covered, quiet, soon⟩ := h
  obtain ⟨balanced, lawful⟩ := soon phase values record
  have funded : s.items.descending ≤ values.items.descending := by
    have lawful := lawful work busy
    cases work with
    | debit => cases units
    | startClear => cases start
    | startConversion => cases start
    | startSwitch => cases start
    | install => exact absurd rfl install
    | _ => exact lawful
  have store := (s.place values).after_store start
  have same := (s.place values).after_sameUnits units
  have part := (s.place values).after_part units start install
  have items : ((s.place values).after work).items = values.items := State.items_of_store store
  have holds : ((s.place values).after work).holds = s.holds := same.2.2.2.2.2.2
  refine .of_empty (by rwa [items]) (by rw [items, holds]; omega) ?_ (congrArg Store.record store)
  rw [State.quietOutsideOperating_iff] at quiet ⊢
  intro other
  obtain ⟨lanes, free⟩ := quiet (fun operating => other (part.trans operating))
  exact ⟨lanes.of_eq same.1, holds.trans free⟩

theorem State.LawfulFunds.completes {work : Work} {phase : Phase} {values : NewValues} (busy : s.inStore = some work)
    (record : s.store.record = .inSteps phase values) : ((s.place values).after work).LawfulFunds := by
  have lawfulFunds := h
  obtain ⟨-, covered, quiet, soon⟩ := h
  obtain ⟨balanced, lawful⟩ := soon phase values record
  have lawful := lawful work busy
  have started : work.ofStart = true → ((s.place values).after work).LawfulFunds := by
    intro start
    have part : s.part = .start := by cases work <;> first | exact lawful | cases start
    obtain ⟨lanes, free⟩ := lawfulFunds.quiet part (by decide)
    have has := storeHas_after balanced_keptByStart s work balanced
    have units := (s.place values).after_sameUnits (work := work) (by cases work <;> first | rfl | cases start)
    exact .of_quiet has (startInSteps_after part start values) (lanes.of_eq units.1) (units.2.2.2.2.2.2.trans free)
  cases work with
  | startClear => exact started rfl
  | startConversion stop => exact started rfl
  | startSwitch => exact started rfl
  | debit lane hold serial day =>
    obtain ⟨listed, own, left⟩ := lawful
    obtain ⟨store, part, holds⟩ := (s.place values).afterDebit_still lane hold serial day
    have items : ((s.place values).afterDebit lane hold serial day).items = values.items := State.items_of_store store
    have gone := holdsSum_withoutHold listed
    rw [own] at gone
    refine .of_empty (by rwa [State.after, items]) ?_ ?_ (congrArg Store.record store)
    · rw [State.after, items, holds]
      show holdsSum (withoutHold s.holds lane hold.seq) ≤ _
      omega
    · rw [State.quietOutsideOperating_iff] at quiet ⊢
      intro other
      obtain ⟨-, free⟩ := quiet (fun operating => other (part.trans operating))
      rw [free] at listed
      cases listed
  | settle lane result expired =>
    obtain ⟨store, part⟩ := (s.place values).afterSettle_still lane result expired
    obtain ⟨trimmed, still⟩ := (s.place values).afterSettle_quiet lane result expired
    have items : ((s.place values).afterSettle lane result expired).items = values.items := State.items_of_store store
    have funded : s.items.descending ≤ values.items.descending := lawful
    have fewer := holdsSum_sublist trimmed.1
    refine .of_empty (by rwa [State.after, items]) ?_ ?_ (congrArg Store.record store)
    · rw [State.after, items]
      exact fewer.trans (covered.trans funded)
    · rw [State.quietOutsideOperating_iff] at quiet ⊢
      intro other
      obtain ⟨lanes, free⟩ := quiet (fun operating => other (part.trans operating))
      exact ⟨still lanes, List.sublist_nil.mp (free ▸ trimmed.1)⟩
  | park =>
    obtain ⟨lanes, holds, -⟩ := (s.place values).afterPark_quiet
    have store := (s.place values).after_store (work := .park) rfl
    have items : (s.place values).afterPark.items = values.items := State.items_of_store store
    refine .of_empty (by rwa [State.after, items]) ?_ ?_ (congrArg Store.record store)
    · rw [State.after, holds]
      exact Nat.zero_le _
    · exact (State.quietOutsideOperating_iff _).mpr fun _ => ⟨lanes, holds⟩
  | install =>
    have locked : s.part = .locked := lawful
    obtain ⟨lanes, free⟩ := lawfulFunds.quiet locked (by decide)
    have store := (s.place values).after_store (work := .install) rfl
    have same := (s.place values).after_sameUnits (work := .install) rfl
    have items : ((s.place values).after .install).items = values.items := State.items_of_store store
    have holds : ((s.place values).after .install).holds = [] := same.2.2.2.2.2.2.trans free
    refine .of_empty (by rwa [items]) (by rw [holds]; exact Nat.zero_le _) ?_ (congrArg Store.record store)
    exact (State.quietOutsideOperating_iff _).mpr fun _ => ⟨lanes.of_eq same.1, holds⟩
  | _ => exact lawfulFunds.after_other busy record rfl rfl nofun

end

end Sys2Proof.Machine
end

section
/-! SUPPORT. The laws of the accounts and of the banks through every step (R90, R103, R106, R118, R121, R122, R125). -/

namespace Sys2Proof.Machine

/-! ### Accounts -/

theorem onAccount_map_eq {β : Type} (g : Account → β) {f : Account → Account} (same : ∀ x, g (f x) = g x) (xs : List Account)
    (n : Nat) : (onAccount f xs n).map g = xs.map g := by
  induction xs generalizing n with
  | nil => rfl
  | cons x xs ih =>
    cases n with
    | zero => simp [onAccount, same]
    | succ n => simp [onAccount, ih]

theorem sum_map_onAccount {g : Account → Nat} {f : Account → Account} {amount : Nat} (more : ∀ x, g (f x) = g x + amount)
    (xs : List Account) {n : Nat} (listed : n < xs.length) :
    ((onAccount f xs n).map g).sum = (xs.map g).sum + amount := by
  induction xs generalizing n with
  | nil => simp at listed
  | cons x xs ih =>
    cases n with
    | zero =>
      simp only [onAccount, List.map_cons, List.sum_cons, more]
      omega
    | succ n =>
      have rest := ih (by simpa using listed)
      simp only [onAccount, List.map_cons, List.sum_cons, rest]
      omega

theorem Items.account_lt_of_open {x : Items} (all : x.accounts.length = 32) {account : Nat}
    (isOpen : x.accountOpen account = true) : account < 32 := by
  unfold Items.accountOpen at isOpen
  split at isOpen
  case h_1 record found => exact all ▸ (List.getElem?_eq_some_iff.mp found).1
  case h_2 => cases isOpen

/-! ### Banks -/

theorem BankId.other_ne (bank : BankId) : bank.other ≠ bank := by cases bank <;> decide

/-- One bank ACTIVE and the other not. -/
theorem one_active_of_roles {p : PerBank Bank} (bank : BankId) (active : (p.get bank).role = .active)
    (other : (p.get bank.other).role ≠ .active) : p.one.role = .active ↔ p.two.role ≠ .active := by
  cases bank
  · exact ⟨fun _ => other, fun _ => active⟩
  · exact ⟨fun one => absurd one other, fun two => absurd active two⟩

theorem Items.activeBank_role {x : Items} (one : x.banks.one.role = .active ↔ x.banks.two.role ≠ .active) :
    (x.banks.get x.activeBank).role = .active ∧ (x.banks.get x.activeBank.other).role ≠ .active := by
  unfold Items.activeBank
  split
  case isTrue active => exact ⟨active, one.mp active⟩
  case isFalse idle => exact ⟨not_not.mp fun two => idle (one.mpr two), idle⟩

theorem one_active_switchBanks (x : Items) :
    x.switchBanks.banks.one.role = .active ↔ x.switchBanks.banks.two.role ≠ .active := by
  unfold Items.switchBanks
  cases x.activeBank <;> simp [PerBank.set, BankId.other]

theorem one_active_commitBank {x : Items} (one : x.banks.one.role = .active ↔ x.banks.two.role ≠ .active) (bank : Bank)
    (active : Bool) :
    (x.commitBank bank active).banks.one.role = .active ↔ (x.commitBank bank active).banks.two.role ≠ .active := by
  have now := (Items.activeBank_role one).1
  unfold Items.commitBank
  cases active
  · refine one_active_of_roles x.activeBank ?_ ?_
    · simp [PerBank.get_set_other _ _ (BankId.other_ne _).symm, now]
    · simp
  · cases x.activeBank <;> simp [PerBank.set, BankId.other]

/-! ### The books -/

theorem Items.LawfulBooks.of_eq {x y : Items} (h : x.LawfulBooks) (accounts : y.accounts = x.accounts)
    (mark : y.periodMark = x.periodMark) (ascending : y.ascending = x.ascending) (pieces : y.pieceCount = x.pieceCount)
    (banks : y.banks = x.banks) : y.LawfulBooks := by
  obtain ⟨all, usage, counts, one⟩ := h
  exact ⟨accounts ▸ all, by rw [accounts, mark, ascending]; exact usage, by rw [accounts, pieces]; exact counts, banks ▸ one⟩

theorem lawfulBooks_clearedWith (banks : PerBank Bank) (one : banks.one.role = .active ↔ banks.two.role ≠ .active) :
    Items.LawfulBooks { Items.cleared with banks := banks } := ⟨rfl, rfl, Nat.le_refl _, one⟩

theorem lawfulBooks_switchBanks {x : Items} (h : x.LawfulBooks) : x.switchBanks.LawfulBooks := by
  obtain ⟨all, usage, counts, -⟩ := h
  exact ⟨all, usage, counts, one_active_switchBanks x⟩

theorem lawfulBooks_keptByStart : Items.KeptByStart Items.LawfulBooks where
  switch _ h := lawfulBooks_switchBanks h
  conversion _ h := h.of_eq rfl rfl rfl rfl rfl
  cleared := lawfulBooks_cleared

theorem lawfulBooks_debit {x : Items} (h : x.LawfulBooks) (lane : Lane) {hold : Hold} (known : hold.account < 32)
    (serial day : Nat) : (x.debit lane hold serial day).LawfulBooks := by
  obtain ⟨all, usage, counts, one⟩ := h
  have listed : hold.account < x.accounts.length := by omega
  refine ⟨?_, ?_, ?_, one⟩
  · exact (length_onAccount ..).trans all
  · show ((onAccount _ x.accounts hold.account).map Account.usage).sum + x.periodMark = x.ascending + hold.amount
    rw [sum_map_onAccount (amount := hold.amount) (fun _ => rfl) _ listed]
    omega
  · show ((onAccount _ x.accounts hold.account).map Account.pieces).sum ≤ x.pieceCount + 1
    rw [sum_map_onAccount (amount := 1) (fun _ => rfl) _ listed]
    omega

theorem lawfulBooks_setAccount {x : Items} (h : x.LawfulBooks) (account : Nat) (isOpen : Bool) :
    (x.setAccount account isOpen).LawfulBooks := by
  obtain ⟨all, usage, counts, one⟩ := h
  refine ⟨(length_onAccount ..).trans all, ?_, ?_, one⟩
  · rw [Items.setAccount, onAccount_map_eq (f := fun k => { k with isOpen := isOpen }) Account.usage fun _ => rfl]
    exact usage
  · rw [Items.setAccount, onAccount_map_eq (f := fun k => { k with isOpen := isOpen }) Account.pieces fun _ => rfl]
    exact counts

theorem lawfulBooks_closePeriod {x : Items} (h : x.LawfulBooks) : x.closePeriod.LawfulBooks := by
  obtain ⟨all, -, -, one⟩ := h
  refine ⟨by simpa [Items.closePeriod] using all, ?_, ?_, one⟩ <;> simp [Items.closePeriod, Function.comp_def]

section
variable {s : State} (h : s.LawfulBooks)
include h

theorem State.LawfulBooks.has : s.StoreHas Items.LawfulBooks := ⟨h.1, h.2.2⟩

theorem State.LawfulBooks.move {t : State} (move : s.FundsMove t) : t.LawfulBooks := by
  obtain ⟨now, soon⟩ := h.has.of_store move.store
  obtain ⟨books, known, -⟩ := h
  refine ⟨now, ?_, soon⟩
  rcases move.holds with fewer | ⟨request, one, -, isOpen⟩
  · exact fun hold listed => known hold (fewer.subset listed)
  · rw [one]
    intro hold listed
    rcases List.mem_append.mp listed with listed | listed
    · exact known hold listed
    · rw [List.mem_singleton.mp listed]
      exact Items.account_lt_of_open books.1 isOpen

theorem State.LawfulBooks.asks {work : Work} {values : Items} (asks : s.Asks work values) : values.LawfulBooks := by
  obtain ⟨books, known, -⟩ := h
  cases work with
  | debit lane hold serial day =>
    obtain ⟨-, held, -, -, -, -, rfl⟩ := asks
    exact lawfulBooks_debit books lane (known hold (List.mem_of_find?_eq_some held)) serial day
  | settle lane result expired =>
    obtain ⟨imprint, -, rfl⟩ := asks
    exact books.of_eq rfl rfl rfl rfl rfl
  | park =>
    obtain ⟨-, -, rfl⟩ := asks
    exact books.of_eq rfl rfl rfl rfl rfl
  | claim removed =>
    obtain ⟨claimed, -, rfl⟩ := asks
    exact books.of_eq rfl rfl rfl rfl rfl
  | credit =>
    obtain ⟨amount, serial, day, rfl⟩ := asks
    exact books.of_eq rfl rfl rfl rfl rfl
  | install =>
    obtain ⟨locked, licence, day, rfl⟩ := asks
    exact (lawfulBooks_clearedWith s.items.banks books.2.2.2).of_eq rfl rfl rfl rfl rfl
  | setAccount =>
    obtain ⟨account, isOpen, rfl⟩ := asks
    exact lawfulBooks_setAccount books account isOpen
  | setAlert before =>
    obtain ⟨-, alert, rfl⟩ := asks
    exact books.of_eq rfl rfl rfl rfl rfl
  | closePeriod =>
    obtain rfl := asks
    exact lawfulBooks_closePeriod books
  | commit active =>
    obtain ⟨bank, rfl⟩ := asks
    obtain ⟨all, usage, counts, one⟩ := books
    have one := one_active_commitBank one bank active
    cases active <;> exact ⟨all, usage, counts, one⟩
  | bankSwitch =>
    obtain ⟨-, rfl⟩ := asks
    exact lawfulBooks_switchBanks books
  | setDate day minute second =>
    obtain rfl := asks
    exact lawfulBooks_switchBanks books
  | startClear => cases asks
  | startConversion stop => cases asks
  | startSwitch => cases asks

theorem State.LawfulBooks.plan (e : HeldEvent) (may : s.mustWait e (e.plan s).asks = false) :
    (e.plan s).Keeps State.LawfulBooks := by
  have moves := e.plan_moves may
  have asked := e.plan_asked s
  cases plan : e.plan s with
  | done t =>
    rw [plan] at moves
    exact h.move moves
  | update work values t =>
    rw [plan] at asked
    intro phase
    obtain ⟨asks, upTo⟩ := asked
    have begun : (t.beginUpdate work values phase).StoreHas Items.LawfulBooks :=
      .beginUpdate (h.has.of_store upTo.store).now (h.asks asks) work phase
    exact ⟨begun.now, upTo.holds ▸ h.2.1, begun.soon⟩

omit h in
/-- No rest of an update places a hold. -/
theorem State.after_holds (s : State) (work : Work) : (s.after work).holds.Sublist s.holds := by
  cases work with
  | debit lane hold serial day =>
    rw [State.after, (s.afterDebit_still lane hold serial day).2.2]
    exact List.filter_sublist
  | settle lane result expired => exact (s.afterSettle_quiet lane result expired).1.1
  | park =>
    rw [State.after, s.afterPark_quiet.2.1]
    exact List.nil_sublist _
  | _ =>
    rw [(s.after_sameUnits rfl).2.2.2.2.2.2]

theorem State.LawfulBooks.completes {work : Work} {values : NewValues} {phase : Phase}
    (record : s.store.record = .inSteps phase values) : ((s.place values).after work).LawfulBooks := by
  obtain ⟨now, soon⟩ := storeHas_after lawfulBooks_keptByStart s work (h.2.2 phase values record)
  have fewer := (s.place values).after_holds work
  exact ⟨now, fun hold listed => h.2.1 hold (fewer.subset listed), soon⟩

end

/-! ### Every step -/

/-- With everything reset, the store alone makes the funds lawful. -/
theorem lawfulFunds_resetEvent {s : State} (has : s.StoreHas Items.Balanced) (cause : ResetCause) :
    (s.resetEvent cause).LawfulFunds :=
  .of_quiet (has.of_store rfl) (.of_none rfl) (fun lane => by cases lane <;> exact ⟨rfl, rfl⟩) rfl

theorem lawfulBooks_resetEvent {s : State} (has : s.StoreHas Items.LawfulBooks) (cause : ResetCause) :
    (s.resetEvent cause).LawfulBooks := ⟨has.now, nofun, has.soon⟩

@[simp] theorem State.abortCommand_store (s : State) : s.abortCommand.store = s.store := by
  unfold State.abortCommand
  split <;> simp

/-- A lost battery leaves the retained items, and those of an update in its steps. -/
theorem State.StoreHas.batteryLoss {G : Items → Prop} {s : State} (h : s.StoreHas G) : s.batteryLoss.StoreHas G := by
  refine ⟨h.now, fun phase values record => ?_⟩
  have record : s.store.record.loseLatch = .inSteps phase values := record
  cases stands : s.store.record with
  | empty =>
    rw [stands] at record
    cases record
  | inSteps _ given =>
    rw [stands] at record
    cases record
    exact h.soon _ given stands

theorem State.fundsMove_inspect (s : State) : s.FundsMove s.inspect :=
  .of_sameUnits s.inspect_sameUnits s.inspect_sameOutside s.inspect_still.1 s.inspect_still.2.1

theorem State.fundsMove_refuseSlotWrite (s : State) (lane : Lane) : s.FundsMove (s.refuseSlotWrite lane) :=
  .of_within (by simp [State.refuseSlotWrite]) (by simp [State.refuseSlotWrite]) (by simp [State.refuseSlotWrite])
    (by simp [State.refuseSlotWrite]) (queuesWithin_refuseSlotWrite s lane)

theorem lawfulFunds_batteryLoss {s : State} (h : s.LawfulFunds) : s.batteryLoss.LawfulFunds := by
  refine ⟨h.1, h.2.1, h.2.2.1, fun phase values record => ⟨h.has.batteryLoss.soon phase values record, fun work busy => ?_⟩⟩
  have record : s.store.record.loseLatch = .inSteps phase values := record
  cases stands : s.store.record with
  | empty =>
    rw [stands] at record
    cases record
  | inSteps _ given =>
    rw [stands] at record
    cases record
    exact ((h.2.2.2 _ given stands).2 work busy).of_eq rfl rfl fun _ _ _ _ _ _ listed => listed

theorem kept_lawfulFunds : Kept State.LawfulFunds where
  pending _ h := h
  notices _ h := h
  command _ h := h
  waiting _ _ _ h := h
  loading _ _ h := h
  powerWarn _ h := h
  fields _ _ h := h
  byte _ _ _ h := h
  refuseSlotWrite lane h := h.move (State.fundsMove_refuseSlotWrite _ lane)
  plan e h may := h.plan e may
  claim claimed h _ := fun phase => h.begun (work := .claim _) ⟨claimed, rfl, rfl⟩ (.refl _) rfl phase
  completes _ _ _ h busy record := h.completes busy record
  reset cause h := lawfulFunds_resetEvent h.has cause
  straps {s} lanes order h :=
    lawfulFunds_resetEvent (s := State.abortCommand { s with laneCount := lanes, order := order })
      (h.has.of_store (State.abortCommand_store _)) .line
  powerOn _ _ h := lawfulFunds_resetEvent (h.has.of_store rfl) .powerOn
  start pace h := h.start pace
  supplyLoss h := ⟨h.1, h.2.1, h.2.2.1, fun phase values record => ⟨(h.2.2.2 phase values record).1, nofun⟩⟩
  batteryLoss h := lawfulFunds_batteryLoss h
  second _ h := h
  quietBoundary h _ := h
  boundary {s} h := State.LawfulFunds.move (s := State.touchCalendar { s with calendar := s.calendar.nextMinute }) h (State.fundsMove_inspect _)

theorem kept_lawfulBooks : Kept State.LawfulBooks where
  pending _ h := h
  notices _ h := h
  command _ h := h
  waiting _ _ _ h := h
  loading _ _ h := h
  powerWarn _ h := h
  fields _ _ h := h
  byte _ _ _ h := h
  refuseSlotWrite lane h := h.move (State.fundsMove_refuseSlotWrite _ lane)
  plan e h may := h.plan e may
  claim claimed h _ := fun _ =>
    ⟨h.1, h.2.1, (State.StoreHas.beginUpdate h.1 (h.asks (work := .claim _) ⟨claimed, rfl, rfl⟩) _ _).soon⟩
  completes _ _ _ h _ record := h.completes record
  reset cause h := lawfulBooks_resetEvent h.has cause
  straps {s} lanes order h :=
    lawfulBooks_resetEvent (s := State.abortCommand { s with laneCount := lanes, order := order })
      (h.has.of_store (State.abortCommand_store _)) .line
  powerOn _ _ h := lawfulBooks_resetEvent (h.has.of_store rfl) .powerOn
  start {s} pace h := by
    obtain ⟨now, soon⟩ := storeHas_startSteps lawfulBooks_keptByStart h.has pace
    have holds := (s.startSteps_sameUnits pace).2.2.2.2.2.2
    exact ⟨now, fun hold listed => h.2.1 hold (holds ▸ listed), soon⟩
  supplyLoss h := h
  batteryLoss h := ⟨h.1, h.2.1, h.has.batteryLoss.soon⟩
  second _ h := h
  quietBoundary h _ := h
  boundary {s} h := State.LawfulBooks.move (s := State.touchCalendar { s with calendar := s.calendar.nextMinute }) h (State.fundsMove_inspect _)

theorem State.fundsMove_flush (s : State) : s.FundsMove s.flush :=
  .of_within (by simp) (by simp) (by simp) (by simp) (.of_eq (by simp) (by simp))

/-- Settles O5: `kept_lawfulFunds` and `kept_lawfulBooks`; the rewrite of the status block moves no funds. -/
theorem everyStepKeepsTheFundsLaws : Obligations.EveryStepKeepsTheFundsLaws := by
  constructor
  · intro s t lawful steps
    exact kept_lawfulFunds.step (Q := State.LawfulFunds) (fun _ h => h) (fun s h => h.move s.fundsMove_flush) (fun _ _ h => h)
      (fun _ _ _ _ _ => .inr fun _ _ _ h => h) lawful steps
  · intro s t lawful steps
    exact kept_lawfulBooks.step (Q := State.LawfulBooks) (fun _ h => h) (fun s h => h.move s.fundsMove_flush) (fun _ _ h => h)
      (fun _ _ _ _ _ => .inr fun _ _ _ h => h) lawful steps

end Sys2Proof.Machine
end

section
/-! SUPPORT. The spoiled list and the outstanding marks as data: what each whole update makes of them (R119, R137, R153, R158,
R159). -/

namespace Sys2Proof.Machine

/-! ### An entry placed by its serial (R158) -/

theorem mem_placeSpoiled (entry : SpoiledEntry) (list : List SpoiledEntry) (x : SpoiledEntry) :
    x ∈ placeSpoiled entry list ↔ x = entry ∨ x ∈ list := by
  induction list with
  | nil => simp [placeSpoiled]
  | cons y ys ih =>
    unfold placeSpoiled
    split
    · simp
    · rw [List.mem_cons, List.mem_cons, ih]
      tauto

theorem length_placeSpoiled (entry : SpoiledEntry) (list : List SpoiledEntry) :
    (placeSpoiled entry list).length = list.length + 1 := by
  induction list with
  | nil => rfl
  | cons y ys ih =>
    unfold placeSpoiled
    split <;> simp [ih]

theorem pairwise_placeSpoiled {entry : SpoiledEntry} {list : List SpoiledEntry}
    (rising : list.Pairwise (fun x y => x.serial < y.serial)) (new : ∀ x ∈ list, x.serial ≠ entry.serial) :
    (placeSpoiled entry list).Pairwise (fun x y => x.serial < y.serial) := by
  induction list with
  | nil => exact List.pairwise_singleton _ _
  | cons y ys ih =>
    obtain ⟨first, rest⟩ := List.pairwise_cons.mp rising
    unfold placeSpoiled
    split
    case isTrue before =>
      refine List.pairwise_cons.mpr ⟨fun x listed => ?_, rising⟩
      rcases List.mem_cons.mp listed with rfl | listed
      · exact before
      · exact before.trans (first x listed)
    case isFalse behind =>
      have apart := new y List.mem_cons_self
      refine List.pairwise_cons.mpr ⟨fun x listed => ?_, ih rest fun x listed => new x (List.mem_cons_of_mem _ listed)⟩
      rcases (mem_placeSpoiled entry ys x).mp listed with rfl | listed
      · omega
      · exact first x listed

/-! ### The laws of the list and the marks -/

/-- The lane that a lane is not. -/
def otherLane : Lane → Lane
  | .a => .b
  | .b => .a

theorem otherLane_otherLane (lane : Lane) : otherLane (otherLane lane) = lane := by cases lane <;> rfl

theorem otherLane_ne (lane : Lane) : otherLane lane ≠ lane := by cases lane <;> decide

theorem eq_or_otherLane (lane other : Lane) : other = lane ∨ other = otherLane lane := by cases lane <;> cases other <;> decide

/-- Whether a mark counts among those present. -/
def markCount (mark : Option Mark) : Nat := if mark.isSome then 1 else 0

theorem marksPresent_eq (x : Items) : x.marksPresent = markCount x.marks.a + markCount x.marks.b := rfl

theorem marksPresent_get (x : Items) (lane : Lane) :
    x.marksPresent = markCount (x.marks.get lane) + markCount (x.marks.get (otherLane lane)) := by
  cases lane
  · rfl
  · exact Nat.add_comm _ _

/-- The serials of both marks and of the entries are given, and no two are the same; entries and marks are within 64. -/
theorem lawfulSpoiled_iff (x : Items) : x.LawfulSpoiled
    ↔ x.spoiled.Pairwise (fun k l => k.serial < l.serial) ∧ x.spoiled.length + x.marksPresent ≤ 64
      ∧ (∀ k ∈ x.spoiled, k.serial ≤ x.pieceCount)
      ∧ (∀ lane mark, x.marks.get lane = some mark →
          mark.serial ≤ x.pieceCount ∧ ∀ k ∈ x.spoiled, k.serial ≠ mark.serial)
      ∧ ∀ lane k l, x.marks.get lane = some k → x.marks.get (otherLane lane) = some l → k.serial ≠ l.serial := by
  refine and_congr_right fun _ => and_congr_right fun _ => and_congr_right fun _ => and_congr_right fun _ => ?_
  refine ⟨fun apart lane k l hk hl => ?_, fun apart k l hk hl => apart .a k l hk hl⟩
  cases lane
  · exact apart k l hk hl
  · exact (apart l k hl hk).symm

theorem Items.LawfulSpoiled.of_eq {x y : Items} (h : x.LawfulSpoiled) (spoiled : y.spoiled = x.spoiled)
    (marks : y.marks = x.marks) (pieces : y.pieceCount = x.pieceCount) : y.LawfulSpoiled := by
  unfold Items.LawfulSpoiled Items.marksPresent at *
  rw [spoiled, marks, pieces]
  exact h

section
variable {x : Items} (h : x.LawfulSpoiled)
include h

/-- A debit's mark is the newest serial, where there was no mark and room for one (R119, R158). -/
theorem lawfulSpoiled_debit {lane : Lane} (free : x.marks.get lane = none) (room : x.spoiled.length + x.marksPresent < 64)
    (hold : Hold) (day : Nat) : (x.debit lane hold (x.pieceCount + 1) day).LawfulSpoiled := by
  rw [lawfulSpoiled_iff] at h ⊢
  obtain ⟨rising, -, given, marks, apart⟩ := h
  rw [marksPresent_get x lane, free] at room
  simp only [Items.debit]
  refine ⟨rising, ?_, fun k hk => Nat.le_succ_of_le (given k hk), fun other mark set => ?_, fun other k l hk hl => ?_⟩
  · rw [marksPresent_get _ lane]
    simp only [PerLane.get_set_same, PerLane.get_set_other _ _ (otherLane_ne lane)]
    simp only [markCount, Option.isSome_none, Option.isSome_some, if_true] at room ⊢
    simp at room ⊢
    omega
  · rcases eq_or_otherLane lane other with rfl | rfl
    · simp only [PerLane.get_set_same, Option.some.injEq] at set
      subst set
      exact ⟨le_rfl, fun k hk => Nat.ne_of_lt (Nat.lt_succ_of_le (given k hk))⟩
    · rw [PerLane.get_set_other _ _ (otherLane_ne lane)] at set
      obtain ⟨le, new⟩ := marks _ mark set
      exact ⟨Nat.le_succ_of_le le, new⟩
  · have old {mark : Mark} (at_ : x.marks.get (otherLane lane) = some mark) : mark.serial ≠ x.pieceCount + 1 :=
      Nat.ne_of_lt (Nat.lt_succ_of_le (marks _ mark at_).1)
    rcases eq_or_otherLane lane other with rfl | rfl
    · simp only [PerLane.get_set_same, Option.some.injEq] at hk
      rw [PerLane.get_set_other _ _ (otherLane_ne _)] at hl
      subst hk
      exact (old hl).symm
    · rw [otherLane_otherLane, PerLane.get_set_same] at hl
      rw [PerLane.get_set_other _ _ (otherLane_ne lane)] at hk
      cases hl
      exact old hk

omit h in
/-- With a lane's mark cleared any mark is the other lane's. -/
theorem other_of_get_set_none {lane other : Lane} {k : Mark} (at_ : (x.marks.set lane none).get other = some k) :
    other = otherLane lane ∧ x.marks.get (otherLane lane) = some k := by
  rcases eq_or_otherLane lane other with rfl | rfl
  · simp at at_
  · rw [PerLane.get_set_other _ _ (otherLane_ne lane)] at at_
    exact ⟨rfl, at_⟩

/-- A mark gone leaves room for the entry that takes its serial's place. -/
theorem lawfulSpoiled_place {lane : Lane} {mark : Mark} (set : x.marks.get lane = some mark) (entry : SpoiledEntry)
    (same : entry.serial = mark.serial) :
    Items.LawfulSpoiled { x with marks := x.marks.set lane none, spoiled := placeSpoiled entry x.spoiled } := by
  rw [lawfulSpoiled_iff] at h ⊢
  obtain ⟨rising, room, given, marks, apart⟩ := h
  obtain ⟨le, new⟩ := marks lane mark set
  rw [marksPresent_get x lane, set] at room
  refine ⟨pairwise_placeSpoiled rising fun k hk => same ▸ new k hk, ?_, fun k hk => ?_, fun other k at_ => ?_,
    fun other k l hk hl => ?_⟩
  · rw [marksPresent_get _ lane, length_placeSpoiled]
    simp only [PerLane.get_set_same, PerLane.get_set_other _ _ (otherLane_ne lane)]
    simp [markCount] at room ⊢
    omega
  · rcases (mem_placeSpoiled entry x.spoiled k).mp hk with rfl | hk
    · rw [same]
      exact le
    · exact given k hk
  · obtain ⟨rfl, stays⟩ := other_of_get_set_none at_
    obtain ⟨given, clear⟩ := marks _ k stays
    refine ⟨given, fun l hl => ?_⟩
    rcases (mem_placeSpoiled entry x.spoiled l).mp hl with rfl | hl
    · rw [same]
      exact apart lane mark k set stays
    · exact clear l hl
  · obtain ⟨rfl, -⟩ := other_of_get_set_none hk
    obtain ⟨eq, -⟩ := other_of_get_set_none hl
    exact absurd eq.symm (by cases lane <;> decide)

/-- A mark gone with nothing placed: a piece that is printed (R152). -/
theorem lawfulSpoiled_unmark (lane : Lane) : Items.LawfulSpoiled { x with marks := x.marks.set lane none } := by
  rw [lawfulSpoiled_iff] at h ⊢
  obtain ⟨rising, room, given, marks, apart⟩ := h
  refine ⟨rising, ?_, given, fun other k at_ => marks _ k (other_of_get_set_none at_).2, fun other k l hk hl => ?_⟩
  · rw [marksPresent_get _ lane] at room ⊢
    simp only [PerLane.get_set_same, PerLane.get_set_other _ _ (otherLane_ne lane)]
    simp [markCount] at room ⊢
    omega
  · obtain ⟨rfl, -⟩ := other_of_get_set_none hk
    obtain ⟨eq, -⟩ := other_of_get_set_none hl
    exact absurd eq.symm (by cases lane <;> decide)

/-- A settling clears its lane's mark, and places an entry of the same serial for every result but PRINTED (R152, R153). -/
theorem lawfulSpoiled_settle {lane : Lane} {mark : Mark} (set : x.marks.get lane = some mark) {imprint : Imprint}
    (same : imprint.serial = mark.serial) (result : PrintResult) : (x.settle lane imprint result).LawfulSpoiled := by
  unfold Items.settle
  split
  · exact lawfulSpoiled_unmark h lane
  · exact lawfulSpoiled_place h set _ same

/-- A mark converted in its lane's turn. -/
theorem lawfulSpoiled_placeMark (lane : Lane) : Items.LawfulSpoiled
    { x with marks := x.marks.set lane none, spoiled := placeMark lane (x.marks.get lane) x.spoiled } := by
  cases set : x.marks.get lane with
  | none => exact lawfulSpoiled_unmark h lane
  | some mark => exact lawfulSpoiled_place h set (mark.unconfirmed lane) rfl

/-- Both marks converted, one after the other (R137). -/
theorem lawfulSpoiled_convertMarks : x.convertMarks.LawfulSpoiled :=
  lawfulSpoiled_placeMark (lawfulSpoiled_placeMark h .a) .b

theorem lawfulSpoiled_claim (claimed : List Nat) : (x.claim claimed).LawfulSpoiled := by
  obtain ⟨rising, room, given, marks, apart⟩ := h
  have fewer : (x.claim claimed).spoiled.Sublist x.spoiled := List.filter_sublist
  refine ⟨rising.sublist fewer, (Nat.add_le_add_right fewer.length_le _).trans room,
    fun k hk => given k (fewer.subset hk), fun lane mark set => ?_, apart⟩
  obtain ⟨le, clear⟩ := marks lane mark set
  exact ⟨le, fun k hk => clear k (fewer.subset hk)⟩

end

theorem lawfulSpoiled_of_none {x : Items} (spoiled : x.spoiled = []) (marks : x.marks = { a := none, b := none }) :
    x.LawfulSpoiled := by
  unfold Items.LawfulSpoiled Items.marksPresent
  rw [spoiled, marks]
  refine ⟨List.Pairwise.nil, by decide, nofun, fun lane mark set => ?_, nofun⟩
  cases lane <;> cases set

theorem lawfulSpoiled_keptByStart : Items.KeptByStart Items.LawfulSpoiled where
  switch _ h := h.of_eq rfl rfl rfl
  conversion _ h := lawfulSpoiled_convertMarks h
  cleared := lawfulSpoiled_of_none rfl rfl

end Sys2Proof.Machine
end

section
/-! SUPPORT. What the events that ask for no whole update leave of the imprints: the part state but for CLOSE SETUP and PARK,
each link's outstanding imprint, and the piece of a debit in its steps (R133, R146). -/

namespace Sys2Proof.Machine

/-! ### Entries stay in their queues -/

/-- Each queue holds the same pieces in the same places. -/
structure SamePieces (s t : State) : Prop where
  seqs : ∀ lane, (t.tracker lane).seqs = (s.tracker lane).seqs

theorem SamePieces.of_eq {s t : State} (lanes : t.lanes = s.lanes) : SamePieces s t :=
  ⟨fun lane => by rw [State.tracker, lanes]; rfl⟩

theorem SamePieces.refl (s : State) : SamePieces s s := .of_eq rfl

theorem SamePieces.trans {s t u : State} (h : SamePieces s t) (h' : SamePieces t u) : SamePieces s u :=
  ⟨fun lane => (h'.seqs lane).trans (h.seqs lane)⟩

theorem Tracker.seqs_onEntry (t : Tracker) (seq : Nat) {f : TrackEntry → TrackEntry} (same : ∀ e, (f e).seq = e.seq) :
    (t.onEntry seq f).seqs = t.seqs := by
  simp only [Tracker.seqs, Tracker.onEntry, List.map_map]
  refine List.map_congr_left fun e _ => ?_
  simp only [Function.comp]
  split
  · exact same e
  · rfl

theorem samePieces_onTracker {s : State} {lane : Lane} {f : Tracker → Tracker}
    (same : (f (s.tracker lane)).seqs = (s.tracker lane).seqs) : SamePieces s (s.onTracker lane f) := by
  refine ⟨fun other => ?_⟩
  by_cases eq : other = lane
  · subst eq
    rwa [tracker_onTracker]
  · exact congrArg Tracker.seqs (tracker_setTracker_other s _ eq)

section
variable {s t : State} (h : SamePieces s t)
include h

theorem SamePieces.onEntry (lane : Lane) (seq : Nat) {f : TrackEntry → TrackEntry} (same : ∀ e, (f e).seq = e.seq) :
    SamePieces s (t.onEntry lane seq f) := h.trans (samePieces_onTracker (Tracker.seqs_onEntry _ seq same))

theorem SamePieces.onTracker (lane : Lane) {f : Tracker → Tracker} (same : ∀ r, (f r).queue = r.queue) :
    SamePieces s (t.onTracker lane f) :=
  h.trans (samePieces_onTracker (by rw [Tracker.seqs, same]; rfl))

theorem SamePieces.writeFields (fs : List Field) : SamePieces s (t.writeFields fs) := h.trans (.of_eq rfl)

theorem SamePieces.writeResults (lane : Lane) (e : TrackEntry) (fields : Nat → List Field) (bits : List Nat) :
    SamePieces s (t.writeResults lane e fields bits) := by
  unfold State.writeResults
  dsimp only
  split
  · exact h.onEntry lane e.seq fun _ => rfl
  · refine SamePieces.writeFields ?_ _
    exact h.onEntry lane e.seq fun _ => rfl

end

theorem Tracker.find_ne_none_iff (t : Tracker) (seq : Nat) : t.find seq ≠ none ↔ seq ∈ t.seqs := by
  simp only [Tracker.find, ne_eq, List.find?_eq_none, Tracker.seqs, List.mem_map]
  push Not
  simp

theorem samePieces_take (s : State) : SamePieces s s.take := by
  unfold State.take
  split
  case h_1 q rest idle queue =>
    dsimp only
    split
    · exact .of_eq rfl
    · have rating : SamePieces s (State.onEntry { s with takeQueue := rest } q.lane q.seq (fun e => { e with stage := .rating })) :=
        SamePieces.onEntry (.of_eq (by rfl)) q.lane q.seq (by intro _; rfl)
      exact rating.trans (.of_eq (by rfl))
  case h_2 => exact .refl s

theorem samePieces_keepPriced (s : State) (record : RatingRecord) (e : TrackEntry) (tableId postage format zone weight : Nat)
    (result : RatingResult) : SamePieces s (s.keepPriced record e tableId postage format zone weight result) := by
  unfold State.keepPriced
  dsimp only
  refine SamePieces.trans (SamePieces.onTracker (f := fun t => t.stickyOverflow result.flags.overflow) ?_ record.lane
    (by intro _; rfl)) (.of_eq (by rfl))
  exact SamePieces.onEntry (SamePieces.writeResults (.refl s) ..) _ _ (by intro _; rfl)

theorem samePieces_keepRefused (s : State) (record : RatingRecord) (e : TrackEntry) (tableId : Nat) (cause : DivertCause)
    (result : RatingResult) : SamePieces s (s.keepRefused record e tableId cause result) := by
  unfold State.keepRefused
  dsimp only
  refine SamePieces.onTracker (f := fun t => t.stickyOverflow result.flags.overflow) ?_ record.lane (by intro _; rfl)
  exact SamePieces.onEntry (SamePieces.writeResults (.refl s) ..) _ _ (by intro _; rfl)

theorem samePieces_ratingCompletion (s : State) : SamePieces s s.ratingCompletion := by
  rcases s.ratingCompletion_cases with same | ⟨record, ended | ⟨e, ended | ended⟩⟩
  · rw [same]
    exact .refl s
  · rw [ended]
    exact .of_eq rfl
  · obtain ⟨postage, format, zone, weight, ended⟩ := ended
    rw [ended]
    exact .trans (t := s.endRating record) (.of_eq rfl) (samePieces_keepPriced (s.endRating record) ..)
  · obtain ⟨cause, ended⟩ := ended
    rw [ended]
    exact .trans (t := s.endRating record) (.of_eq rfl) (samePieces_keepRefused (s.endRating record) ..)

theorem samePieces_takeRequest (s : State) : SamePieces s s.takeRequest := by
  rcases s.takeRequest_cases with same | ⟨request, rest, -, void | refused | ⟨-, -, placed⟩⟩
  · rw [same]
    exact .refl s
  · rw [void]
    exact .of_eq rfl
  · obtain ⟨cause, refused⟩ := refused
    rw [refused]
    have diverted : SamePieces s (State.onEntry { s with requests := rest } request.lane request.seq (fun e => e.divert cause)) :=
      SamePieces.onEntry (.of_eq (by rfl)) _ _ (by intro _; rfl)
    unfold State.refuseHold
    split
    · exact diverted.trans (.of_eq (by rfl))
    · exact diverted
  · rw [placed]
    have held : SamePieces s (State.onEntry (State.touchFunds { s with requests := rest, holds := s.holds ++ [request] })
        request.lane request.seq (fun e => { e with stage := .held, held := some request.amount })) :=
      SamePieces.onEntry (.of_eq (by rfl)) _ _ (by intro _; rfl)
    unfold State.placeHold
    dsimp only
    split
    · exact held.trans (.of_eq (by rfl))
    · exact held

/-! ### One lane's events leave the other lane -/

theorem onlyLane_takeQueue {s t : State} {lane : Lane} (h : OnlyLane lane s t) (queue : List QueueEntry) :
    OnlyLane lane s { t with takeQueue := queue } := h.trans (.of_eq rfl)

theorem onlyLane_stray (s : State) (lane : Lane) : OnlyLane lane s (s.stray lane) := by
  unfold State.stray
  rw [State.changeLane_eq]
  exact OnlyLane.trans (OnlyLane.onTracker (.refl lane s) (fun t => { t with strays := count16 t.strays })) (.of_eq rfl)

theorem onlyLane_enter (s : State) (lane : Lane) : OnlyLane lane s (s.enter lane) := by
  have here := OnlyLane.refl lane s
  unfold State.enter
  split
  · exact here.halt _
  · split
    · unfold State.enterWithoutSlot
      dsimp only
      split
      · exact (((here.onTracker _).touchLane _).onTracker _).raise _
      · exact (here.onTracker _).touchLane _
    · unfold State.openSlot
      exact ((((here.writeFields _).setSlot ..).raise _).onTracker _).touchLane _

theorem onlyLane_ratePhotocell (s : State) (lane : Lane) : OnlyLane lane s (s.ratePhotocell lane) := by
  have here := OnlyLane.refl lane s
  unfold State.ratePhotocell
  split
  · exact onlyLane_stray s lane
  · split
    · split
      · unfold State.rateFilled
        dsimp only
        split
        · exact ((here.setSlot ..).onEntry ..).onEntry ..
        · split
          · exact ((here.setSlot ..).onEntry ..).onEntry ..
          · exact OnlyLane.onEntry (onlyLane_takeQueue ((here.setSlot ..).onEntry ..) _) ..
      · exact (here.setSlot ..).onEntry ..
    · exact here.onEntry ..

theorem onlyLane_exitPhotocell (s : State) (lane : Lane) : OnlyLane lane s (s.exitPhotocell lane) := by
  have here := OnlyLane.refl lane s
  unfold State.exitPhotocell
  split
  · exact onlyLane_stray s lane
  case h_2 e applies =>
    have driven : OnlyLane lane s (s.driveGate lane e) := ((here.onTracker _).writeResults ..).onEntry ..
    dsimp only
    split
    · exact driven
    · refine OnlyLane.drainCheck ?_
      unfold State.endAtExit
      split
      · exact driven
      all_goals exact driven.endEntry ..

theorem onlyLane_encoderCount (s : State) (lane : Lane) : OnlyLane lane s (s.encoderCount lane) := by
  have here := OnlyLane.refl lane s
  unfold State.encoderCount
  dsimp only
  split
  · split
    · exact (here.setTracker _).halt _
    · exact here.setTracker _
  · exact here

theorem onlyLane_runWrite (s : State) (lane : Lane) (value : Bool) : OnlyLane lane s (s.runWrite lane value) := by
  have moved (state : LaneState) : OnlyLane lane s (s.moveLane lane state) := ((OnlyLane.refl lane s).onTracker _).touchLane _
  unfold State.runWrite
  split
  · split
    · split
      · exact moved _
      · exact .refl lane s
    · exact (moved _).drainCheck
    all_goals first | exact moved _ | exact .refl lane s
  · exact .refl lane s

/-! ### The imprints left alone -/

/-- What an event without an update leaves of the imprints. -/
structure State.ImprintsStay (s t : State) : Prop where
  part : t.part = s.part ∨ (s.part = .setup ∧ t.part = .operating)
  outstanding : ∀ lane, (t.link lane).outstanding = (s.link lane).outstanding
  piece : ∀ lane hold serial day, s.inStore = some (.debit lane hold serial day) →
    (s.tracker lane).find hold.seq ≠ none → (t.tracker lane).find hold.seq ≠ none

theorem State.ImprintsStay.refl (s : State) : s.ImprintsStay s := ⟨.inl rfl, fun _ => rfl, fun _ _ _ _ _ h => h⟩

theorem State.ImprintsStay.of_pieces {s t : State} (part : t.part = s.part)
    (outstanding : ∀ lane, (t.link lane).outstanding = (s.link lane).outstanding) (pieces : SamePieces s t) :
    s.ImprintsStay t := by
  refine ⟨.inl part, outstanding, fun lane hold _ _ _ there => ?_⟩
  rw [Tracker.find_ne_none_iff] at there ⊢
  rwa [pieces.seqs]

theorem State.ImprintsStay.of_lane {s t : State} {lane : Lane} (part : t.part = s.part) (links : t.links = s.links)
    (only : OnlyLane lane s t) (free : ∀ hold serial day, s.inStore ≠ some (.debit lane hold serial day)) :
    s.ImprintsStay t := by
  refine ⟨.inl part, fun other => congrArg (fun p => (PerLane.get p other).outstanding) links,
    fun other hold serial day busy there => ?_⟩
  have apart : other ≠ lane := by
    rintro rfl
    exact free hold serial day busy
  rwa [only.other other apart]

theorem State.ImprintsStay.of_belt {s t : State} {lane : Lane} (belt : OnBelt s t) (only : OnlyLane lane s t)
    (free : ∀ hold serial day, s.inStore ≠ some (.debit lane hold serial day)) : s.ImprintsStay t := by
  simp only [OnBelt] at belt
  exact .of_lane (by simp [belt]) (by simp [belt]) only free

end Sys2Proof.Machine
end

section
/-! SUPPORT. Every event that asks for no whole update leaves the imprints, or is a PARK that finds none (R133, R146, R193). -/

namespace Sys2Proof.Machine

/-- A PARK outside START that found no imprint outstanding and none being settled: it is made at once (R193). -/
def State.ParkedAtOnce (s t : State) : Prop :=
  s.items.marksPresent = 0 ∧ t.part = .parked ∧ (∀ lane, (t.link lane).outstanding = none) ∧ s.part ≠ .start
    ∧ ∀ lane result expired, s.inStore ≠ some (.settle lane result expired)

/-- A plan that asks for no update leaves the imprints. -/
def Plan.LeavesImprints (s : State) : Plan → Prop
  | .done t => s.ImprintsStay t ∨ s.ParkedAtOnce t
  | .update .. => True

section
variable {s : State}

/-! ### The belt -/

theorem State.imprintsStay_stray (lane : Lane) : s.ImprintsStay (s.stray lane) :=
  .of_pieces (by simp) (fun other => by rw [State.link, State.link]; simp) (by
    unfold State.stray
    rw [State.changeLane_eq]
    exact SamePieces.trans (SamePieces.onTracker (.refl s) lane (f := fun t => { t with strays := count16 t.strays }) fun _ => rfl)
      (.of_eq rfl))

theorem State.sensorPlan_leaves {lane : Lane} {photocell : Position} {edge : Edge} {tracked : State → Plan}
    (h : (tracked s).LeavesImprints s) : (s.sensorPlan lane photocell edge tracked).LeavesImprints s := by
  unfold State.sensorPlan
  dsimp only
  split
  · exact .inl (.refl s)
  · split
    · exact h
    · exact .inl (State.imprintsStay_stray lane)

theorem State.printPhotocell_leaves {lane : Lane}
    (free : ∀ hold serial day, s.inStore ≠ some (.debit lane hold serial day)) : (s.printPhotocell lane).LeavesImprints s := by
  have here := OnlyLane.refl lane s
  unfold State.printPhotocell
  split
  · exact .inl (State.imprintsStay_stray lane)
  · split
    · unfold State.dispatchPlan
      split
      · refine .inl (.of_belt (by simp [OnBelt]) (OnlyLane.onEntry ?_ ..) free)
        exact .of_eq rfl
      · split
        · exact .inl (.of_belt (by simp [OnBelt]) (here.onEntry ..) free)
        · trivial
    · exact .inl (.of_belt (by simp [OnBelt]) (OnlyLane.onEntry (onlyLane_takeQueue here _) ..) free)
    · exact .inl (.of_belt (by simp [OnBelt]) (here.onEntry ..) free)
    · exact .inl (.of_belt (by simp [OnBelt]) (here.onEntry ..) free)

/-! ### The links -/

theorem outstanding_setLink {lane : Lane} {k : Link} (same : k.outstanding = (s.link lane).outstanding) (other : Lane) :
    ((s.setLink lane k).link other).outstanding = (s.link other).outstanding := by
  by_cases eq : other = lane
  · subst eq
    rw [link_setLink, same]
  · exact congrArg Link.outstanding (PerLane.get_set_other _ _ eq)

theorem State.imprintsStay_setLink {lane : Lane} {k : Link} (same : k.outstanding = (s.link lane).outstanding) :
    s.ImprintsStay (s.setLink lane k) := .of_pieces rfl (outstanding_setLink same) (.of_eq rfl)

theorem State.settlePlan_leaves (lane : Lane) (result : PrintResult) (expired : Bool) {t : State} (h : s.ImprintsStay t) :
    (t.settlePlan lane result expired).LeavesImprints s := by
  unfold State.settlePlan
  split
  · exact .inl h
  · trivial

theorem State.answerPlan_leaves (lane : Lane) (frame : BitVec 48) : (s.answerPlan lane frame).LeavesImprints s := by
  unfold State.answerPlan
  dsimp only
  split
  · split
    · exact .inl (State.imprintsStay_setLink rfl)
    · split
      · exact .inl (State.imprintsStay_setLink rfl)
      · split
        · exact State.settlePlan_leaves _ _ _ (.refl s)
        · split
          · exact State.settlePlan_leaves _ _ _ (State.imprintsStay_setLink rfl)
          · exact .inl (State.imprintsStay_setLink rfl)
  · exact .inl (.refl s)

theorem State.expiryPlan_leaves (lane : Lane) : (s.expiryPlan lane).LeavesImprints s := by
  unfold State.expiryPlan
  dsimp only
  split
  · exact .inl (.refl s)
  · split
    · exact State.settlePlan_leaves _ _ _ (.refl s)
    · exact .inl (State.imprintsStay_setLink rfl)
    · exact .inl (.refl s)

theorem State.linkPlan_leaves {lane : Lane} {plan : State → Plan} (h : (plan s).LeavesImprints s) :
    (s.linkPlan lane plan).LeavesImprints s := by
  unfold State.linkPlan
  split
  · exact h
  · exact .inl (.refl s)

theorem State.imprintsStay_frameSent (lane : Lane) : s.ImprintsStay (s.frameSent lane) := by
  unfold State.frameSent
  dsimp only
  split
  · exact State.imprintsStay_setLink rfl
  · exact .refl s

theorem State.imprintsStay_answerReady (lane : Lane) : s.ImprintsStay (s.answerReady lane) := by
  unfold State.answerReady
  dsimp only
  split
  · exact State.imprintsStay_setLink rfl
  · split
    · exact State.imprintsStay_setLink rfl
    · exact .refl s
  · exact .refl s

/-! ### The rating unit and the funds unit -/

theorem State.take_links (s : State) : s.take.links = s.links := by
  unfold State.take
  split
  · dsimp only
    split <;> simp
  · rfl

theorem State.ratingCompletion_links (s : State) : s.ratingCompletion.links = s.links := by
  rcases s.ratingCompletion_cases with same | ⟨record, ended | ⟨e, ended | ended⟩⟩
  · rw [same]
  · rw [ended]
    rfl
  · obtain ⟨postage, format, zone, weight, ended⟩ := ended
    rw [ended]
    generalize s.items.licence.map Licence.perPieceCap = cap
    simp [State.keepPriced, State.endRating]
  · obtain ⟨cause, ended⟩ := ended
    rw [ended]
    generalize s.items.licence.map Licence.perPieceCap = cap
    simp [State.keepRefused, State.endRating]

theorem State.takeRequest_links_part (s : State) : s.takeRequest.links = s.links ∧ s.takeRequest.part = s.part := by
  rcases s.takeRequest_cases with same | ⟨request, rest, -, void | refused | ⟨-, -, placed⟩⟩
  · simp [same]
  · simp [void]
  · obtain ⟨cause, refused⟩ := refused
    rw [refused]
    unfold State.refuseHold
    dsimp only
    split <;> simp
  · rw [placed]
    unfold State.placeHold
    dsimp only
    split <;> simp

theorem State.ImprintsStay.of_links {t : State} (part : t.part = s.part) (links : t.links = s.links) (pieces : SamePieces s t) :
    s.ImprintsStay t :=
  .of_pieces part (fun lane => congrArg (fun p => (PerLane.get p lane).outstanding) links) pieces

theorem State.imprintsStay_take : s.ImprintsStay s.take := .of_links s.take_still.2.1 s.take_links (samePieces_take s)

theorem State.imprintsStay_ratingCompletion : s.ImprintsStay s.ratingCompletion :=
  .of_links s.ratingCompletion_still.2.1 s.ratingCompletion_links (samePieces_ratingCompletion s)

theorem State.imprintsStay_takeRequest : s.ImprintsStay s.takeRequest :=
  .of_links s.takeRequest_links_part.2 s.takeRequest_links_part.1 (samePieces_takeRequest s)

/-! ### The commands -/

theorem State.ImprintsStay.complete {t : State} (h : s.ImprintsStay t) (status : Status) : s.ImprintsStay (t.complete status) :=
  ⟨h.part, h.outstanding, h.piece⟩

theorem configureLanePlan_leaves (x : LaneArguments) : (configureLanePlan x s).LeavesImprints s := by
  unfold configureLanePlan
  split
  · exact .inl (State.ImprintsStay.complete (.refl s) _)
  case h_2 lane named =>
    split
    · exact .inl (State.ImprintsStay.complete (.refl s) _)
    · split
      · have configured : s.ImprintsStay (s.onTracker lane (fun t => { t with config := configOf x })) :=
          .of_links rfl rfl (SamePieces.onTracker (.refl s) lane fun _ => rfl)
        exact .inl (configured.complete _)
      · exact .inl (State.ImprintsStay.complete (.refl s) _)

theorem openBatchPlan_leaves (code : Byte) (id : Nat) : (openBatchPlan code id s).LeavesImprints s := by
  unfold openBatchPlan
  split
  · exact .inl (State.ImprintsStay.complete (.refl s) _)
  case h_2 lane named =>
    split
    · have opened : s.ImprintsStay (s.onTracker lane (fun t => { t with batch := Batch.begin id s.calendar.stamp })) :=
        .of_links rfl rfl (SamePieces.onTracker (.refl s) lane fun _ => rfl)
      exact .inl (opened.complete _)
    · exact .inl (State.ImprintsStay.complete (.refl s) _)

theorem samePieces_endBatch (s : State) (lane : Lane) : SamePieces s (s.endBatch lane) := by
  unfold State.endBatch
  dsimp only
  split
  · refine SamePieces.onTracker ?_ lane fun _ => rfl
    exact .of_eq rfl
  · exact .refl s

theorem closeBatchPlan_leaves (code : Byte) : (closeBatchPlan code s).LeavesImprints s := by
  unfold closeBatchPlan
  split
  · exact .inl (State.ImprintsStay.complete (.refl s) _)
  case h_2 lane named =>
    split
    · have closing : SamePieces s (s.onTracker lane (fun t => { t with batch := { t.batch with state := .closing } })) :=
        SamePieces.onTracker (.refl s) lane fun _ => rfl
      refine .inl (State.ImprintsStay.complete (.of_links (by simp) (by simp) ?_) _)
      exact closing.trans (samePieces_endBatch _ lane)
    · exact .inl (State.ImprintsStay.complete (.refl s) _)

theorem resumeLanePlan_leaves (code : Byte) : (resumeLanePlan code s).LeavesImprints s := by
  unfold resumeLanePlan
  split
  · exact .inl (State.ImprintsStay.complete (.refl s) _)
  case h_2 lane named =>
    split
    · have running : SamePieces s (s.onTracker lane (fun t => { t with state := .running, haltCause := none })) :=
        SamePieces.onTracker (.refl s) lane fun _ => rfl
      refine .inl (State.ImprintsStay.complete (.of_pieces (by simp) (fun other => ?_) (running.trans (.of_eq (by simp)))) _)
      have links : ∀ t : State, (t.touchLane lane).links = t.links := fun t => by simp
      rw [State.link, links]
      exact outstanding_setLink (s := s) (lane := lane) (k := { s.link lane with faults := 0 }) rfl other
    · exact .inl (State.ImprintsStay.complete (.refl s) _)

/-! ### PARK (R157, R193) -/

@[simp] theorem State.endEntries_links (s : State) (lane : Lane) (otherwise : DivertCause) (es : List TrackEntry) :
    (s.endEntries lane otherwise es).links = s.links := by
  simp

/-- A parked lane's link is as PARK leaves it, and the other link as it was. -/
theorem State.parkLane_links (s : State) (lane : Lane) :
    (s.parkLane lane).links = s.links.set lane (s.link lane).park := by
  have linked (t : State) (same : t.links = s.links) :
      ((t.onLink lane Link.park).touchLane lane).links = s.links.set lane (s.link lane).park := by
    simp [State.link, same]
  unfold State.parkLane
  dsimp only
  split
  · exact linked _ (by simp)
  · split
    · exact linked _ (by simp)
    · exact linked _ (by simp)

/-- PARK leaves both links without an imprint (R157). -/
theorem State.afterPark_links (s : State) (lane : Lane) : (s.afterPark.link lane).outstanding = none := by
  have links : s.afterPark.links = (((State.abandonRating { s with holds := [] }).parkLane .a).parkLane .b).links := by
    simp [State.afterPark]
  rw [State.link, links, State.parkLane_links, State.parkLane_links]
  cases lane <;> rfl

theorem parkPlan_leaves (unsettled : ∀ lane result expired, s.inStore ≠ some (.settle lane result expired)) :
    (parkPlan s).LeavesImprints s := by
  unfold parkPlan
  split
  · exact .inl (.refl s)
  · exact .inl (State.ImprintsStay.complete (.refl s) _)
  case h_3 started _ =>
    split
    case isTrue unmarked => exact .inr ⟨unmarked, s.afterPark_quiet.2.2, s.afterPark_links, started, unsettled⟩
    case isFalse => trivial

/-! ### Every event that may be held -/

theorem Plan.leaves_of_sameUnits {plan : Plan} (units : SameUnits s plan.state) (part : plan.state.part = s.part) :
    plan.LeavesImprints s := by
  cases plan with
  | done t => exact .inl (.of_links part units.2.1 (.of_eq units.1))
  | update => trivial

theorem commandPlan_leaves (i : Instr)
    (unsettled : ∀ pace lane result expired, i = .park pace → s.inStore ≠ some (.settle lane result expired)) :
    (commandPlan i s).LeavesImprints s := by
  unfold commandPlan
  split
  case isFalse => exact .inl (State.ImprintsStay.complete (.refl s) _)
  case isTrue taken =>
    cases i with
    | configureLane x => exact configureLanePlan_leaves x
    | openBatch lane id => exact openBatchPlan_leaves lane _
    | closeBatch lane => exact closeBatchPlan_leaves lane
    | resumeLane lane => exact resumeLanePlan_leaves lane
    | park pace => exact parkPlan_leaves fun lane result expired => unsettled pace lane result expired rfl
    | closeSetup =>
      have setup : (s.part == .setup) = true := taken
      exact .inl ⟨.inr ⟨eq_of_beq setup, rfl⟩, fun _ => rfl, fun _ _ _ _ _ there => there⟩
    | _ => exact Plan.leaves_of_sameUnits (commandWork_sameUnits rfl s) (commandWork_still rfl (by nofun) s).2

theorem loadRatesCompletionPlan_leaves : (loadRatesCompletionPlan s).LeavesImprints s := by
  refine Plan.leaves_of_sameUnits (loadRatesCompletionPlan_sameUnits s) ?_
  unfold loadRatesCompletionPlan
  split
  · rfl
  · split
    · rfl
    · split <;> rfl

theorem eventPlan_leaves (i : Instr)
    (free : ∀ {lane}, Block.tracker lane ∈ eventBlocks i → ∀ hold serial day, s.inStore ≠ some (.debit lane hold serial day))
    (unsettled : ∀ pace lane result expired, i = .park pace → s.inStore ≠ some (.settle lane result expired)) :
    (eventPlan i s).LeavesImprints s := by
  cases i with
  | entry lane edge =>
    exact State.sensorPlan_leaves (tracked := fun s => .done (s.enter lane))
      (.inl (.of_belt (s.enter_onBelt lane) (onlyLane_enter s lane) (free (List.mem_singleton.mpr rfl))))
  | rate lane edge =>
    exact State.sensorPlan_leaves (tracked := fun s => .done (s.ratePhotocell lane))
      (.inl (.of_belt (s.ratePhotocell_onBelt lane) (onlyLane_ratePhotocell s lane) (free (List.mem_singleton.mpr rfl))))
  | print lane edge pace =>
    exact State.sensorPlan_leaves (tracked := fun s => s.printPhotocell lane)
      (State.printPhotocell_leaves (free (List.mem_singleton.mpr rfl)))
  | exit lane edge =>
    exact State.sensorPlan_leaves (tracked := fun s => .done (s.exitPhotocell lane))
      (.inl (.of_belt (s.exitPhotocell_onLanes lane).1 (onlyLane_exitPhotocell s lane) (free (List.mem_singleton.mpr rfl))))
  | encoderCount lane =>
    exact .inl (.of_belt (s.encoderCount_onBelt lane) (onlyLane_encoderCount s lane) (free (List.mem_singleton.mpr rfl)))
  | run lane value =>
    exact .inl (.of_belt (s.runWrite_onLanes lane value).1 (onlyLane_runWrite s lane value) (free (List.mem_singleton.mpr rfl)))
  | loadRatesCompletion pace => exact loadRatesCompletionPlan_leaves
  | take => exact .inl State.imprintsStay_take
  | ratingCompletion => exact .inl State.imprintsStay_ratingCompletion
  | holdRequest => exact .inl State.imprintsStay_takeRequest
  | frameSent lane =>
    exact State.linkPlan_leaves (plan := fun s => .done (s.frameSent lane)) (.inl (State.imprintsStay_frameSent lane))
  | answerReady lane =>
    exact State.linkPlan_leaves (plan := fun s => .done (s.answerReady lane)) (.inl (State.imprintsStay_answerReady lane))
  | answer lane frame pace =>
    exact State.linkPlan_leaves (plan := fun s => s.answerPlan lane frame) (State.answerPlan_leaves lane frame)
  | answerTimerExpiry lane pace =>
    exact State.linkPlan_leaves (plan := fun s => s.expiryPlan lane) (State.expiryPlan_leaves lane)
  | _ => exact commandPlan_leaves _ unsettled

theorem State.no_settle_of_mustWait {e : HeldEvent} {asks : Bool} (may : s.mustWait e asks = false) {lane : Lane}
    (reaches : Block.link lane ∈ e.blocks) (result : PrintResult) (expired : Bool) :
    s.inStore ≠ some (.settle lane result expired) :=
  State.not_inStore_of_mustWait may reaches (List.mem_singleton.mpr rfl)

omit s in
theorem link_mem_parkBlocks (lane : Lane) (pace : Pace) : Block.link lane ∈ (HeldEvent.event (.park pace)).blocks := by
  show Block.link lane ∈ [Block.tracker .a, .tracker .b, .link .a, .link .b, .ratingUnit, .funds]
  cases lane <;> simp

theorem HeldEvent.plan_leaves (e : HeldEvent) (may : s.mustWait e (e.plan s).asks = false) : (e.plan s).LeavesImprints s := by
  cases e with
  | switchCheck =>
    show s.switchPlan.LeavesImprints s
    unfold State.switchPlan
    split
    · trivial
    · exact .inl (.refl s)
  | event i =>
    refine eventPlan_leaves i (fun reaches => State.no_debit_of_mustWait may reaches) fun pace lane result expired park => ?_
    have reaches : Block.link lane ∈ (HeldEvent.event i).blocks := by
      rw [park]
      exact link_mem_parkBlocks lane pace
    exact State.no_settle_of_mustWait may reaches result expired

end

end Sys2Proof.Machine
end

section
/-! SUPPORT. The laws of the imprints through every step (R112, R119, R146, R158). -/

namespace Sys2Proof.Machine

/-! ### An event without an update -/

section
variable {s : State} (funds : s.LawfulFunds) (h : s.LawfulImprints)
include funds h

omit funds in
theorem State.LawfulImprints.has : s.StoreHas Items.LawfulSpoiled :=
  ⟨h.1, fun phase values record => (h.2.2.2.2 phase values record).1⟩

omit funds in
/-- An event that leaves the store, the part state and the outstanding imprints leaves the laws. -/
theorem State.LawfulImprints.stay {t : State} (store : t.store = s.store) (inStore : t.inStore = s.inStore)
    (stay : s.ImprintsStay t) : t.LawfulImprints := by
  obtain ⟨spoiled, marks, idle, licensed, soon⟩ := h
  obtain ⟨part, outstanding, piece⟩ := stay
  have items := State.items_of_store store
  have started : t.part ≠ .start → s.part ≠ .start := by
    rintro started start
    rcases part with same | ⟨setup, -⟩
    · exact started (same.trans start)
    · exact nomatch setup.symm.trans start
  have open_ : t.part = .setup ∨ t.part = .operating → s.part = .setup ∨ s.part = .operating := by
    rcases part with same | ⟨setup, -⟩
    · rw [same]
      exact id
    · exact fun _ => .inl setup
  refine ⟨by rwa [items], fun other lane => ?_, fun other lane => ?_, fun at_ => ?_, fun phase values record => ?_⟩
  · rw [items, outstanding]
    exact marks (started other) lane
  · rw [outstanding]
    refine idle (fun operating => other ?_) lane
    rcases part with same | ⟨setup, -⟩
    · exact same.trans operating
    · exact nomatch setup.symm.trans operating
  · rw [items]
    exact licensed (open_ at_)
  · rw [store] at record
    obtain ⟨lawful, asked⟩ := soon phase values record
    refine ⟨lawful, fun work busy => ?_⟩
    rw [inStore] at busy
    obtain ⟨update, licences⟩ := asked work busy
    refine ⟨?_, fun at_ => licences (open_ at_)⟩
    cases work with
    | debit lane hold serial day =>
      obtain ⟨marked, free, there, operating⟩ := update
      refine ⟨by rw [items]; exact marked, by rw [outstanding]; exact free, piece lane hold serial day busy there, ?_⟩
      rcases part with same | ⟨-, now⟩
      · exact same.trans operating
      · exact now
    | settle lane result expired =>
      obtain ⟨marked, sent⟩ := update
      exact ⟨by rw [items]; exact marked, by rw [outstanding]; exact sent⟩
    | install => exact update
    | park => exact update
    | startClear => exact update
    | startConversion stop => exact update
    | startSwitch => exact update
    | _ =>
      show _ = t.items.marks
      rw [items]
      exact update

omit funds h in
theorem marks_of_none {x : Items} (free : x.marksPresent = 0) : x.marks = { a := none, b := none } := by
  obtain ⟨a, b⟩ : x.marks.a = none ∧ x.marks.b = none := by
    rw [marksPresent_eq] at free
    constructor
    · cases a : x.marks.a
      · rfl
      · simp [a, markCount] at free
    · cases b : x.marks.b
      · rfl
      · simp [b, markCount] at free
  exact congrArg₂ PerLane.mk a b

/-- A PARK that is made at once: no debit is in its steps, since no money is held after it, and no settling, since no imprint
was outstanding (R133, R193). -/
theorem State.LawfulImprints.parked {t : State} (moves : s.FundsMove t) (parked : s.ParkedAtOnce t) : t.LawfulImprints := by
  obtain ⟨spoiled, marks, unsent, -, soon⟩ := h
  obtain ⟨unmarked, part, idle, -⟩ := parked
  have items := State.items_of_store moves.store
  have moved := funds.move moves
  have unsent (lane : Lane) : (s.link lane).outstanding = none := by
    by_cases start : s.part = .start
    · exact unsent (by rw [start]; decide) lane
    · have same := marks start lane
      rw [SameImprint, marks_of_none unmarked] at same
      cases lane <;> exact Option.map_eq_none_iff.mp same.symm
  have closed : ¬ (t.part = .setup ∨ t.part = .operating) := by
    rw [part]
    decide
  refine ⟨by rwa [items], fun _ lane => ?_, fun _ => idle, fun at_ => absurd at_ closed, fun phase values record => ?_⟩
  · rw [items, marks_of_none unmarked, idle]
    cases lane <;> rfl
  · have covered := (moved.2.2.2 phase values record).2
    rw [moves.store] at record
    obtain ⟨lawful, asked⟩ := soon phase values record
    refine ⟨lawful, fun work busy => ⟨?_, fun at_ => absurd at_ closed⟩⟩
    have covered := covered work busy
    rw [moves.inStore] at busy
    obtain ⟨update, -⟩ := asked work busy
    cases work with
    | debit lane hold serial day =>
      have listed := covered.1
      rw [(moved.quiet part (by decide)).2] at listed
      cases listed
    | settle lane result expired => exact absurd (unsent lane) update.2
    | install => exact update
    | park => exact update
    | startClear => exact update
    | startConversion stop => exact update
    | startSwitch => exact update
    | _ =>
      show _ = t.items.marks
      rw [items]
      exact update

/-! ### An update asked for -/

omit h in
/-- A lane that tracks its pieces does so in OPERATING only. -/
theorem State.LawfulFunds.operating {lane : Lane} (tracks : (s.tracker lane).state.tracks = true) : s.part = .operating := by
  by_contra other
  exact not_quietLanes_of_tracks s tracks (s.quietOutsideOperating_iff.mp funds.2.2.1 other).1

omit funds in
/-- An imprint is outstanding in OPERATING only, and its mark is present. -/
theorem State.LawfulImprints.mark {lane : Lane} {imprint : Imprint} (outstanding : (s.link lane).outstanding = some imprint) :
    s.part = .operating ∧ ∃ mark, s.items.marks.get lane = some mark ∧ mark.serial = imprint.serial := by
  obtain ⟨-, marks, idle, -, -⟩ := h
  have operating : s.part = .operating := by
    by_contra other
    rw [idle other lane] at outstanding
    cases outstanding
  have same := marks (by rw [operating]; decide) lane
  rw [SameImprint, outstanding] at same
  exact ⟨operating, _, same, rfl⟩

omit funds h in
/-- What a dispatch that passes its checks has been checked for (R41). -/
theorem State.dispatchRefusal_none {lane : Lane} (passes : s.dispatchRefusal lane = none) :
    (s.tracker lane).config.link ≠ false ∧ (s.link lane).outstanding = none
      ∧ s.items.spoiled.length + s.items.marksPresent < spoiledLimit ∧ s.calendar.valid ≠ false := by
  unfold State.dispatchRefusal at passes
  split at passes
  · cases passes
  case isFalse linked =>
    split at passes
    · cases passes
    case isFalse free =>
      split at passes
      · cases passes
      case isFalse room =>
        split at passes
        · cases passes
        case isFalse valid => exact ⟨linked, by simpa using free, not_le.mp room, valid⟩

theorem State.LawfulImprints.asks {work : Work} {values : Items} (asks : s.Asks work values) :
    values.LawfulSpoiled ∧ s.UpdateMarks work values
      ∧ (s.part = .setup ∨ s.part = .operating → values.licence ≠ none) := by
  have lawful := h
  obtain ⟨spoiled, marks, idle, licensed, -⟩ := h
  cases work with
  | debit lane hold serial day =>
    obtain ⟨passes, -, tracks, ⟨e, applies, seq⟩, rfl, -, rfl⟩ := asks
    obtain ⟨-, free, room, -⟩ := State.dispatchRefusal_none passes
    have operating := funds.operating tracks
    have unmarked : s.items.marks.get lane = none := by
      have same := marks (by rw [operating]; decide) lane
      rwa [SameImprint, free] at same
    refine ⟨lawfulSpoiled_debit spoiled unmarked room hold day, ⟨rfl, free, ?_, operating⟩, licensed⟩
    rw [Tracker.find_ne_none_iff, ← seq]
    refine List.mem_map_of_mem (f := TrackEntry.seq) ?_
    unfold Tracker.applies at applies
    split at applies
    case h_1 x found =>
      split at applies
      · cases applies
        exact List.mem_of_find?_eq_some found
      · cases applies
    case h_2 => cases applies
  | settle lane result expired =>
    obtain ⟨imprint, outstanding, rfl⟩ := asks
    obtain ⟨operating, mark, set, same⟩ := lawful.mark outstanding
    exact ⟨lawfulSpoiled_settle spoiled set same.symm result, ⟨rfl, by rw [outstanding]; nofun⟩, licensed⟩
  | park =>
    obtain ⟨-, -, rfl⟩ := asks
    exact ⟨lawfulSpoiled_convertMarks spoiled, rfl, licensed⟩
  | claim removed =>
    obtain ⟨claimed, -, rfl⟩ := asks
    exact ⟨lawfulSpoiled_claim spoiled claimed, rfl, licensed⟩
  | credit =>
    obtain ⟨amount, serial, day, rfl⟩ := asks
    exact ⟨spoiled.of_eq rfl rfl rfl, rfl, licensed⟩
  | install =>
    obtain ⟨locked, licence, day, rfl⟩ := asks
    exact ⟨lawfulSpoiled_of_none rfl rfl, ⟨rfl, nofun⟩, fun _ => nofun⟩
  | setAccount =>
    obtain ⟨account, isOpen, rfl⟩ := asks
    exact ⟨spoiled.of_eq rfl rfl rfl, rfl, licensed⟩
  | setAlert before =>
    obtain ⟨-, alert, rfl⟩ := asks
    exact ⟨spoiled.of_eq rfl rfl rfl, rfl, licensed⟩
  | closePeriod =>
    obtain rfl := asks
    exact ⟨spoiled.of_eq rfl rfl rfl, rfl, licensed⟩
  | commit active =>
    obtain ⟨bank, rfl⟩ := asks
    cases active <;> exact ⟨spoiled.of_eq rfl rfl rfl, rfl, licensed⟩
  | bankSwitch =>
    obtain ⟨-, rfl⟩ := asks
    exact ⟨spoiled.of_eq rfl rfl rfl, rfl, licensed⟩
  | setDate day minute second =>
    obtain rfl := asks
    exact ⟨spoiled.of_eq rfl rfl rfl, rfl, licensed⟩
  | startClear => cases asks
  | startConversion stop => cases asks
  | startSwitch => cases asks

omit funds in
theorem State.LawfulImprints.upToUpdate {t : State} (upTo : s.UpToUpdate t) (inStore : t.inStore = s.inStore) :
    t.LawfulImprints := h.stay upTo.store inStore (.of_pieces upTo.part upTo.outstanding (.of_eq upTo.lanes))

omit funds h in
/-- What an update rests on of the marks is the same after an event's writes up to it. -/
theorem State.UpdateMarks.upToUpdate {t : State} {work : Work} {values : Items} (marks : s.UpdateMarks work values)
    (upTo : s.UpToUpdate t) (phase : Phase) : (t.beginUpdate work values phase).UpdateMarks work values := by
  have items : (t.beginUpdate work values phase).items = s.items := (State.items_of_store upTo.store : t.items = s.items)
  have outstanding (lane : Lane) : ((t.beginUpdate work values phase).link lane).outstanding = (s.link lane).outstanding :=
    upTo.outstanding lane
  have tracker (lane : Lane) : (t.beginUpdate work values phase).tracker lane = s.tracker lane := congrArg (PerLane.get · lane) upTo.lanes
  cases work with
  | debit lane hold serial day =>
    obtain ⟨marked, free, there, operating⟩ := marks
    refine ⟨by rw [items]; exact marked, by rw [outstanding]; exact free, by rw [tracker]; exact there, upTo.part.trans operating⟩
  | settle lane result expired =>
    obtain ⟨marked, sent⟩ := marks
    exact ⟨by rw [items]; exact marked, by rw [outstanding]; exact sent⟩
  | install => exact marks
  | park => exact marks
  | startClear => exact marks
  | startConversion stop => exact marks
  | startSwitch => exact marks
  | _ =>
    show _ = (State.items _).marks
    rw [items]
    exact marks

theorem State.LawfulImprints.begun {work : Work} {values : Items} {t : State} (asks : s.Asks work values)
    (upTo : s.UpToUpdate t) (inStore : t.inStore = s.inStore) (phase : Phase) :
    (t.beginUpdate work values phase).LawfulImprints := by
  obtain ⟨lawful, marks, licences⟩ := h.asks funds asks
  obtain ⟨spoiled, same, idle, licensed, -⟩ := h.upToUpdate upTo inStore
  refine ⟨spoiled, same, idle, licensed, fun other given record => ?_⟩
  cases record
  refine ⟨lawful, fun work' busy => ?_⟩
  cases busy
  refine ⟨marks.upToUpdate upTo phase, fun at_ => licences ?_⟩
  rwa [← upTo.part]

theorem State.LawfulImprints.plan (e : HeldEvent) (may : s.mustWait e (e.plan s).asks = false) :
    (e.plan s).Keeps State.LawfulImprints := by
  have moves := e.plan_moves may
  have leaves := e.plan_leaves may
  have asked := e.plan_asked s
  have outside := e.plan_sameOutside s
  cases plan : e.plan s with
  | done t =>
    rw [plan] at moves leaves
    rcases leaves with stay | parked
    · exact h.stay moves.store moves.inStore stay
    · exact h.parked funds moves parked
  | update work values t =>
    rw [plan] at asked outside
    exact fun phase => h.begun funds asked.1 asked.2 outside.inStore phase

end

end Sys2Proof.Machine
end

section
/-! SUPPORT. The laws of the imprints through START, the rest of a whole update, the resets, and so through every step (R112,
R137, R146, R152, R157). -/

namespace Sys2Proof.Machine

/-! ### Where START ends -/

/-- START leaves the part in START, PARKED or LOCKED, or in SETUP with a licence (R135, R177). -/
def State.AtStart (t : State) : Prop :=
  t.part = .start ∨ t.part = .parked ∨ t.part = .locked ∨ (t.part = .setup ∧ t.items.licence ≠ none)

theorem State.writeWholeStatus_part (s : State) : s.writeWholeStatus.part = s.part ∧ s.writeWholeStatus.items = s.items :=
  ⟨by simp [State.writeWholeStatus], State.items_of_store (by simp [State.writeWholeStatus])⟩

theorem State.endStart_atStart (s : State) : s.endStart.AtStart := by
  have items := s.writeWholeStatus_part.2
  unfold State.endStart
  generalize s.writeWholeStatus = t at items ⊢
  dsimp only
  split
  · exact .inr (.inl rfl)
  · cases licensed : t.items.licence with
    | some licence => exact .inr (.inr (.inr ⟨by simp, fun none => nomatch licensed.symm.trans none⟩))
    | none => exact .inr (.inr (.inl (by simp)))

/-! Where START's steps stay in START, or end: so a property of both holds after them. -/

section
variable {P : State → Prop} (stays : ∀ t : State, t.part = .start → P t) (ends : ∀ t : State, P t.endStart)
include stays

theorem State.goOn_ends {s : State} (part : s.part = .start) {steps : State → State} (h : P (steps s)) : P (s.goOn steps) := by
  unfold State.goOn
  split
  · exact stays s part
  · exact h

include ends

theorem State.afterStartSwitch_ends {s : State} (part : s.part = .start) : P s.afterStartSwitch :=
  State.goOn_ends stays (s.afterSwitch_still.2.1.trans part) (ends _)

theorem State.afterClear_ends {s : State} (part : s.part = .start) : P s.afterClear :=
  State.goOn_ends stays (s.faultFound_still.2.2.1.trans part) (ends _)

theorem State.startFrom6_ends {s : State} (part : s.part = .start) (stop : Option Phase) : P (s.startFrom6 stop) := by
  unfold State.startFrom6
  split
  · split
    · exact State.afterStartSwitch_ends stays ends (s := s.makeUpdate _ _) part
    · exact stays _ part
  · exact ends _

theorem State.startFrom5_ends {s : State} (part : s.part = .start) (pace : StartPace) : P (s.startFrom5 pace) := by
  unfold State.startFrom5
  split
  · exact State.startFrom6_ends stays ends part _
  · split
    · exact State.startFrom6_ends stays ends (s := s.makeUpdate _ _) part _
    · exact stays _ part

theorem State.startSteps_ends {s : State} (part : s.part = .start) (pace : StartPace) : P (s.startSteps pace) := by
  have settled : s.warnInStart.settleRecord.part = .start :=
    s.warnInStart.settleRecord_still.2.1.trans (s.warnInStart_still.2.2.trans part)
  unfold State.startSteps
  split
  · dsimp only
    split
    · split
      · exact State.afterClear_ends stays ends (s := State.makeUpdate _ _ _) settled
      · exact stays _ settled
    · exact State.startFrom5_ends stays ends settled pace
  · exact stays s part

theorem State.after_ends {s : State} (part : s.part = .start) {work : Work} (start : work.ofStart = true) : P (s.after work) := by
  cases work with
  | startClear => exact State.afterClear_ends stays ends part
  | startConversion stop => exact State.goOn_ends stays part (steps := fun s => s.startFrom6 stop) (State.startFrom6_ends stays ends part stop)
  | startSwitch => exact State.afterStartSwitch_ends stays ends part
  | _ => cases start

end

theorem State.startSteps_atStart {s : State} (part : s.part = .start) (pace : StartPace) : (s.startSteps pace).AtStart :=
  State.startSteps_ends (fun _ part => .inl part) State.endStart_atStart part pace

theorem State.after_atStart {s : State} (part : s.part = .start) {work : Work} (start : work.ofStart = true) :
    (s.after work).AtStart := State.after_ends (fun _ part => .inl part) State.endStart_atStart part start

/-! ### START -/

/-- No mark is present. -/
def Items.unmarked (x : Items) : Prop := x.marks = { a := none, b := none }

theorem unmarked_keptByStart : Items.KeptByStart Items.unmarked where
  switch _ h := h
  conversion _ _ := rfl
  cleared := rfl

/-- START's own updates leave no mark, and it goes past the conversion with none. -/
theorem State.startFrom5_unmarked {s : State} (record : s.store.record = .empty) (pace : StartPace) :
    (s.startFrom5 pace).StoreHas Items.unmarked
      ∨ ((s.startFrom5 pace).part = s.part ∧ ∀ phase values, (s.startFrom5 pace).store.record = .inSteps phase values →
          values.items.unmarked) := by
  unfold State.startFrom5
  split
  case isTrue free => exact .inl (storeHas_startFrom6 unmarked_keptByStart (.of_empty (marks_of_none free) record) _)
  case isFalse =>
    split
    · exact .inl (storeHas_startFrom6 unmarked_keptByStart (.place (G := Items.unmarked) s (show s.items.convertMarks.unmarked from rfl)) _)
    · refine .inr ⟨rfl, fun phase values begun => ?_⟩
      cases begun
      rfl

theorem State.startSteps_unmarked {s : State} (part : s.part = .start) (idle : s.inStore = none) (pace : StartPace) :
    (s.startSteps pace).StoreHas Items.unmarked
      ∨ ((s.startSteps pace).part = .start ∧ ∀ phase values, (s.startSteps pace).store.record = .inSteps phase values →
          values.items.unmarked) := by
  obtain ⟨record, settled, -⟩ := s.warnInStart.settleRecord_still
  have settled : s.warnInStart.settleRecord.part = .start := settled.trans (s.warnInStart_still.2.2.trans part)
  unfold State.startSteps
  rw [if_pos ⟨part, by simp [State.busy, idle]⟩]
  dsimp only
  split
  · split
    · exact .inl (.of_store (.place (G := Items.unmarked) _ unmarked_keptByStart.cleared) (State.afterClear_still _).1)
    · refine .inr ⟨settled, fun phase values begun => ?_⟩
      cases begun
      rfl
  · rcases State.startFrom5_unmarked record pace with has | ⟨stays, soon⟩
    · exact .inl has
    · exact .inr ⟨stays.trans settled, soon⟩

/-- In START and where it ends nothing is outstanding: the laws hold once the marks are gone, or will be with the update in its
steps. -/
theorem State.LawfulImprints.of_start {t : State} (has : t.StoreHas Items.LawfulSpoiled) (steps : t.StartInSteps)
    (idle : ∀ lane, (t.link lane).outstanding = none) (at_ : t.AtStart)
    (unmarked : t.StoreHas Items.unmarked
      ∨ (t.part = .start ∧ ∀ phase values, t.store.record = .inSteps phase values → values.items.unmarked)) :
    t.LawfulImprints := by
  have now (other : t.part ≠ .start) : t.items.unmarked := by
    rcases unmarked with has | ⟨start, -⟩
    · exact has.now
    · exact absurd start other
  have soon : ∀ phase values, t.store.record = .inSteps phase values → values.items.unmarked := by
    rcases unmarked with has | ⟨-, soon⟩
    · exact has.soon
    · exact soon
  refine ⟨has.now, fun other lane => ?_, fun _ => idle, fun inUse => ?_, fun phase values record => ?_⟩
  · rw [now other, idle]
    cases lane <;> rfl
  · rcases at_ with part | part | part | ⟨-, licensed⟩
    · rw [part] at inUse
      exact absurd inUse (by decide)
    · rw [part] at inUse
      exact absurd inUse (by decide)
    · rw [part] at inUse
      exact absurd inUse (by decide)
    · exact licensed
  · refine ⟨has.soon phase values record, fun work busy => ?_⟩
    obtain ⟨start, part⟩ := steps work busy
    refine ⟨?_, fun inUse => ?_⟩
    · have gone := soon phase values record
      cases work with
      | startClear => exact gone
      | startConversion stop => exact gone
      | startSwitch => exact gone
      | _ => cases start
    · rw [part] at inUse
      exact absurd inUse (by decide)

theorem outstanding_of_links {s t : State} (links : t.links = s.links) (lane : Lane) :
    (t.link lane).outstanding = (s.link lane).outstanding := congrArg (fun p => (PerLane.get p lane).outstanding) links

theorem State.LawfulImprints.start {s : State} (h : s.LawfulImprints) (pace : StartPace) : (s.startSteps pace).LawfulImprints := by
  by_cases steps : s.part = .start ∧ s.busy = false
  · obtain ⟨part, rest⟩ := steps
    have idle : s.inStore = none := by simpa [State.busy] using rest
    have links := (s.startSteps_sameUnits pace).2.1
    refine .of_start (storeHas_startSteps lawfulSpoiled_keptByStart h.has pace) (startInSteps_startSteps part idle pace)
      (fun lane => ?_) (State.startSteps_atStart part pace) (State.startSteps_unmarked part idle pace)
    rw [outstanding_of_links links]
    exact h.2.2.1 (by rw [part]; decide) lane
  · have still : s.startSteps pace = s := by rw [State.startSteps, if_neg steps]
    rwa [still]

/-! ### The rest of a whole update -/

/-- The link after a dispatch has the imprint outstanding. -/
theorem Link.dispatch_outstanding (k : Link) (imprint : Imprint) : (k.dispatch imprint).outstanding = some imprint := by
  unfold Link.dispatch
  split <;> rfl

theorem State.dispatched_links (s : State) (lane : Lane) (hold : Hold) (serial day : Nat) (e : TrackEntry) (imprint : Imprint) :
    (s.dispatched lane hold serial day e imprint).links = s.links.set lane ((s.link lane).dispatch imprint) := by
  simp [State.dispatched, State.link]

/-- The piece is there and the part has a licence: the debit dispatches it. -/
theorem State.afterDebit_found {s : State} {lane : Lane} {hold : Hold} {e : TrackEntry} {licence : Licence}
    (found : (s.tracker lane).find hold.seq = some e) (licensed : s.items.licence = some licence) (serial day : Nat) :
    s.afterDebit lane hold serial day
      = (s.releaseHold lane hold.seq).dispatched lane hold serial day e (imprintOf lane licence hold serial day e) := by
  rcases s.afterDebit_cases lane hold serial day with ⟨-, lost | unlicensed⟩ | ⟨e', licence', there, holds, eq⟩
  · exact nomatch lost.symm.trans found
  · exact nomatch unlicensed.symm.trans licensed
  · cases found.symm.trans there
    cases licensed.symm.trans holds
    exact eq

theorem State.afterSettle_links {s : State} {lane : Lane} {imprint : Imprint} (outstanding : (s.link lane).outstanding = some imprint)
    (result : PrintResult) (expired : Bool) :
    (s.afterSettle lane result expired).links = s.links.set lane ((s.link lane).settle imprint result expired) := by
  unfold State.afterSettle
  rw [outstanding]
  dsimp only
  split <;> split <;> simp [State.link]

/-- A lane's mark and imprint changed together. -/
theorem sameImprint_set {marks : PerLane (Option Mark)} {links : PerLane Link} {lane : Lane} {mark : Option Mark} {k : Link}
    (same : ∀ other, SameImprint (marks.get other) (links.get other).outstanding) (both : SameImprint mark k.outstanding)
    (other : Lane) : SameImprint ((marks.set lane mark).get other) ((links.set lane k).get other).outstanding := by
  by_cases eq : other = lane
  · subst eq
    simpa using both
  · rw [PerLane.get_set_other _ _ eq, PerLane.get_set_other _ _ eq]
    exact same other

section
variable {s : State} (funds : s.LawfulFunds) (h : s.LawfulImprints)
include funds h

omit funds h in
theorem State.LawfulImprints.of_empty {t : State} (spoiled : t.items.LawfulSpoiled)
    (marks : t.part ≠ .start → ∀ lane, SameImprint (t.items.marks.get lane) (t.link lane).outstanding)
    (idle : t.part ≠ .operating → ∀ lane, (t.link lane).outstanding = none)
    (licensed : t.part = .setup ∨ t.part = .operating → t.items.licence ≠ none) (record : t.store.record = .empty) :
    t.LawfulImprints := ⟨spoiled, marks, idle, licensed, fun _ _ other => nomatch record.symm.trans other⟩

omit funds in
/-- The rest of an update that neither reaches a unit nor is START's or an install: both marks and both links are as they were. -/
theorem State.LawfulImprints.after_other {work : Work} {phase : Phase} {values : NewValues} (busy : s.inStore = some work)
    (record : s.store.record = .inSteps phase values) (units : work.reachesUnits = false) (start : work.ofStart = false)
    (install : work ≠ .install) : ((s.place values).after work).LawfulImprints := by
  obtain ⟨-, marks, idle, -, soon⟩ := h
  obtain ⟨spoiled, asked⟩ := soon phase values record
  obtain ⟨update, licences⟩ := asked work busy
  have kept : values.items.marks = s.items.marks := by
    cases work with
    | debit => cases units
    | settle => cases units
    | park => cases units
    | startClear => cases start
    | startConversion => cases start
    | startSwitch => cases start
    | install => exact absurd rfl install
    | _ => exact update
  have store := (s.place values).after_store start
  have items : ((s.place values).after work).items = values.items := State.items_of_store store
  have outstanding := outstanding_of_links ((s.place values).after_sameUnits units).2.1
  have part : ((s.place values).after work).part = s.part := (s.place values).after_part units start install
  refine .of_empty (by rwa [items]) (fun other lane => ?_) (fun other lane => ?_) (fun at_ => ?_) (congrArg Store.record store)
  · rw [items, outstanding, kept]
    exact marks (fun eq => other (part.trans eq)) lane
  · rw [outstanding]
    exact idle (fun eq => other (part.trans eq)) lane
  · rw [items]
    exact licences (part ▸ at_)

theorem State.LawfulImprints.completes {work : Work} {phase : Phase} {values : NewValues} (busy : s.inStore = some work)
    (record : s.store.record = .inSteps phase values) : ((s.place values).after work).LawfulImprints := by
  have lawful := h
  obtain ⟨-, marks, idle, -, soon⟩ := h
  obtain ⟨spoiled, asked⟩ := soon phase values record
  obtain ⟨update, licences⟩ := asked work busy
  have covered := (funds.2.2.2 phase values record).2 work busy
  have started (start : work.ofStart = true) (part : s.part = .start) (gone : values.items.unmarked) :
      ((s.place values).after work).LawfulImprints := by
    have links := ((s.place values).after_sameUnits (work := work) (by cases work <;> first | rfl | cases start)).2.1
    refine .of_start (storeHas_after lawfulSpoiled_keptByStart s work spoiled) (startInSteps_after part start values)
      (fun lane => ?_) (State.after_atStart (s := s.place values) part start)
      (.inl (storeHas_after unmarked_keptByStart s work gone))
    rw [outstanding_of_links links]
    exact idle (by rw [part]; decide) lane
  cases work with
  | startClear => exact started rfl covered update
  | startConversion stop => exact started rfl covered update
  | startSwitch => exact started rfl covered update
  | debit lane hold serial day =>
    obtain ⟨marked, -, there, operating⟩ := update
    have licensed := licences (.inr operating)
    obtain ⟨store, part, -⟩ := (s.place values).afterDebit_still lane hold serial day
    have items : ((s.place values).afterDebit lane hold serial day).items = values.items := State.items_of_store store
    have part : ((s.place values).afterDebit lane hold serial day).part = .operating := part.trans operating
    have same := marks (by rw [operating]; decide)
    refine .of_empty (by rwa [State.after, items]) (fun _ => ?_) (fun other => absurd part other)
      (fun _ => by rwa [State.after, items]) (congrArg Store.record store)
    rw [State.after, items, marked]
    obtain ⟨e, found⟩ := Option.ne_none_iff_exists'.mp there
    obtain ⟨licence, licensed⟩ := Option.ne_none_iff_exists'.mp licensed
    have links : ((s.place values).afterDebit lane hold serial day).links = s.links.set lane _ :=
      (congrArg State.links (State.afterDebit_found (s := s.place values) found licensed serial day)).trans
        (State.dispatched_links _ lane hold serial day e _)
    intro other
    rw [State.link, links]
    exact sameImprint_set same (by rw [Link.dispatch_outstanding]; rfl) other
  | settle lane result expired =>
    obtain ⟨marked, sent⟩ := update
    obtain ⟨imprint, outstanding⟩ := Option.ne_none_iff_exists'.mp sent
    obtain ⟨store, part⟩ := (s.place values).afterSettle_still lane result expired
    have operating := (lawful.mark outstanding).1
    have items : ((s.place values).afterSettle lane result expired).items = values.items := State.items_of_store store
    have part : ((s.place values).afterSettle lane result expired).part = .operating := part.trans operating
    have links := State.afterSettle_links (s := s.place values) outstanding result expired
    refine .of_empty (by rwa [State.after, items]) (fun _ other => ?_) (fun other => absurd part other)
      (fun _ => by rw [State.after, items]; exact licences (.inr operating)) (congrArg Store.record store)
    rw [State.after, items, marked, State.link, links]
    exact sameImprint_set (mark := none) (k := (s.link lane).settle imprint result expired) (marks (by rw [operating]; decide)) rfl other
  | park =>
    have store := (s.place values).after_store (work := .park) rfl
    have items : (s.place values).afterPark.items = values.items := State.items_of_store store
    have part := (s.place values).afterPark_quiet.2.2
    have unsent := (s.place values).afterPark_links
    have gone : values.items.unmarked := update
    refine .of_empty (by rwa [State.after, items]) (fun _ lane => ?_) (fun _ => unsent) (fun at_ => ?_) (congrArg Store.record store)
    · rw [State.after, items, gone, unsent]
      cases lane <;> rfl
    · rw [State.after, part] at at_
      exact absurd at_ (by decide)
  | install =>
    have store := (s.place values).after_store (work := .install) rfl
    have items : ((s.place values).after .install).items = values.items := State.items_of_store store
    have locked : s.part = .locked := covered
    have outstanding (lane : Lane) : (((s.place values).after .install).link lane).outstanding = none := by
      rw [outstanding_of_links ((s.place values).after_sameUnits (work := .install) rfl).2.1]
      exact idle (by rw [locked]; decide) lane
    obtain ⟨gone, licensed⟩ := update
    refine .of_empty (by rwa [items]) (fun _ lane => ?_) (fun _ => outstanding) (fun _ => by rwa [items]) (congrArg Store.record store)
    rw [items, gone, outstanding]
    cases lane <;> rfl
  | _ => exact lawful.after_other busy record rfl rfl (by nofun)

end

end Sys2Proof.Machine
end

section
/-! SUPPORT. O59: the laws of the imprints are kept by every step, with those of the funds (R112, R119, R146, R158). -/

namespace Sys2Proof.Machine

theorem samePieces_refuseSlotWrite (s : State) (lane : Lane) : SamePieces s (s.refuseSlotWrite lane) := by
  have counted : SamePieces s (s.onTracker lane fun t => { t with refusals := count16 t.refusals }) :=
    (SamePieces.refl s).onTracker lane fun _ => rfl
  refine counted.trans (.of_eq ?_)
  unfold State.refuseSlotWrite State.changeLane
  split <;> simp

theorem lawfulImprints_resetEvent {s : State} (has : s.StoreHas Items.LawfulSpoiled) (cause : ResetCause) :
    (s.resetEvent cause).LawfulImprints := by
  refine ⟨has.now, fun other => absurd rfl other, fun _ lane => ?_, fun at_ => ?_, fun phase values record => ?_⟩
  · cases lane <;> rfl
  · exact absurd (show PartState.start = .setup ∨ PartState.start = .operating from at_) (by decide)
  · exact ⟨has.soon phase values record, nofun⟩

/-- A lost battery leaves the retained items, and those of an update in its steps with what they rest on. -/
theorem lawfulImprints_batteryLoss {s : State} (h : s.LawfulImprints) : s.batteryLoss.LawfulImprints := by
  obtain ⟨spoiled, marks, idle, licensed, soon⟩ := h
  refine ⟨spoiled, marks, idle, licensed, fun phase values record => ?_⟩
  have record : s.store.record.loseLatch = .inSteps phase values := record
  cases stands : s.store.record with
  | empty =>
    rw [stands] at record
    cases record
  | inSteps _ given =>
    rw [stands] at record
    cases record
    obtain ⟨lawful, asked⟩ := soon _ given stands
    refine ⟨lawful, fun work busy => ?_⟩
    obtain ⟨update, licences⟩ := asked work busy
    refine ⟨?_, licences⟩
    cases work <;> exact update

/-- The inspection notice and the counting of the calendar leave the imprints. -/
theorem State.imprintsStay_inspect (s : State) : s.ImprintsStay s.inspect := by
  obtain ⟨lanes, links, -⟩ := s.inspect_sameUnits
  exact .of_pieces s.inspect_still.2.1 (outstanding_of_links links) (.of_eq lanes)

theorem State.imprintsStay_refuseSlotWrite (s : State) (lane : Lane) : s.ImprintsStay (s.refuseSlotWrite lane) :=
  .of_pieces (by simp [State.refuseSlotWrite]) (fun _ => outstanding_of_links (by simp [State.refuseSlotWrite]) _)
    (samePieces_refuseSlotWrite s lane)

/-- The laws of the funds and of the imprints together. -/
def State.LawfulFundsAndImprints (s : State) : Prop := s.LawfulFunds ∧ s.LawfulImprints

theorem Plan.Keeps.both {P Q : State → Prop} {p : Plan} (h : p.Keeps P) (h' : p.Keeps Q) : p.Keeps (fun s => P s ∧ Q s) := by
  cases p with
  | done s => exact ⟨h, h'⟩
  | update work values s => exact fun phase => ⟨h phase, h' phase⟩

theorem kept_lawfulImprints : Kept State.LawfulFundsAndImprints where
  pending _ h := h
  notices _ h := h
  command _ h := h
  waiting _ _ _ h := h
  loading _ _ h := h
  powerWarn _ h := h
  fields _ _ h := h
  byte _ _ _ h := h
  refuseSlotWrite {s} lane h := ⟨kept_lawfulFunds.refuseSlotWrite lane h.1,
    h.2.stay (by simp [State.refuseSlotWrite]) (by simp [State.refuseSlotWrite]) (s.imprintsStay_refuseSlotWrite lane)⟩
  plan e h may := (kept_lawfulFunds.plan e h.1 may).both (h.2.plan h.1 e may)
  claim {s} claimed h idle := fun phase => ⟨kept_lawfulFunds.claim claimed h.1 idle phase,
    h.2.begun h.1 (work := .claim _) ⟨claimed, rfl, rfl⟩ (.refl _) rfl phase⟩
  completes work phase values h busy record :=
    ⟨kept_lawfulFunds.completes work phase values h.1 busy record, h.2.completes h.1 busy record⟩
  reset cause h := ⟨kept_lawfulFunds.reset cause h.1, lawfulImprints_resetEvent h.2.has cause⟩
  straps {s} lanes order h := ⟨kept_lawfulFunds.straps lanes order h.1,
    lawfulImprints_resetEvent (s := State.abortCommand { s with laneCount := lanes, order := order })
      (h.2.has.of_store (State.abortCommand_store _)) .line⟩
  powerOn lanes order h := ⟨kept_lawfulFunds.powerOn lanes order h.1, lawfulImprints_resetEvent (h.2.has.of_store rfl) .powerOn⟩
  start pace h := ⟨kept_lawfulFunds.start pace h.1, h.2.start pace⟩
  supplyLoss h := ⟨kept_lawfulFunds.supplyLoss h.1, h.2.1, h.2.2.1, h.2.2.2.1, h.2.2.2.2.1,
    fun phase values record => ⟨h.2.has.soon phase values record, nofun⟩⟩
  batteryLoss h := ⟨kept_lawfulFunds.batteryLoss h.1, lawfulImprints_batteryLoss h.2⟩
  second _ h := h
  quietBoundary h _ := h
  boundary {s} h := ⟨kept_lawfulFunds.boundary h.1,
    State.LawfulImprints.stay (s := State.touchCalendar { s with calendar := s.calendar.nextMinute }) h.2
      (State.inspect_still _).1 (State.inspect_sameOutside _).inStore (State.imprintsStay_inspect _)⟩

theorem State.imprintsStay_flush (s : State) : s.ImprintsStay s.flush :=
  .of_pieces (by simp) (fun _ => outstanding_of_links (by simp) _) (.of_eq (by simp))

/-- Settles O59: `pairwise_placeSpoiled` and its fellows for the list, `kept_lawfulImprints` for the steps. -/
theorem spoiledListAndMarksStayLawful : Obligations.SpoiledListAndMarksStayLawful := by
  constructor
  · intro entry list rising fresh
    exact ⟨pairwise_placeSpoiled rising fresh, length_placeSpoiled entry list, fun x => mem_placeSpoiled entry list x⟩
  · intro s t funds imprints steps
    have both : t.LawfulFundsAndImprints :=
      kept_lawfulImprints.step (Q := State.LawfulFundsAndImprints) (fun _ h => h)
        (fun s h => ⟨h.1.move s.fundsMove_flush, h.2.stay (by simp) (by simp) s.imprintsStay_flush⟩) (fun _ _ h => h)
        (fun _ _ _ _ _ => .inr fun _ _ _ h => h) ⟨funds, imprints⟩ steps
    exact both.2

end Sys2Proof.Machine
end

section
/-! SUPPORT. What an event leaves of the status block: the bytes below 0x0100, and of every group the fields, unless the group
waits to be rewritten (R4, R5). -/

namespace Sys2Proof.Machine

/-- The groups of the status block (R5, 11.4). -/
inductive StatusGroup where
  | part
  | calendar
  | banks
  | spoiled
  | funds
  | lane (lane : Lane)

/-- A group waits to be rewritten. -/
def StatusGroup.dirty (d : Groups) : StatusGroup → Bool
  | .part => d.part
  | .calendar => d.calendar
  | .banks => d.banks
  | .spoiled => d.spoiled
  | .funds => d.funds
  | .lane .a => d.laneA
  | .lane .b => d.laneB

/-- The fields of a group; an absent lane B has none. -/
def StatusGroup.fields (s : State) : StatusGroup → List Field
  | .part => partFields s
  | .calendar => calendarFields s
  | .banks => banksFields s
  | .spoiled => spoiledFields s
  | .funds => fundsFields s
  | .lane .a => laneFields 0x30 s.lanes.a
  | .lane .b => if s.laneCount = .two then laneFields 0x42 s.lanes.b else []

/-- What a group's fields are made of, and whether the group waits. -/
def State.statusView (s : State) :=
  (s.dirty, s.resetCause, s.part, s.calendar, s.store.items, s.holds, s.lanes, s.laneCount)

theorem StatusGroup.of_view {s t : State} (view : t.statusView = s.statusView) (g : StatusGroup) :
    g.dirty t.dirty = g.dirty s.dirty ∧ g.fields t = g.fields s := by
  simp only [State.statusView, Prod.mk.injEq] at view
  obtain ⟨dirty, cause, part, calendar, items, holds, lanes, count⟩ := view
  refine ⟨by rw [dirty], ?_⟩
  cases g with
  | part => simp [StatusGroup.fields, partFields, cause, part]
  | calendar => simp [StatusGroup.fields, calendarFields, calendar]
  | banks =>
    have items : t.items = s.items := items
    simp only [StatusGroup.fields, banksFields, items]
  | spoiled => simp [StatusGroup.fields, spoiledFields, State.items, items]
  | funds => simp [StatusGroup.fields, fundsFields, State.available, State.items, items, holds]
  | lane l => cases l <;> simp [StatusGroup.fields, lanes, count]

/-- A group is left alone: where it does not wait now, it did not wait before and has the same fields. -/
def StatusGroup.Stays (g : StatusGroup) (s t : State) : Prop :=
  g.dirty t.dirty = false → g.dirty s.dirty = false ∧ g.fields t = g.fields s

theorem StatusGroup.Stays.trans {g : StatusGroup} {s t u : State} (h : g.Stays s t) (h' : g.Stays t u) : g.Stays s u := by
  intro clean
  obtain ⟨was, fields⟩ := h' clean
  obtain ⟨before, same⟩ := h was
  exact ⟨before, fields.trans same⟩

/-- What an event that rewrites nothing leaves of the status block. -/
structure State.StatusStays (s t : State) : Prop where
  groups : ∀ g : StatusGroup, g.Stays s t
  frame : t.supply = s.supply ∧ t.order = s.order ∧ t.generation = s.generation
  started : t.part ≠ .start → s.part ≠ .start
  low : ∀ a, a < 0x0100 → t.readByte a = s.readByte a

theorem State.StatusStays.refl (s : State) : s.StatusStays s := ⟨fun _ clean => ⟨clean, rfl⟩, ⟨rfl, rfl, rfl⟩, id, fun _ _ => rfl⟩

theorem State.StatusStays.trans {s t u : State} (h : s.StatusStays t) (h' : t.StatusStays u) : s.StatusStays u := by
  obtain ⟨supply, order, generation⟩ := h.frame
  obtain ⟨supply', order', generation'⟩ := h'.frame
  exact ⟨fun g => (h.groups g).trans (h'.groups g), ⟨supply'.trans supply, order'.trans order, generation'.trans generation⟩,
    fun started => h.started (h'.started started), fun a below => (h'.low a below).trans (h.low a below)⟩

/-- Nothing that the status block shows, and nothing of its bytes, is changed. -/
theorem State.StatusStays.of_view {s t : State} (view : t.statusView = s.statusView)
    (frame : (t.supply, t.order, t.generation, t.powerOns, t.mem) = (s.supply, s.order, s.generation, s.powerOns, s.mem)) : s.StatusStays t := by
  simp only [Prod.mk.injEq] at frame
  obtain ⟨supply, order, generation, powerOns, mem⟩ := frame
  refine ⟨fun g clean => ?_, ⟨supply, order, generation⟩, fun started => ?_, fun a _ => ?_⟩
  · obtain ⟨dirty, fields⟩ := StatusGroup.of_view view g
    exact ⟨dirty ▸ clean, fields⟩
  · have part : t.part = s.part := congrArg (fun v => v.2.2.1) view
    rwa [← part]
  · rw [State.readByte, mem, powerOns]
    rfl

/-- Writes above the status block leave it. -/
theorem State.statusStays_writeFields (s : State) {fs : List Field} (above : ∀ f ∈ fs, 0x0100 ≤ f.address) :
    s.StatusStays (s.writeFields fs) := by
  refine ⟨fun g clean => ⟨clean, ?_⟩, ⟨rfl, rfl, rfl⟩, id, (State.UpToUpdate.writeFields above).low⟩
  exact (StatusGroup.of_view (s := s) rfl g).2

/-- A lane group at a base is the lane group at 0, moved there. -/
theorem laneFields_eq_map (base : Nat) (t : Tracker) :
    laneFields base t = (laneFields 0 t).map (fun f => { f with address := base + f.address }) := by
  unfold laneFields optionField
  cases t.lastAssigned <;> cases t.lastDone <;> simp

theorem laneFields_congr {t r : Tracker} (same : laneFields 0 r = laneFields 0 t) (base : Nat) :
    laneFields base r = laneFields base t := by
  rw [laneFields_eq_map base r, laneFields_eq_map base t, same]

/-- A lane's tracker changed and its group touched: the other groups are left alone. -/
theorem State.statusStays_touched (s : State) (lane : Lane) (r : Tracker) : s.StatusStays ((s.setTracker lane r).touchLane lane) := by
  refine ⟨fun g clean => ?_, by cases lane <;> exact ⟨rfl, rfl, rfl⟩, by cases lane <;> exact id, by cases lane <;> exact fun _ _ => rfl⟩
  cases lane with
  | a =>
    cases g with
    | lane l =>
      cases l with
      | a => cases clean
      | b => exact ⟨clean, rfl⟩
    | _ => exact ⟨clean, rfl⟩
  | b =>
    cases g with
    | lane l =>
      cases l with
      | a => exact ⟨clean, rfl⟩
      | b =>
        have clean : (s.dirty.laneB || s.laneCount == .two) = false := clean
        rw [Bool.or_eq_false_iff] at clean
        have absent : s.laneCount ≠ .two := fun two => by
          rw [two] at clean
          exact absurd clean.2 (by decide)
        refine ⟨clean.1, ?_⟩
        show (if s.laneCount = .two then _ else _) = (if s.laneCount = .two then _ else _)
        rw [if_neg absent, if_neg absent]
    | _ => exact ⟨clean, rfl⟩

/-- A lane's tracker changed in nothing that its group shows. -/
theorem State.statusStays_setTracker (s : State) (lane : Lane) {r : Tracker}
    (same : laneFields 0 r = laneFields 0 (s.tracker lane)) : s.StatusStays (s.setTracker lane r) := by
  refine ⟨fun g clean => ⟨clean, ?_⟩, ⟨rfl, rfl, rfl⟩, id, fun _ _ => rfl⟩
  cases g with
  | lane l =>
    cases lane <;> cases l
    · exact laneFields_congr same _
    · rfl
    · rfl
    · show (if s.laneCount = .two then laneFields 0x42 r else []) = (if s.laneCount = .two then laneFields 0x42 s.lanes.b else [])
      rw [laneFields_congr same]
      rfl
  | _ => rfl

section
variable {s t : State} (h : s.StatusStays t)
include h

theorem State.StatusStays.view {u : State} (view : u.statusView = t.statusView)
    (frame : (u.supply, u.order, u.generation, u.powerOns, u.mem) = (t.supply, t.order, t.generation, t.powerOns, t.mem)) : s.StatusStays u :=
  h.trans (.of_view view frame)

theorem State.StatusStays.writeFields {fs : List Field} (above : ∀ f ∈ fs, 0x0100 ≤ f.address) :
    s.StatusStays (t.writeFields fs) := h.trans (t.statusStays_writeFields above)

theorem State.StatusStays.writeByte {a : Nat} (above : 0x0100 ≤ a) (value : Byte) : s.StatusStays (t.writeByte a value) :=
  h.trans ⟨fun g clean => ⟨clean, (StatusGroup.of_view (s := t) rfl g).2⟩, ⟨rfl, rfl, rfl⟩, id, fun _ below =>
    readByte_writeByte_other _ _ _ _ (by omega)⟩

theorem State.StatusStays.setSlot (lane : Lane) (index : Nat) (state : SlotState) : s.StatusStays (t.setSlot lane index state) :=
  h.writeByte (le_trans (by decide) (slotAddress_ge lane index)) _

theorem State.StatusStays.raise (c : Cause) : s.StatusStays (t.raise c) := h.view rfl rfl

theorem State.StatusStays.onLink (lane : Lane) (f : Link → Link) : s.StatusStays (t.onLink lane f) := h.view rfl rfl

theorem State.StatusStays.setTracker (lane : Lane) {r : Tracker} (same : laneFields 0 r = laneFields 0 (t.tracker lane)) :
    s.StatusStays (t.setTracker lane r) := h.trans (t.statusStays_setTracker lane same)

theorem State.StatusStays.onTracker (lane : Lane) {f : Tracker → Tracker} (same : ∀ r, laneFields 0 (f r) = laneFields 0 r) :
    s.StatusStays (t.onTracker lane f) := h.setTracker lane (same _)

theorem State.StatusStays.onEntry (lane : Lane) (seq : Nat) (f : TrackEntry → TrackEntry) : s.StatusStays (t.onEntry lane seq f) :=
  h.onTracker lane fun _ => rfl

theorem State.StatusStays.touched (lane : Lane) (r : Tracker) : s.StatusStays ((t.setTracker lane r).touchLane lane) :=
  h.trans (t.statusStays_touched lane r)

theorem State.StatusStays.onTracker_touched (lane : Lane) (f : Tracker → Tracker) :
    s.StatusStays ((t.onTracker lane f).touchLane lane) := h.touched lane _

theorem State.StatusStays.changeLane (lane : Lane) (f : Tracker → Tracker) : s.StatusStays (t.changeLane lane f) := by
  unfold State.changeLane
  split
  case isTrue same => exact h.setTracker lane same
  case isFalse => exact h.onTracker_touched lane f

/-- A group that waits from now on is left alone whatever happens to it. -/
theorem State.StatusStays.touchFunds (holds : List Hold) : s.StatusStays (State.touchFunds { t with holds := holds }) := by
  refine h.trans ⟨fun g clean => ?_, ⟨rfl, rfl, rfl⟩, id, fun _ _ => rfl⟩
  cases g with
  | funds => cases clean
  | lane l => cases l <;> exact ⟨clean, rfl⟩
  | _ => exact ⟨clean, rfl⟩

theorem State.StatusStays.touchCalendar (calendar : Calendar) : s.StatusStays (State.touchCalendar { t with calendar := calendar }) := by
  refine h.trans ⟨fun g clean => ?_, ⟨rfl, rfl, rfl⟩, id, fun _ _ => rfl⟩
  cases g with
  | calendar => cases clean
  | lane l => cases l <;> exact ⟨clean, rfl⟩
  | _ => exact ⟨clean, rfl⟩

theorem State.StatusStays.touchSpoiled : s.StatusStays t.touchSpoiled := by
  refine h.trans ⟨fun g clean => ?_, ⟨rfl, rfl, rfl⟩, id, fun _ _ => rfl⟩
  cases g with
  | spoiled => cases clean
  | lane l => cases l <;> exact ⟨clean, rfl⟩
  | _ => exact ⟨clean, rfl⟩

theorem State.StatusStays.touchBanks : s.StatusStays t.touchBanks := by
  refine h.trans ⟨fun g clean => ?_, ⟨rfl, rfl, rfl⟩, id, fun _ _ => rfl⟩
  cases g with
  | banks => cases clean
  | lane l => cases l <;> exact ⟨clean, rfl⟩
  | _ => exact ⟨clean, rfl⟩

omit h in
theorem StatusGroup.stays_setPart (t : State) (part : PartState) (g : StatusGroup) : g.Stays t (t.setPart part) := by
  intro clean
  cases g with
  | part => cases clean
  | lane l => cases l <;> exact ⟨clean, rfl⟩
  | _ => exact ⟨clean, rfl⟩

theorem State.StatusStays.setPart (started : t.part ≠ .start) (part : PartState) : s.StatusStays (t.setPart part) :=
  h.trans ⟨StatusGroup.stays_setPart t part, ⟨rfl, rfl, rfl⟩, fun _ => started, fun _ _ => rfl⟩

theorem State.StatusStays.writeStatus (status : Status) : s.StatusStays (t.writeStatus status) :=
  h.writeFields (by simp [statusAddress])

theorem State.StatusStays.complete (status : Status) : s.StatusStays (t.complete status) :=
  (h.writeStatus status).view rfl rfl

theorem State.StatusStays.writeLoadReport (report : LoadReport) : s.StatusStays (t.writeLoadReport report) := by
  have above : ∀ f ∈ loadReportFields report, 0x0100 ≤ f.address := fun f listed =>
    le_trans (by decide) (loadReportFields_within listed).1
  rw [State.writeLoadReport_eq]
  exact h.writeFields above

end

end Sys2Proof.Machine
end

section
/-! SUPPORT. Every operation of the lanes, the rating unit and the funds unit leaves the status block, but for groups that wait
to be rewritten (R5). -/

namespace Sys2Proof.Machine

theorem slotField_above (lane : Lane) (index offset width value : Nat) : 0x0100 ≤ (slotField lane index offset width value).address := by
  have := slotAddress_ge lane index
  simp only [slotField]
  omega

theorem tableFields_above {lane : Lane} {tableId index : Nat} {f : Field} (listed : f ∈ tableFields lane tableId index) :
    0x0100 ≤ f.address := by
  unfold tableFields at listed
  split at listed
  · cases listed
  · rcases List.mem_singleton.mp listed with rfl
    exact slotField_above ..

section
variable {s t : State} (h : s.StatusStays t)
include h

/-! ### Slots, batches and the end of entries -/

theorem State.StatusStays.writeResults (lane : Lane) (e : TrackEntry) {fields : Nat → List Field} (bits : List Nat)
    (above : ∀ index, ∀ f ∈ fields index, 0x0100 ≤ f.address) : s.StatusStays (t.writeResults lane e fields bits) := by
  have noted := h.onEntry lane e.seq fun e' => { e' with presence := bits.foldl withBit e.presence }
  unfold State.writeResults
  dsimp only
  split
  · exact noted
  case h_2 index slot =>
    refine noted.writeFields fun f listed => ?_
    rcases List.mem_append.mp listed with listed | listed
    · exact above index f listed
    · unfold presenceFields at listed
      split at listed
      · cases listed
      · rcases List.mem_singleton.mp listed with rfl
        exact slotField_above ..

theorem State.StatusStays.endBatch (lane : Lane) : s.StatusStays (t.endBatch lane) := by
  unfold State.endBatch
  dsimp only
  split
  · refine ((h.writeFields fun f listed => ?_).raise _).onTracker lane fun _ => rfl
    exact le_trans (by have := summaryAddress_ge lane; omega) (summaryFields_within listed).1
  · exact h

theorem State.StatusStays.slotDone (lane : Lane) (e : TrackEntry) (index : Nat) (outcome : PieceOutcome)
    (cause : Option DivertCause) : s.StatusStays (t.slotDone lane e index outcome cause) := by
  refine State.StatusStays.endBatch ?_ lane
  refine State.StatusStays.raise ?_ _
  refine State.StatusStays.onTracker_touched ?_ lane _
  refine State.StatusStays.setSlot (h.writeResults lane e _ fun i f listed => ?_) ..
  rcases List.mem_cons.mp listed with rfl | listed
  · exact slotField_above ..
  · rcases List.mem_append.mp listed with listed | listed
    · unfold divertFields at listed
      split at listed
      · rcases List.mem_singleton.mp listed with rfl
        exact slotField_above ..
      · cases listed
    · rcases List.mem_singleton.mp listed with rfl
      exact slotField_above ..

theorem State.StatusStays.endEntry (lane : Lane) (e : TrackEntry) (outcome : PieceOutcome) (cause : Option DivertCause) :
    s.StatusStays (t.endEntry lane e outcome cause) := by
  unfold State.endEntry
  refine State.StatusStays.onTracker ?_ lane fun _ => rfl
  split
  · exact h.slotDone ..
  · exact h

theorem State.StatusStays.endEntries (lane : Lane) (otherwise : DivertCause) (es : List TrackEntry) :
    s.StatusStays (t.endEntries lane otherwise es) := by
  induction es generalizing t with
  | nil => exact h
  | cons e es ih => exact ih (h.endEntry ..)

theorem State.StatusStays.drainCheck (lane : Lane) : s.StatusStays (t.drainCheck lane) := by
  unfold State.drainCheck
  dsimp only
  split
  · exact h.touched lane _
  · exact h

theorem State.StatusStays.emptyHalted (lane : Lane) : s.StatusStays (t.emptyHalted lane) := by
  unfold State.emptyHalted
  dsimp only
  split
  · exact (h.endEntries ..).onTracker_touched lane _
  · exact h

/-! ### Halts, strays and the belt -/

theorem State.StatusStays.halt (lane : Lane) (cause : HaltCause) : s.StatusStays (t.halt lane cause) := by
  unfold State.halt
  dsimp only
  split
  · refine State.StatusStays.emptyHalted (State.StatusStays.raise ?_ _) lane
    have moved := h.touched lane
      { t.tracker lane with state := .halting, haltCause := some cause, queue := (t.tracker lane).queue.map TrackEntry.jam }
    unfold State.releaseLane
    split
    · have released := (moved.view (u := { State.touchLane (t.setTracker lane _) lane with
        takeQueue := t.takeQueue.filter (fun q => q.lane != lane) }) rfl rfl).touchFunds (t.holds.filter fun h => h.lane != lane)
      cases lane <;> exact released
    · cases lane <;> exact moved.view rfl rfl
  · exact h

theorem State.StatusStays.stray (lane : Lane) : s.StatusStays (t.stray lane) := (h.changeLane lane _).raise _

theorem State.StatusStays.enter (lane : Lane) : s.StatusStays (t.enter lane) := by
  unfold State.enter
  split
  · exact h.halt lane _
  · split
    case h_1 cause refused =>
      unfold State.enterWithoutSlot
      dsimp only
      split
      · have both : ((t.onTracker lane fun t => t.enter (TrackEntry.slotless t.nextSeq cause)).touchLane lane).onTracker lane
            (fun t => { t with overruns := count16 t.overruns })
            = (t.onTracker lane fun t =>
                { t.enter (TrackEntry.slotless t.nextSeq cause) with overruns := count16 t.overruns }).touchLane lane := by
          cases lane <;> rfl
        rw [both]
        exact (h.onTracker_touched lane _).raise _
      · exact h.onTracker_touched lane _
    case h_2 =>
      unfold State.openSlot
      refine State.StatusStays.onTracker_touched ?_ lane _
      refine State.StatusStays.raise (State.StatusStays.setSlot (h.writeFields fun f listed => ?_) ..) _
      simp only [identityFields, List.mem_cons, List.not_mem_nil, or_false] at listed
      rcases listed with rfl | rfl | rfl | rfl | rfl <;> exact slotField_above ..

theorem State.StatusStays.takeQueue (queue : List QueueEntry) : s.StatusStays { t with takeQueue := queue } := h.view rfl rfl

theorem State.StatusStays.ratePhotocell (lane : Lane) : s.StatusStays (t.ratePhotocell lane) := by
  unfold State.ratePhotocell
  split
  · exact h.stray lane
  · split
    · split
      · unfold State.rateFilled
        dsimp only
        split
        · exact ((h.setSlot ..).onEntry ..).onEntry ..
        · split
          · exact ((h.setSlot ..).onEntry ..).onEntry ..
          · exact State.StatusStays.onEntry (((h.setSlot ..).onEntry ..).takeQueue _) ..
      · exact (h.setSlot ..).onEntry ..
    · exact h.onEntry ..

theorem State.StatusStays.exitPhotocell (lane : Lane) : s.StatusStays (t.exitPhotocell lane) := by
  unfold State.exitPhotocell
  split
  · exact h.stray lane
  case h_2 e applies =>
    have driven : s.StatusStays (t.driveGate lane e) := by
      unfold State.driveGate
      refine State.StatusStays.onEntry ?_ ..
      refine State.StatusStays.writeResults (h.onTracker lane (by intro _; rfl)) lane e _ fun index f listed => ?_
      rcases List.mem_singleton.mp listed with rfl
      exact slotField_above ..
    dsimp only
    split
    · exact driven
    · refine State.StatusStays.drainCheck ?_ lane
      unfold State.endAtExit
      split
      · exact driven
      all_goals exact driven.endEntry ..

theorem State.StatusStays.encoderCount (lane : Lane) : s.StatusStays (t.encoderCount lane) := by
  have counted : s.StatusStays (t.setTracker lane
      { t.tracker lane with queue := (t.tracker lane).queue.map TrackEntry.count }) := h.setTracker lane rfl
  unfold State.encoderCount
  dsimp only
  split
  · split
    · exact counted.halt lane _
    · exact counted
  · exact h

theorem State.StatusStays.runWrite (lane : Lane) (value : Bool) : s.StatusStays (t.runWrite lane value) := by
  have moved (state : LaneState) : s.StatusStays (t.moveLane lane state) := h.onTracker_touched lane _
  unfold State.runWrite
  split
  · split
    · split
      · exact moved _
      · exact h
    · exact (moved _).drainCheck lane
    · exact moved _
    · exact moved _
    · exact h
  · exact h

/-! ### The links -/

theorem State.StatusStays.settleEntry (lane : Lane) (seq : Nat) (result : PrintResult) :
    s.StatusStays (t.settleEntry lane seq result) := by
  unfold State.settleEntry
  split
  · exact h
  case h_2 e found =>
    have settled : s.StatusStays ((t.onEntry lane seq fun e => { e with stage := if result = .printed then .printed else .spoiled }).writeResults
        lane e (fun index => [slotField lane index 0x26 1 (printResultCode result)]) [printResultBit]) := by
      refine (h.onEntry ..).writeResults lane e _ fun index f listed => ?_
      rcases List.mem_singleton.mp listed with rfl
      exact slotField_above ..
    dsimp only
    split
    · split
      · exact settled.endEntry ..
      · exact settled
    · exact settled

/-- The rest of a settling from the entry on: the entry, a halt at the third fault, an emptying and the end of draining. -/
theorem State.StatusStays.settled (lane : Lane) (seq : Nat) (result : PrintResult) :
    s.StatusStays
      (((if result ≠ .printed ∧ ((t.settleEntry lane seq result).link lane).faults = 3 then
          (t.settleEntry lane seq result).halt lane .printerFault
        else t.settleEntry lane seq result).emptyHalted lane).drainCheck lane) := by
  have entry := h.settleEntry lane seq result
  refine State.StatusStays.drainCheck (State.StatusStays.emptyHalted ?_ lane) lane
  split
  · exact entry.halt lane _
  · exact entry

theorem State.StatusStays.afterSettle (lane : Lane) (result : PrintResult) (expired : Bool) :
    s.StatusStays (t.afterSettle lane result expired) := by
  unfold State.afterSettle
  split
  · exact h
  case h_2 imprint outstanding =>
    have linked := h.onLink lane fun k => k.settle imprint result expired
    refine State.StatusStays.settled ?_ lane imprint.seq result
    split
    · exact linked
    · exact linked.touchSpoiled

theorem State.StatusStays.dispatched (lane : Lane) (hold : Hold) (serial day : Nat) (e : TrackEntry) (imprint : Imprint) :
    s.StatusStays (t.dispatched lane hold serial day e imprint) := by
  unfold State.dispatched
  refine State.StatusStays.onLink (State.StatusStays.onEntry (h.writeResults lane e _ fun index f listed => ?_) ..) ..
  simp only [List.mem_cons, List.not_mem_nil, or_false] at listed
  rcases listed with rfl | rfl <;> exact slotField_above ..

theorem State.StatusStays.afterDebit (lane : Lane) (hold : Hold) (serial day : Nat) :
    (t.releaseHold lane hold.seq).StatusStays (t.afterDebit lane hold serial day)
      ∧ s.StatusStays (t.afterDebit lane hold serial day) := by
  have released : s.StatusStays (t.releaseHold lane hold.seq) := h.touchFunds _
  rcases t.afterDebit_cases lane hold serial day with ⟨unfound, -⟩ | ⟨e, licence, -, -, found⟩
  · rw [unfound]
    exact ⟨.refl _, released⟩
  · rw [found]
    exact ⟨State.StatusStays.dispatched (.refl _) .., released.dispatched ..⟩

/-! ### PARK -/

omit h in
theorem State.touchLane_onLink (t : State) (lane of : Lane) (f : Link → Link) :
    (t.touchLane lane).onLink of f = (t.onLink of f).touchLane lane := by
  cases lane <;> rfl

theorem State.StatusStays.parkLane (lane : Lane) : s.StatusStays (t.parkLane lane) := by
  unfold State.parkLane
  extract_lets t₁ t₂ t₃
  have shown : s.StatusStays t₁ := by
    dsimp only [t₁]
    split
    · exact h
    · split
      · exact h
      · refine h.writeResults lane _ _ fun index f listed => ?_
        rcases List.mem_singleton.mp listed with rfl
        exact slotField_above ..
  rw [← State.touchLane_onLink]
  exact ((shown.endEntries lane .parked (t₁.tracker lane).queue).onTracker_touched lane _).onLink lane Link.park

theorem State.StatusStays.afterPark (started : t.part ≠ .start) : s.StatusStays t.afterPark := by
  have abandoned : State.StatusStays { t with holds := [] } (State.abandonRating { t with holds := [] }) := .of_view rfl rfl
  have parked := (abandoned.parkLane .a).parkLane .b
  have still : (((State.abandonRating { t with holds := [] }).parkLane .a).parkLane .b).part ≠ .start := by
    simpa [State.abandonRating] using started
  unfold State.afterPark
  dsimp only
  generalize ((State.abandonRating { t with holds := [] }).parkLane .a).parkLane .b = u at parked still ⊢
  have ended := (((parked.touchFunds u.holds).touchSpoiled).complete .done).setPart still .parked
  refine h.trans ⟨fun g clean => ?_, ended.frame, fun _ => started, ended.low⟩
  have same := ended.groups g clean
  cases g with
  | funds => cases clean
  | lane l => cases l <;> exact same
  | _ => exact same

/-! ### The rating unit and the funds unit -/

theorem State.StatusStays.take : s.StatusStays t.take := by
  unfold State.take
  split
  case h_1 q rest idle queue =>
    dsimp only
    split
    · exact h.view rfl rfl
    · have rating := State.StatusStays.onEntry (h.view (u := { t with takeQueue := rest }) rfl rfl) q.lane q.seq
        (fun e => { e with stage := .rating })
      exact rating.view rfl rfl
  case h_2 => exact h

theorem State.StatusStays.placeHold (request : Hold) : s.StatusStays (t.placeHold request) := by
  have held := (h.touchFunds (t.holds ++ [request])).onEntry request.lane request.seq
    (fun e => { e with stage := .held, held := some request.amount })
  unfold State.placeHold
  dsimp only
  split
  · exact held.raise _
  · exact held

theorem State.StatusStays.refuseHold (request : Hold) (cause : DivertCause) : s.StatusStays (t.refuseHold request cause) := by
  unfold State.refuseHold
  dsimp only
  split
  · exact (h.onEntry ..).raise _
  · exact h.onEntry ..

theorem State.StatusStays.takeRequest : s.StatusStays t.takeRequest := by
  rcases t.takeRequest_cases with same | ⟨request, rest, -, void | refused | ⟨-, -, placed⟩⟩
  · rwa [same]
  · rw [void]
    exact h.view rfl rfl
  · obtain ⟨cause, refused⟩ := refused
    rw [refused]
    exact (h.view (u := { t with requests := rest }) rfl rfl).refuseHold request cause
  · rw [placed]
    exact (h.view (u := { t with requests := rest }) rfl rfl).placeHold request

theorem State.StatusStays.keepPriced (record : RatingRecord) (e : TrackEntry) (tableId postage format zone weight : Nat)
    (result : RatingResult) : s.StatusStays (t.keepPriced record e tableId postage format zone weight result) := by
  unfold State.keepPriced
  dsimp only
  refine State.StatusStays.view (State.StatusStays.onTracker (State.StatusStays.onEntry (h.writeResults record.lane e _ ?_) ..)
    record.lane (f := fun t => t.stickyOverflow result.flags.overflow) (by intro _; rfl)) rfl rfl
  intro index f listed
  rcases List.mem_append.mp listed with listed | listed
  · rcases List.mem_append.mp listed with listed | listed
    · exact tableFields_above listed
    · simp only [pricedFields, List.mem_cons, List.not_mem_nil, or_false] at listed
      rcases listed with rfl | rfl | rfl | rfl <;> exact slotField_above ..
  · rcases List.mem_singleton.mp listed with rfl
    exact slotField_above ..

theorem State.StatusStays.keepRefused (record : RatingRecord) (e : TrackEntry) (tableId : Nat) (cause : DivertCause)
    (result : RatingResult) : s.StatusStays (t.keepRefused record e tableId cause result) := by
  unfold State.keepRefused
  dsimp only
  refine State.StatusStays.onTracker (State.StatusStays.onEntry (h.writeResults record.lane e _ ?_) ..) record.lane
    (f := fun t => t.stickyOverflow result.flags.overflow) (by intro _; rfl)
  intro index f listed
  rcases List.mem_append.mp listed with listed | listed
  · exact tableFields_above listed
  · rcases List.mem_singleton.mp listed with rfl
    exact slotField_above ..

theorem State.StatusStays.ratingCompletion : s.StatusStays t.ratingCompletion := by
  rcases t.ratingCompletion_cases with same | ⟨record, ended | ⟨e, ended | ended⟩⟩
  · rwa [same]
  · rw [ended]
    exact h.view rfl rfl
  · obtain ⟨postage, format, zone, weight, ended⟩ := ended
    rw [ended]
    exact (h.view (u := t.endRating record) rfl rfl).keepPriced ..
  · obtain ⟨cause, ended⟩ := ended
    rw [ended]
    exact (h.view (u := t.endRating record) rfl rfl).keepRefused ..

end

end Sys2Proof.Machine
end

section
/-! SUPPORT. Every event that asks for no whole update leaves the status block, but for groups that wait to be rewritten. -/

namespace Sys2Proof.Machine

/-- A plan that asks for no update leaves the status block. -/
def Plan.StaysShown (s : State) : Plan → Prop
  | .done t => s.StatusStays t
  | .update .. => True

section
variable {s : State}

theorem State.answerWith_staysShown (status : Status) : (s.answerWith status).StaysShown s :=
  State.StatusStays.complete (.refl s) status

theorem State.statusStays_inspect (s : State) : s.StatusStays s.inspect := by
  rw [State.inspect_eq]
  exact .of_view rfl rfl

theorem State.statusStays_setCalendar (s : State) (day minute second : Nat) : s.StatusStays (s.setCalendar day minute second) :=
  State.StatusStays.trans (State.StatusStays.touchCalendar (.refl s) _) (State.statusStays_inspect _)

/-! ### The belt and the links -/

theorem State.sensorPlan_staysShown {lane : Lane} {photocell : Position} {edge : Edge} {tracked : State → Plan}
    (h : (tracked s).StaysShown s) : (s.sensorPlan lane photocell edge tracked).StaysShown s := by
  unfold State.sensorPlan
  dsimp only
  split
  · exact .refl s
  · split
    · exact h
    · exact State.StatusStays.stray (.refl s) lane

theorem State.printPhotocell_staysShown (lane : Lane) : (s.printPhotocell lane).StaysShown s := by
  have here := State.StatusStays.refl s
  unfold State.printPhotocell
  split
  · exact here.stray lane
  · split
    · unfold State.dispatchPlan
      split
      · exact (here.touchFunds _).onEntry ..
      · split
        · exact here.onEntry ..
        · trivial
    · exact (here.takeQueue _).onEntry ..
    · exact here.onEntry ..
    · exact here.onEntry ..

theorem State.statusStays_setLink (s : State) (lane : Lane) (k : Link) : s.StatusStays (s.setLink lane k) := .of_view rfl rfl

theorem State.settlePlan_staysShown (lane : Lane) (result : PrintResult) (expired : Bool) {t : State} (h : s.StatusStays t) :
    (t.settlePlan lane result expired).StaysShown s := by
  unfold State.settlePlan
  split
  · exact h
  · trivial

theorem State.answerPlan_staysShown (lane : Lane) (frame : BitVec 48) : (s.answerPlan lane frame).StaysShown s := by
  unfold State.answerPlan
  dsimp only
  split
  · split
    · exact s.statusStays_setLink lane _
    · split
      · exact s.statusStays_setLink lane _
      · split
        · exact State.settlePlan_staysShown _ _ _ (.refl s)
        · split
          · exact State.settlePlan_staysShown _ _ _ (s.statusStays_setLink lane _)
          · exact s.statusStays_setLink lane _
  · exact .refl s

theorem State.expiryPlan_staysShown (lane : Lane) : (s.expiryPlan lane).StaysShown s := by
  unfold State.expiryPlan
  dsimp only
  split
  · exact .refl s
  · split
    · exact State.settlePlan_staysShown _ _ _ (.refl s)
    · exact s.statusStays_setLink lane _
    · exact .refl s

theorem State.linkPlan_staysShown {lane : Lane} {plan : State → Plan} (h : (plan s).StaysShown s) :
    (s.linkPlan lane plan).StaysShown s := by
  unfold State.linkPlan
  split
  · exact h
  · exact .refl s

theorem State.statusStays_frameSent (lane : Lane) : s.StatusStays (s.frameSent lane) := by
  unfold State.frameSent
  dsimp only
  split
  · exact s.statusStays_setLink lane _
  · exact .refl s

theorem State.statusStays_answerReady (lane : Lane) : s.StatusStays (s.answerReady lane) := by
  unfold State.answerReady
  dsimp only
  split
  · exact s.statusStays_setLink lane _
  · split
    · exact s.statusStays_setLink lane _
    · exact .refl s
  · exact .refl s

/-! ### The commands -/

theorem setDatePlan_staysShown (day minute second : Nat) : (setDatePlan day minute second s).StaysShown s := by
  unfold setDatePlan
  split
  · exact s.answerWith_staysShown _
  · split
    · trivial
    · exact (s.statusStays_setCalendar ..).complete _

theorem configureLanePlan_staysShown (x : LaneArguments) : (configureLanePlan x s).StaysShown s := by
  unfold configureLanePlan
  split
  · exact s.answerWith_staysShown _
  case h_2 lane named =>
    split
    · exact s.answerWith_staysShown _
    · split
      · exact State.StatusStays.complete (State.StatusStays.onTracker (.refl s) lane (by intro _; rfl)) _
      · exact s.answerWith_staysShown _

theorem loadRatesPlan_staysShown : (loadRatesPlan s).StaysShown s := by
  unfold loadRatesPlan
  split
  · exact (State.StatusStays.writeLoadReport (.refl s) _).complete _
  · exact .of_view rfl rfl

theorem openBatchPlan_staysShown (code : Byte) (id : Nat) : (openBatchPlan code id s).StaysShown s := by
  unfold openBatchPlan
  split
  · exact s.answerWith_staysShown _
  case h_2 lane named =>
    split
    · exact State.StatusStays.complete (State.StatusStays.onTracker (.refl s) lane (by intro _; rfl)) _
    · exact s.answerWith_staysShown _

theorem closeBatchPlan_staysShown (code : Byte) : (closeBatchPlan code s).StaysShown s := by
  unfold closeBatchPlan
  split
  · exact s.answerWith_staysShown _
  case h_2 lane named =>
    split
    · refine State.StatusStays.complete (State.StatusStays.endBatch ?_ lane) _
      exact State.StatusStays.onTracker (.refl s) lane (by intro _; rfl)
    · exact s.answerWith_staysShown _

theorem resumeLanePlan_staysShown (code : Byte) : (resumeLanePlan code s).StaysShown s := by
  unfold resumeLanePlan
  split
  · exact s.answerWith_staysShown _
  case h_2 lane named =>
    split
    · refine State.StatusStays.complete ?_ _
      rw [← State.touchLane_onLink]
      exact (State.StatusStays.onTracker_touched (.refl s) lane _).onLink lane _
    · exact s.answerWith_staysShown _

theorem setPostdatePlan_staysShown (offset : Nat) : (setPostdatePlan offset s).StaysShown s := by
  unfold setPostdatePlan
  split
  · exact s.answerWith_staysShown _
  · have set : s.StatusStays { s with calendar := { s.calendar with postdate := offset } } := by
      refine ⟨fun g clean => ⟨clean, ?_⟩, ⟨rfl, rfl, rfl⟩, id, fun _ _ => rfl⟩
      cases g with
      | lane l => cases l <;> rfl
      | _ => rfl
    exact set.complete _

theorem parkPlan_staysShown : (parkPlan s).StaysShown s := by
  unfold parkPlan
  split
  · exact .refl s
  · exact s.answerWith_staysShown _
  case h_3 started _ =>
    split
    · exact State.StatusStays.afterPark (.refl s) started
    · trivial

theorem commandWork_staysShown {i : Instr} (taken : takenInPart i s.part = true) : (commandWork i s).StaysShown s := by
  cases i with
  | unknownCommand code => exact s.answerWith_staysShown _
  | setDate day minute second pace => exact setDatePlan_staysShown ..
  | configureLane x => exact configureLanePlan_staysShown x
  | closeSetup =>
    have setup : s.part = .setup := eq_of_beq (show (s.part == .setup) = true from taken)
    have started : (s.complete .done).part ≠ .start := by
      rw [show (s.complete .done).part = .setup from setup]
      decide
    exact (State.StatusStays.complete (.refl s) _).setPart started .operating
  | installLicence x pace =>
    show (installLicencePlan x s).StaysShown s
    unfold installLicencePlan
    split
    · exact s.answerWith_staysShown _
    · trivial
  | loadRates => exact loadRatesPlan_staysShown
  | applyVoucher x pace =>
    show (applyVoucherPlan x s).StaysShown s
    unfold applyVoucherPlan
    split
    · exact s.answerWith_staysShown _
    · split
      · exact s.answerWith_staysShown _
      · split
        · exact s.answerWith_staysShown _
        · trivial
  | setAccount account state pace =>
    show (setAccountPlan account state s).StaysShown s
    unfold setAccountPlan
    split
    · trivial
    · exact s.answerWith_staysShown _
  | setFundsAlert threshold pace =>
    show (setFundsAlertPlan threshold.toNat s).StaysShown s
    unfold setFundsAlertPlan
    split
    · trivial
    · exact s.answerWith_staysShown _
  | reportFunds =>
    refine State.StatusStays.complete (State.StatusStays.writeFields (.refl s) fun f listed => ?_) _
    exact le_trans (by decide) (fundsReport_within listed).1
  | readAccounts =>
    exact State.StatusStays.complete (State.StatusStays.writeFields (.refl s) (accountsReport_above s .read)) _
  | openBatch lane id => exact openBatchPlan_staysShown ..
  | closeBatch lane => exact closeBatchPlan_staysShown lane
  | resumeLane lane => exact resumeLanePlan_staysShown lane
  | setPostdate offset => exact setPostdatePlan_staysShown _
  | closePeriod pace => trivial
  | claimSpoiled limit pace => trivial
  | park pace => exact parkPlan_staysShown
  | _ => exact State.StatusStays.refl s

theorem commandPlan_staysShown (i : Instr) : (commandPlan i s).StaysShown s := by
  unfold commandPlan
  split
  case isTrue taken => exact commandWork_staysShown taken
  case isFalse => exact s.answerWith_staysShown _

theorem loadRatesCompletionPlan_staysShown : (loadRatesCompletionPlan s).StaysShown s := by
  have ended : s.StatusStays { s with load := none } := .of_view rfl rfl
  unfold loadRatesCompletionPlan
  split
  · exact .refl s
  · split
    · exact (ended.writeLoadReport _).complete _
    · split
      · exact (ended.writeLoadReport _).complete _
      · trivial

/-! ### Every event that may be held -/

theorem eventPlan_staysShown (i : Instr) : (eventPlan i s).StaysShown s := by
  have here := State.StatusStays.refl s
  cases i with
  | entry lane edge => exact State.sensorPlan_staysShown (tracked := fun s => .done (s.enter lane)) (here.enter lane)
  | rate lane edge => exact State.sensorPlan_staysShown (tracked := fun s => .done (s.ratePhotocell lane)) (here.ratePhotocell lane)
  | print lane edge pace => exact State.sensorPlan_staysShown (tracked := fun s => s.printPhotocell lane) (State.printPhotocell_staysShown lane)
  | exit lane edge => exact State.sensorPlan_staysShown (tracked := fun s => .done (s.exitPhotocell lane)) (here.exitPhotocell lane)
  | encoderCount lane => exact here.encoderCount lane
  | run lane value => exact here.runWrite lane value
  | loadRatesCompletion pace => exact loadRatesCompletionPlan_staysShown
  | take => exact here.take
  | ratingCompletion => exact here.ratingCompletion
  | holdRequest => exact here.takeRequest
  | frameSent lane =>
    exact State.linkPlan_staysShown (plan := fun s => .done (s.frameSent lane)) (State.statusStays_frameSent lane)
  | answerReady lane =>
    exact State.linkPlan_staysShown (plan := fun s => .done (s.answerReady lane)) (State.statusStays_answerReady lane)
  | answer lane frame pace =>
    exact State.linkPlan_staysShown (plan := fun s => s.answerPlan lane frame) (State.answerPlan_staysShown lane frame)
  | answerTimerExpiry lane pace =>
    exact State.linkPlan_staysShown (plan := fun s => s.expiryPlan lane) (State.expiryPlan_staysShown lane)
  | _ => exact commandPlan_staysShown _

theorem HeldEvent.plan_staysShown (e : HeldEvent) : (e.plan s).StaysShown s := by
  cases e with
  | switchCheck =>
    show s.switchPlan.StaysShown s
    unfold State.switchPlan
    split
    · trivial
    · exact .refl s
  | event i => exact eventPlan_staysShown i

end

end Sys2Proof.Machine
end

section
/-! SUPPORT. O6: outside START, with the main supply on, each field of the status block shows the state or its group waits to be
rewritten, and the rewrite at a step's end shows the rest (R4, R5, R7). -/

namespace Sys2Proof.Machine

/-! ### Where the groups lie (11.4) -/

/-- The bytes of the status block in which a group lies. -/
def StatusGroup.range : StatusGroup → Nat × Nat
  | .part => (0x02, 0x04)
  | .calendar => (0x04, 0x09)
  | .banks => (0x09, 0x16)
  | .spoiled => (0x16, 0x18)
  | .funds => (0x18, 0x2E)
  | .lane .a => (0x30, 0x42)
  | .lane .b => (0x42, 0x54)

/-- The fields that a rewrite of a group writes. -/
def StatusGroup.written (s : State) : StatusGroup → List Field
  | .part => partFields s
  | .calendar => calendarFields s
  | .banks => banksFields s
  | .spoiled => spoiledFields s
  | .funds => fundsFields s
  | .lane .a => laneFields 0x30 s.lanes.a
  | .lane .b => laneFields 0x42 s.lanes.b

theorem StatusGroup.laidOut_written (s : State) (g : StatusGroup) : LaidOut g.range.1 g.range.2 (g.written s) := by
  cases g with
  | part => exact laidOut_partFields s
  | calendar => exact laidOut_calendarFields s
  | banks => exact laidOut_banksFields s
  | spoiled => exact laidOut_spoiledFields s
  | funds =>
    show LaidOut 0x18 0x2E (fundsFields s)
    simp [fundsFields, LaidOut]
  | lane l => cases l <;> exact laidOut_laneFields _ _

theorem StatusGroup.written_of_fields {s : State} {g : StatusGroup} {f : Field} (hf : f ∈ g.fields s) : f ∈ g.written s := by
  cases g with
  | lane l =>
    cases l with
    | a => exact hf
    | b =>
      simp only [StatusGroup.fields] at hf
      split at hf
      · exact hf
      · cases hf
  | _ => exact hf

theorem StatusGroup.within {s : State} {g : StatusGroup} {f : Field} (hf : f ∈ g.written s) :
    g.range.1 ≤ f.address ∧ f.address + f.width ≤ g.range.2 := (g.laidOut_written s).within hf

theorem StatusGroup.range_bounds (g : StatusGroup) : 0x02 ≤ g.range.1 ∧ g.range.2 ≤ 0x54 := by
  cases g with
  | lane l => cases l <;> decide
  | _ => decide

/-- Two groups lie apart. -/
theorem StatusGroup.range_apart {g g' : StatusGroup} (other : g ≠ g') : g.range.2 ≤ g'.range.1 ∨ g'.range.2 ≤ g.range.1 := by
  rcases g with - | - | - | - | - | ⟨- | -⟩ <;> rcases g' with - | - | - | - | - | ⟨- | -⟩ <;>
    first | exact absurd rfl other | decide

theorem mem_statusFields {s : State} {f : Field} :
    f ∈ statusFields s ↔ f = ⟨0x00, 2, s.generation⟩ ∨ ∃ g : StatusGroup, f ∈ g.fields s := by
  simp only [statusFields, List.cons_append, List.mem_cons, List.mem_append]
  constructor
  · rintro (word | ((((((part | calendar) | banks) | spoiled) | funds) | a) | b))
    · exact .inl word
    · exact .inr ⟨.part, part⟩
    · exact .inr ⟨.calendar, calendar⟩
    · exact .inr ⟨.banks, banks⟩
    · exact .inr ⟨.spoiled, spoiled⟩
    · exact .inr ⟨.funds, funds⟩
    · exact .inr ⟨.lane .a, a⟩
    · exact .inr ⟨.lane .b, b⟩
  · rintro (word | ⟨g, hf⟩)
    · exact .inl word
    · refine .inr ?_
      cases g with
      | part => exact .inl (.inl (.inl (.inl (.inl (.inl hf)))))
      | calendar => exact .inl (.inl (.inl (.inl (.inl (.inr hf)))))
      | banks => exact .inl (.inl (.inl (.inl (.inr hf))))
      | spoiled => exact .inl (.inl (.inl (.inr hf)))
      | funds => exact .inl (.inl (.inr hf))
      | lane l =>
        cases l with
        | a => exact .inl (.inr hf)
        | b => exact .inr hf

theorem mem_dirtyFields {s : State} {f : Field} : f ∈ dirtyFields s ↔ ∃ g : StatusGroup, g.dirty s.dirty = true ∧ f ∈ g.written s := by
  simp only [dirtyFields, List.mem_append, List.mem_ite_nil_right]
  constructor
  · rintro ((((((part | calendar) | banks) | spoiled) | funds) | a) | b)
    · exact ⟨.part, part⟩
    · exact ⟨.calendar, calendar⟩
    · exact ⟨.banks, banks⟩
    · exact ⟨.spoiled, spoiled⟩
    · exact ⟨.funds, funds⟩
    · exact ⟨.lane .a, a⟩
    · exact ⟨.lane .b, b⟩
  · rintro ⟨g, hf⟩
    cases g with
    | part => exact .inl (.inl (.inl (.inl (.inl (.inl hf)))))
    | calendar => exact .inl (.inl (.inl (.inl (.inl (.inr hf)))))
    | banks => exact .inl (.inl (.inl (.inl (.inr hf))))
    | spoiled => exact .inl (.inl (.inl (.inr hf)))
    | funds => exact .inl (.inl (.inr hf))
    | lane l =>
      cases l with
      | a => exact .inl (.inr hf)
      | b => exact .inr hf

/-! ### Shown, or waiting to be rewritten -/

/-- The generation word reads as the state has it, and so does every field of a group that does not wait. -/
structure State.ShownOrWaits (s : State) : Prop where
  generation : s.readField 0x00 2 = s.generation % 256 ^ 2
  groups : ∀ g : StatusGroup, g.dirty s.dirty = false → ∀ f ∈ g.fields s, s.Shows f

theorem State.StatusStays.readField {s t : State} (h : s.StatusStays t) {a width : Nat} (low : a + width ≤ 0x0100) :
    t.readField a width = s.readField a width :=
  readField_congr a width h.frame.2.1 fun k hk => h.low _ (by omega)

theorem State.ShownOrWaits.of_groups {s t : State} (h : s.ShownOrWaits) (groups : ∀ g : StatusGroup, g.Stays s t)
    (generation : t.generation = s.generation) (low : ∀ a width, a + width ≤ 0x0100 → t.readField a width = s.readField a width) :
    t.ShownOrWaits := by
  refine ⟨?_, fun g clean f hf => ?_⟩
  · rw [low _ _ (by decide), generation, h.generation]
  · obtain ⟨was, same⟩ := groups g clean
    rw [same] at hf
    have inside := StatusGroup.within (StatusGroup.written_of_fields hf)
    have bound := g.range_bounds
    rw [State.Shows, low _ _ (by omega)]
    exact h.groups g was f hf

theorem State.ShownOrWaits.stays {s t : State} (h : s.ShownOrWaits) (stays : s.StatusStays t) : t.ShownOrWaits :=
  h.of_groups stays.groups stays.frame.2.2 fun _ _ low => stays.readField low

/-! ### The rewrite at a step's end -/

theorem StatusGroup.fields_flush (s : State) (g : StatusGroup) : g.fields s.flush = g.fields s := by
  rw [flush_eq]
  cases g with
  | lane l => cases l <;> rfl
  | _ => rfl

theorem State.ShownOrWaits.flush {s : State} (h : s.ShownOrWaits) (started : s.part ≠ .start) :
    ∀ f ∈ statusFields s.flush, s.flush.Shows f := by
  intro f hf
  by_cases changed : s.dirty = Groups.none
  · rw [flush_clean changed] at hf ⊢
    rcases mem_statusFields.mp hf with rfl | ⟨g, hf⟩
    · exact h.generation
    · refine h.groups g ?_ f hf
      rw [changed]
      cases g with
      | lane l => cases l <;> rfl
      | _ => rfl
  · have mem := flush_mem changed started
    have reads (a width : Nat) := readField_of_mem (s := s.writeFields (dirtyFields s ++ [⟨0x00, 2, nextGeneration (nextGeneration s.generation)⟩]))
      (t := s.flush) mem (by simp) (by simp) a width
    rcases mem_statusFields.mp hf with rfl | ⟨g, hf⟩
    · have word : s.flush.generation = nextGeneration (nextGeneration s.generation) := by simp [State.flush, changed, started]
      rw [word]
      exact (reads _ _).trans (readField_writeFields s (dirtyFields s) [] ⟨0x00, 2, _⟩ (by simp))
    · rw [StatusGroup.fields_flush] at hf
      by_cases waits : g.dirty s.dirty = true
      · exact readField_flush started (mem_dirtyFields.mpr ⟨g, waits, StatusGroup.written_of_fields hf⟩)
      · have clean : g.dirty s.dirty = false := by simpa using waits
        have inside := StatusGroup.within (StatusGroup.written_of_fields hf)
        have bound := g.range_bounds
        refine ((reads _ _).trans ((unchangedOutside_writeFields s _).readField rfl fun r hr => ?_)).trans (h.groups g clean f hf)
        obtain ⟨f', hf', rfl⟩ := List.mem_map.mp hr
        rcases List.mem_append.mp hf' with hf' | hf'
        · obtain ⟨g', waits', hf'⟩ := mem_dirtyFields.mp hf'
          have apart := StatusGroup.range_apart (g := g) (g' := g') (by rintro rfl; exact waits waits')
          have inside' := StatusGroup.within hf'
          dsimp only
          omega
        · rw [List.mem_singleton.mp hf']
          dsimp only
          omega

/-! ### START's first complete write (R7) -/

/-- The groups below and above the bytes 0x2E and 0x2F, in the order of the block. -/
theorem laidOut_wholeGroups (s : State) :
    LaidOut 0x02 0x2E (partFields s ++ calendarFields s ++ banksFields s ++ spoiledFields s ++ fundsFields s)
      ∧ LaidOut 0x30 0x54 (laneFields 0x30 s.lanes.a ++ laneFields 0x42 s.lanes.b) :=
  ⟨(((StatusGroup.part.laidOut_written s).append (StatusGroup.calendar.laidOut_written s)).append
      (StatusGroup.banks.laidOut_written s)).append (StatusGroup.spoiled.laidOut_written s)
      |>.append (StatusGroup.funds.laidOut_written s),
    (laidOut_laneFields 0x30 _).append (laidOut_laneFields 0x42 _)⟩

/-- The fields of every group, as START's first complete write writes them. -/
def wholeGroups (s : State) : List Field :=
  (partFields s ++ calendarFields s ++ banksFields s ++ spoiledFields s ++ fundsFields s)
    ++ (laneFields 0x30 s.lanes.a ++ laneFields 0x42 s.lanes.b)

theorem StatusGroup.written_mem_wholeGroups {s : State} {g : StatusGroup} {f : Field} (hf : f ∈ g.written s) :
    f ∈ wholeGroups s := by
  simp only [wholeGroups, List.mem_append]
  cases g with
  | part => exact .inl (.inl (.inl (.inl (.inl hf))))
  | calendar => exact .inl (.inl (.inl (.inl (.inr hf))))
  | banks => exact .inl (.inl (.inl (.inr hf)))
  | spoiled => exact .inl (.inl (.inr hf))
  | funds => exact .inl (.inr hf)
  | lane l =>
    cases l with
    | a => exact .inr (.inl hf)
    | b => exact .inr (.inr hf)

/-- START's first complete write: 0 in the bytes chapter 11 does not name, every group, and the generation word. -/
theorem writeWholeStatus_eq (s : State) :
    s.writeWholeStatus =
      { s.writeFields (([⟨0x2E, 2, 0⟩, ⟨0x54, 172, 0⟩] ++ wholeGroups s) ++ [⟨0x00, 2, 2⟩]) with
        generation := 2, dirty := Groups.none } := by
  simp only [State.writeWholeStatus, wholeGroups, List.append_assoc]

theorem wholeStatus_apart (s : State) :
    (([⟨0x2E, 2, 0⟩, ⟨0x54, 172, 0⟩] ++ wholeGroups s) ++ [⟨0x00, 2, 2⟩] : List Field).Pairwise Field.Apart := by
  obtain ⟨below, above⟩ := laidOut_wholeGroups s
  have inside {f : Field} (hf : f ∈ wholeGroups s) :
      0x02 ≤ f.address ∧ (f.address + f.width ≤ 0x2E ∨ 0x30 ≤ f.address ∧ f.address + f.width ≤ 0x54) := by
    rcases List.mem_append.mp hf with hf | hf
    · exact ⟨(below.within hf).1, .inl (below.within hf).2⟩
    · have := above.within hf
      omega
  have groups : (wholeGroups s).Pairwise Field.Apart := by
    refine List.pairwise_append.mpr ⟨below.apart, above.apart, fun f hf g hg => .inl ?_⟩
    exact (below.within hf).2.trans (le_trans (by decide) (above.within hg).1)
  refine List.pairwise_append.mpr ⟨List.pairwise_append.mpr ⟨by simp [Field.Apart], groups, fun f hf g hg => ?_⟩,
    List.pairwise_singleton _ _, fun f hf g hg => ?_⟩
  · have := inside hg
    simp only [List.mem_cons, List.not_mem_nil, or_false] at hf
    rcases hf with rfl | rfl <;> simp only [Field.Apart] <;> omega
  · rw [List.mem_singleton.mp hg]
    refine .inr ?_
    rcases List.mem_append.mp hf with hf | hf
    · simp only [List.mem_cons, List.not_mem_nil, or_false] at hf
      rcases hf with rfl | rfl <;> decide
    · exact (inside hf).1

theorem readField_marked (s : State) (generation : Nat) (dirty : Groups) (a width : Nat) :
    State.readField { s with generation := generation, dirty := dirty } a width = s.readField a width :=
  readField_of_mem (s := s) (t := { s with generation := generation, dirty := dirty }) rfl rfl rfl a width

theorem writeWholeStatus_shows (s : State) : s.writeWholeStatus.ShownOrWaits := by
  rw [writeWholeStatus_eq]
  have shown {f : Field} (hf : f ∈ ([⟨0x2E, 2, 0⟩, ⟨0x54, 172, 0⟩] ++ wholeGroups s) ++ [⟨0x00, 2, 2⟩]) :=
    readField_writeFields_of_mem s (wholeStatus_apart s) hf
  refine ⟨?_, fun g _ f hf => ?_⟩
  · exact (readField_marked _ _ _ _ _).trans (shown (f := ⟨0x00, 2, 2⟩) (by simp))
  · have written : f ∈ g.written s := by
      refine StatusGroup.written_of_fields ?_
      cases g with
      | lane l => cases l <;> exact hf
      | _ => exact hf
    have listed := List.mem_append_left [⟨0x00, 2, 2⟩] (List.mem_append_right [⟨0x2E, 2, 0⟩, ⟨0x54, 172, 0⟩]
      (StatusGroup.written_mem_wholeGroups written))
    exact (readField_marked _ _ _ _ _).trans (shown listed)

theorem State.endStart_shows (s : State) : s.endStart.ShownOrWaits := by
  have whole := writeWholeStatus_shows s
  unfold State.endStart
  generalize s.writeWholeStatus = t at whole
  have setPart {u : State} (h : u.ShownOrWaits) (part : PartState) : (u.setPart part).ShownOrWaits :=
    h.of_groups (StatusGroup.stays_setPart u part) rfl fun _ _ _ => readField_of_mem (s := u) (t := u.setPart part) rfl rfl rfl _ _
  dsimp only
  split
  · exact setPart (whole.stays (State.StatusStays.complete (.refl t) _)) _
  · exact setPart whole _

end Sys2Proof.Machine
end

section
/-! SUPPORT. O6: what an update in its steps rests on, and the status block through every step (R4, R5, R7, R133). -/

namespace Sys2Proof.Machine

/-! ### An update in its steps changes no shown item but those its rest rewrites -/

section
variable {s : State}

theorem State.Asks.isShown {work : Work} {values : Items} (asks : s.Asks work values) : s.UpdateIsShown work values := by
  cases work with
  | debit lane hold serial day =>
    obtain ⟨-, -, -, -, -, -, rfl⟩ := asks
    exact ⟨nofun, fun _ => rfl, fun _ => rfl, nofun, nofun, nofun⟩
  | settle lane result expired =>
    obtain ⟨imprint, outstanding, rfl⟩ := asks
    refine ⟨fun _ => ⟨rfl, rfl, rfl⟩, fun _ => rfl, fun printed => ?_, nofun, nofun, ?_⟩
    · have printed : result = .printed := by simpa [Work.rewrites] using printed
      rw [Items.settle, if_pos printed]
    · rintro _ _ _ ⟨⟩
      rw [outstanding]
      nofun
  | park =>
    obtain ⟨started, -, rfl⟩ := asks
    exact ⟨nofun, fun _ => rfl, nofun, nofun, fun _ => started, nofun⟩
  | claim removed =>
    obtain ⟨claimed, rfl, rfl⟩ := asks
    refine ⟨fun _ => ⟨rfl, rfl, rfl⟩, fun _ => rfl, fun none => ?_, nofun, nofun, nofun⟩
    have none : claimed = [] := by simpa [Work.rewrites] using none
    simp [Items.claim, none]
  | credit =>
    obtain ⟨amount, serial, day, rfl⟩ := asks
    exact ⟨nofun, fun _ => rfl, fun _ => rfl, nofun, nofun, nofun⟩
  | install =>
    obtain ⟨locked, licence, day, rfl⟩ := asks
    exact ⟨nofun, fun _ => rfl, nofun, nofun, fun _ => by rw [locked]; decide, nofun⟩
  | setAccount =>
    obtain ⟨account, isOpen, rfl⟩ := asks
    exact ⟨fun _ => ⟨rfl, rfl, rfl⟩, fun _ => rfl, fun _ => rfl, nofun, nofun, nofun⟩
  | setAlert before =>
    obtain ⟨-, alert, rfl⟩ := asks
    exact ⟨fun _ => ⟨rfl, rfl, rfl⟩, fun _ => rfl, fun _ => rfl, nofun, nofun, nofun⟩
  | closePeriod =>
    cases asks
    exact ⟨fun _ => ⟨rfl, rfl, rfl⟩, fun _ => rfl, fun _ => rfl, nofun, nofun, nofun⟩
  | commit active =>
    obtain ⟨bank, rfl⟩ := asks
    unfold Items.commitBank
    dsimp only
    split <;> exact ⟨fun _ => ⟨rfl, rfl, rfl⟩, nofun, fun _ => rfl, nofun, nofun, nofun⟩
  | bankSwitch =>
    obtain ⟨-, rfl⟩ := asks
    exact ⟨fun _ => ⟨rfl, rfl, rfl⟩, nofun, fun _ => rfl, nofun, nofun, nofun⟩
  | setDate day minute second =>
    cases asks
    exact ⟨fun _ => ⟨rfl, rfl, rfl⟩, nofun, fun _ => rfl, nofun, nofun, nofun⟩
  | startClear => cases asks
  | startConversion stop => cases asks
  | startSwitch => cases asks

/-- What an update rests on is the same after an event's writes up to it. -/
theorem State.UpdateIsShown.upToUpdate {t : State} {work : Work} {values : Items} (h : s.UpdateIsShown work values)
    (upTo : s.UpToUpdate t) (phase : Phase) : (t.beginUpdate work values phase).UpdateIsShown work values := by
  have items : (t.beginUpdate work values phase).items = s.items := (State.items_of_store upTo.store : t.items = s.items)
  have part : (t.beginUpdate work values phase).part = s.part := upTo.part
  have outstanding (lane : Lane) : ((t.beginUpdate work values phase).link lane).outstanding = (s.link lane).outstanding :=
    upTo.outstanding lane
  unfold State.UpdateIsShown
  simp only [items, part, outstanding]
  exact h

/-- An event without an update leaves what an update in its steps rests on. -/
theorem State.UpdateIsShown.leaves {t : State} {work : Work} {values : Items} (h : s.UpdateIsShown work values)
    (store : t.store = s.store) (busy : s.inStore = some work) (leaves : s.ImprintsStay t ∨ s.ParkedAtOnce t) :
    t.UpdateIsShown work values := by
  obtain ⟨funds, banks, spoiled, start, outside, unsettled⟩ := h
  rw [← State.items_of_store store] at funds banks spoiled
  refine ⟨funds, banks, spoiled, ?_⟩
  rcases leaves with stay | ⟨-, part, -, started, settles⟩
  · refine ⟨fun ofStart => ?_, fun kind => ?_, fun lane result expired settles => ?_⟩
    · rcases stay.part with same | ⟨setup, -⟩
      · exact same.trans (start ofStart)
      · rw [start ofStart] at setup
        cases setup
    · rcases stay.part with same | ⟨-, operating⟩
      · rw [same]
        exact outside kind
      · rw [operating]
        decide
    · rw [stay.outstanding]
      exact unsettled lane result expired settles
  · refine ⟨fun ofStart => absurd (start ofStart) started, fun _ => by rw [part]; decide, fun lane result expired settle => ?_⟩
    exact absurd (busy.trans (congrArg some settle)) (settles lane result expired)

end

/-- The status block shows the state but for groups that wait, and so it will with an update in its steps. -/
structure State.LawfulStatusUnwritten (s : State) : Prop where
  shown : s.supply = true → s.part ≠ .start → s.ShownOrWaits
  soon : ∀ phase values work, s.store.record = .inSteps phase values → s.inStore = some work → s.UpdateIsShown work values.items

section
variable {s : State} (h : s.LawfulStatusUnwritten)
include h

theorem State.LawfulStatusUnwritten.stays {t : State} (stays : s.StatusStays t) (store : t.store = s.store)
    (inStore : t.inStore = s.inStore) (leaves : s.ImprintsStay t ∨ s.ParkedAtOnce t) : t.LawfulStatusUnwritten := by
  refine ⟨fun supply started => ?_, fun phase values work record busy => ?_⟩
  · exact (h.shown (stays.frame.1 ▸ supply) (stays.started started)).stays stays
  · rw [inStore] at busy
    exact (h.soon phase values work (store ▸ record) busy).leaves store busy leaves

theorem State.LawfulStatusUnwritten.begun {work : Work} {values : Items} {t : State} (asks : s.Asks work values)
    (upTo : s.UpToUpdate t) (frame : t.supply = s.supply ∧ t.order = s.order ∧ t.resetCause = s.resetCause ∧ t.laneCount = s.laneCount)
    (phase : Phase) : (t.beginUpdate work values phase).LawfulStatusUnwritten := by
  obtain ⟨supply, order, cause, count⟩ := frame
  refine ⟨fun on started => ?_, fun other given work' record busy => ?_⟩
  · have view : t.statusView = s.statusView := by
      simp only [State.statusView, upTo.dirty, cause, upTo.part, upTo.calendar, upTo.store, upTo.holds, upTo.lanes, count]
    have shown := h.shown (supply ▸ on) (upTo.part ▸ started)
    refine shown.of_groups (fun g clean => ?_) upTo.generation fun a width low => ?_
    · obtain ⟨dirty, fields⟩ := StatusGroup.of_view (t := t.beginUpdate work values phase) view g
      exact ⟨dirty ▸ clean, fields⟩
    · exact readField_congr (t := t.beginUpdate work values phase) a width order fun k hk => upTo.low _ (by omega)
  · cases record
    cases busy
    exact asks.isShown.upToUpdate upTo phase

theorem State.LawfulStatusUnwritten.plan (e : HeldEvent) (may : s.mustWait e (e.plan s).asks = false) :
    (e.plan s).Keeps State.LawfulStatusUnwritten := by
  have stays := e.plan_staysShown (s := s)
  have moves := e.plan_moves may
  have leaves := e.plan_leaves may
  have asked := e.plan_asked s
  have outside := e.plan_sameOutside s
  cases plan : e.plan s with
  | done t =>
    rw [plan] at stays moves leaves
    exact h.stays stays moves.store moves.inStore leaves
  | update work values t =>
    rw [plan] at asked outside
    simp only [SameOutside, Plan.state] at outside
    exact fun phase => h.begun asked.1 asked.2 (by simp [outside]) phase

end

end Sys2Proof.Machine
end

section
/-! SUPPORT. O6: the status block once a whole update is made, through the resets, START and so through every step. -/

namespace Sys2Proof.Machine

/-! ### The rest of a whole update -/

/-- The rest of an update outside START leaves the status block, but for groups that wait. -/
theorem State.statusStays_after {t : State} {work : Work} (start : work.ofStart = false)
    (outside : work = .install ∨ work = .park → t.part ≠ .start) : t.StatusStays (t.after work) := by
  have here := State.StatusStays.refl t
  have noticed : t.StatusStays { t with notice := .none } := .of_view rfl rfl
  cases work with
  | debit lane hold serial day => exact (here.afterDebit lane hold serial day).2
  | settle lane result expired => exact here.afterSettle lane result expired
  | park => exact here.afterPark (outside (.inr rfl))
  | claim removed =>
    cases removed
    · exact here.complete _
    · exact here.touchSpoiled.complete _
  | credit =>
    have funds : t.StatusStays (State.touchFunds { t with notice := .none }) := noticed.touchFunds t.holds
    exact funds.complete _
  | install =>
    have funds : t.StatusStays (State.touchFunds { t with notice := .none }) := noticed.touchFunds t.holds
    have done : t.StatusStays ((State.touchFunds { t with notice := .none }).touchSpoiled.complete .done) :=
      funds.touchSpoiled.complete _
    exact done.setPart (outside (.inl rfl)) _
  | setAccount => exact here.complete _
  | setAlert before =>
    show t.StatusStays (t.afterSetAlert before)
    unfold State.afterSetAlert
    dsimp only
    split
    · exact (here.raise _).complete _
    · exact here.complete _
  | closePeriod => exact here.complete _
  | commit active =>
    have banks : t.StatusStays (State.touchBanks { t with load := none }) := (here.view (u := { t with load := none }) rfl rfl).touchBanks
    cases active
    · exact (banks.writeLoadReport _).complete _
    · exact ((banks.raise _).writeLoadReport _).complete _
  | bankSwitch => exact here.touchBanks.raise _
  | setDate day minute second => exact (((t.statusStays_setCalendar day minute second).touchBanks).raise _).complete _
  | startClear => cases start
  | startConversion stop => cases start
  | startSwitch => cases start

theorem State.after_rewrites_funds {t : State} {work : Work} (start : work.ofStart = false) (rewrites : work.rewrites.funds = true) :
    (t.after work).dirty.funds = true := by
  cases work with
  | debit lane hold serial day =>
    by_contra clean
    rw [Bool.not_eq_true] at clean
    exact nomatch (((State.StatusStays.refl t).afterDebit lane hold serial day).1.groups .funds clean).1
  | park => rfl
  | credit => rfl
  | install => rfl
  | startClear => cases start
  | startConversion stop => cases start
  | startSwitch => cases start
  | _ => cases rewrites

theorem State.after_rewrites_banks {t : State} {work : Work} (start : work.ofStart = false) (rewrites : work.rewrites.banks = true) :
    (t.after work).dirty.banks = true := by
  cases work with
  | commit active => cases active <;> rfl
  | bankSwitch => rfl
  | setDate day minute second => rfl
  | startClear => cases start
  | startConversion stop => cases start
  | startSwitch => cases start
  | _ => cases rewrites

theorem State.after_rewrites_spoiled {t : State} {work : Work} (start : work.ofStart = false)
    (sent : ∀ lane result expired, work = .settle lane result expired → (t.link lane).outstanding ≠ none)
    (rewrites : work.rewrites.spoiled = true) : (t.after work).dirty.spoiled = true := by
  cases work with
  | settle lane result expired =>
    obtain ⟨imprint, outstanding⟩ := Option.ne_none_iff_exists'.mp (sent lane result expired rfl)
    have spoils : result ≠ .printed := of_decide_eq_true rewrites
    have settled := (State.StatusStays.refl (t.onLink lane fun k => k.settle imprint result expired).touchSpoiled).settled lane
      imprint.seq result
    show (t.afterSettle lane result expired).dirty.spoiled = true
    unfold State.afterSettle
    rw [outstanding]
    dsimp only
    rw [if_neg spoils]
    by_contra clean
    rw [Bool.not_eq_true] at clean
    exact nomatch (settled.groups .spoiled clean).1
  | park => rfl
  | claim removed =>
    have removes : removed = true := rewrites
    rw [removes]
    rfl
  | install => rfl
  | startClear => cases start
  | startConversion stop => cases start
  | startSwitch => cases start
  | _ => cases rewrites

/-- What an update leaves of the groups: those it changes wait. -/
theorem State.UpdateIsShown.after_groups {s : State} {work : Work} {values : NewValues} (h : s.UpdateIsShown work values.items)
    (start : work.ofStart = false) (g : StatusGroup) : g.Stays s ((s.place values).after work) := by
  obtain ⟨funds, banks, spoiled, -, outside, sent⟩ := h
  have stays := (s.place values).statusStays_after start outside
  intro clean
  obtain ⟨was, fields⟩ := stays.groups g clean
  refine ⟨was, fields.trans ?_⟩
  cases g with
  | funds =>
    have unwritten : work.rewrites.funds = false :=
      Bool.eq_false_iff.mpr fun writes => nomatch (State.after_rewrites_funds start writes).symm.trans clean
    obtain ⟨descending, ascending, count⟩ := funds unwritten
    have descending : (s.place values).items.descending = s.items.descending := descending
    have ascending : (s.place values).items.ascending = s.items.ascending := ascending
    have count : (s.place values).items.pieceCount = s.items.pieceCount := count
    show fundsFields (s.place values) = fundsFields s
    unfold fundsFields State.available
    rw [descending, ascending, count]
    rfl
  | banks =>
    have unwritten : work.rewrites.banks = false :=
      Bool.eq_false_iff.mpr fun writes => nomatch (State.after_rewrites_banks start writes).symm.trans clean
    have same : (s.place values).items.banks = s.items.banks := banks unwritten
    show banksFields (s.place values) = banksFields s
    unfold banksFields Items.activeBank
    rw [same]
  | spoiled =>
    have unwritten : work.rewrites.spoiled = false :=
      Bool.eq_false_iff.mpr fun writes =>
        nomatch (State.after_rewrites_spoiled (t := s.place values) start sent writes).symm.trans clean
    have same : (s.place values).items.spoiled.length = s.items.spoiled.length := spoiled unwritten
    show spoiledFields (s.place values) = spoiledFields s
    unfold spoiledFields
    rw [same]
  | lane l => cases l <;> rfl
  | _ => rfl

section
variable {s : State} (h : s.LawfulStatusUnwritten)
include h

omit h in
/-- In START, and where it has ended, an update in its steps is START's own. -/
theorem State.LawfulStatusUnwritten.of_start {t : State} (steps : t.StartInSteps) (shown : t.part ≠ .start → t.ShownOrWaits) :
    t.LawfulStatusUnwritten := by
  refine ⟨fun _ => shown, fun phase values work _ busy => ?_⟩
  obtain ⟨start, part⟩ := steps work busy
  cases work with
  | startClear => exact ⟨nofun, nofun, nofun, fun _ => part, nofun, nofun⟩
  | startConversion stop => exact ⟨nofun, nofun, nofun, fun _ => part, nofun, nofun⟩
  | startSwitch => exact ⟨nofun, nofun, nofun, fun _ => part, nofun, nofun⟩
  | _ => cases start

theorem State.LawfulStatusUnwritten.completes {work : Work} {phase : Phase} {values : NewValues} (busy : s.inStore = some work)
    (record : s.store.record = .inSteps phase values) : ((s.place values).after work).LawfulStatusUnwritten := by
  have isShown := h.soon phase values work record busy
  have ⟨_, _, _, part, outside, _⟩ := isShown
  cases start : work.ofStart with
  | true =>
    refine .of_start (startInSteps_after (part start) start values) ?_
    exact State.after_ends (P := fun t => t.part ≠ .start → t.ShownOrWaits) (fun t start started => absurd start started)
      (fun t _ => t.endStart_shows) (s := s.place values) (part start) start
  | false =>
    have stays := (s.place values).statusStays_after start outside
    have store := (s.place values).after_store start
    have empty : ((s.place values).after work).store.record = .empty := congrArg Store.record store
    refine ⟨fun supply started => ?_, fun _ _ _ other => nomatch empty.symm.trans other⟩
    refine (h.shown (stays.frame.1 ▸ supply) (stays.started started)).of_groups (isShown.after_groups start) stays.frame.2.2
      fun a width low => (stays.readField low).trans (readField_of_mem (s := s) (t := s.place values) rfl rfl rfl a width)

theorem State.LawfulStatusUnwritten.start (pace : StartPace) : (s.startSteps pace).LawfulStatusUnwritten := by
  by_cases steps : s.part = .start ∧ s.busy = false
  · obtain ⟨part, rest⟩ := steps
    have idle : s.inStore = none := by simpa [State.busy] using rest
    refine .of_start (startInSteps_startSteps part idle pace) ?_
    exact State.startSteps_ends (P := fun t => t.part ≠ .start → t.ShownOrWaits) (fun t start started => absurd start started)
      (fun t _ => t.endStart_shows) part pace
  · have still : s.startSteps pace = s := by rw [State.startSteps, if_neg steps]
    rwa [still]

/-- What nothing shown and no imprint rests on may change. -/
theorem State.LawfulStatusUnwritten.unseen {t : State} (stays : s.StatusStays t)
    (same : (t.store, t.inStore, t.part, t.links, t.lanes) = (s.store, s.inStore, s.part, s.links, s.lanes)) :
    t.LawfulStatusUnwritten := by
  simp only [Prod.mk.injEq] at same
  obtain ⟨store, inStore, part, links, lanes⟩ := same
  exact h.stays stays store inStore (.inl (.of_links part links (.of_eq lanes)))

end

/-- After a reset event the block is not shown until START's end, and no update is in its steps (R7). -/
theorem lawfulStatus_resetEvent (s : State) (cause : ResetCause) : (s.resetEvent cause).LawfulStatusUnwritten :=
  ⟨fun _ started => absurd rfl started, fun _ _ _ _ busy => nomatch busy⟩

theorem State.statusStays_refuseSlotWrite (s : State) (lane : Lane) : s.StatusStays (s.refuseSlotWrite lane) :=
  State.StatusStays.raise (State.StatusStays.changeLane (.refl s) lane _) _

theorem lawfulStatus_batteryLoss {s : State} (h : s.LawfulStatusUnwritten) : s.batteryLoss.LawfulStatusUnwritten := by
  refine ⟨fun supply started => ?_, fun phase values work record busy => ?_⟩
  · refine (h.shown supply started).of_groups (fun g clean => ⟨clean, ?_⟩) rfl fun a width _ => ?_
    · cases g with
      | lane l => cases l <;> rfl
      | _ => rfl
    · exact readField_of_mem (s := s) (t := s.batteryLoss) rfl rfl rfl a width
  · have record : s.store.record.loseLatch = .inSteps phase values := record
    cases stands : s.store.record with
    | empty =>
      rw [stands] at record
      cases record
    | inSteps _ given =>
      rw [stands] at record
      cases record
      exact h.soon _ given work stands busy

/-- The seconds of the calendar are not shown (R5). -/
theorem State.statusStays_second (s : State) (second : Nat) :
    s.StatusStays { s with calendar := { s.calendar with second := second, cycles := 0 } } := by
  refine ⟨fun g clean => ⟨clean, ?_⟩, ⟨rfl, rfl, rfl⟩, id, fun _ _ => rfl⟩
  cases g with
  | lane l => cases l <;> rfl
  | _ => rfl

theorem kept_lawfulStatus : Kept State.LawfulStatusUnwritten where
  pending _ h := h.unseen (.of_view rfl rfl) rfl
  notices _ h := h.unseen (.of_view rfl rfl) rfl
  command _ h := h.unseen (.of_view rfl rfl) rfl
  waiting _ _ _ h := h.unseen (.of_view rfl rfl) rfl
  loading _ _ h := h.unseen (.of_view rfl rfl) rfl
  powerWarn _ h := h.unseen (.of_view rfl rfl) rfl
  fields {s} fs above h := h.unseen (s.statusStays_writeFields above) rfl
  byte _ value above h := h.unseen (State.StatusStays.writeByte (.refl _) above value) rfl
  refuseSlotWrite {s} lane h := h.stays (s.statusStays_refuseSlotWrite lane) (by simp [State.refuseSlotWrite])
    (by simp [State.refuseSlotWrite]) (.inl (s.imprintsStay_refuseSlotWrite lane))
  plan e h may := h.plan e may
  claim claimed h _ := fun phase => h.begun (work := .claim _) ⟨claimed, rfl, rfl⟩ (.refl _) ⟨rfl, rfl, rfl, rfl⟩ phase
  completes _ _ _ h busy record := h.completes busy record
  reset cause _ := lawfulStatus_resetEvent _ cause
  straps _ _ _ := lawfulStatus_resetEvent _ .line
  powerOn _ _ _ := lawfulStatus_resetEvent _ .powerOn
  start pace h := h.start pace
  supplyLoss _ := ⟨nofun, fun _ _ _ _ busy => nomatch busy⟩
  batteryLoss h := lawfulStatus_batteryLoss h
  second {s} second h := h.unseen (s.statusStays_second second) rfl
  quietBoundary h off := ⟨fun supply started => absurd ⟨supply, started⟩ off, h.soon⟩
  boundary {s} h :=
    have counted : State.LawfulStatusUnwritten (State.touchCalendar { s with calendar := s.calendar.nextMinute }) :=
      h.unseen (State.StatusStays.touchCalendar (.refl s) _) rfl
    counted.stays (State.statusStays_inspect _) (State.inspect_still _).1 (State.inspect_sameOutside _).inStore
      (.inl (State.imprintsStay_inspect _))

theorem State.LawfulStatusUnwritten.flush {s : State} (h : s.LawfulStatusUnwritten) : s.flush.LawfulStatus := by
  refine ⟨by simp [State.Settled], fun supply started => ?_, fun phase values work record busy => ?_⟩
  · have on : s.supply = true := by simpa using supply
    have started : s.part ≠ .start := by simpa using started
    exact (h.shown on started).flush started
  · have store : s.flush.store = s.store := by simp
    have inStore : s.flush.inStore = s.inStore := by simp
    rw [store] at record
    rw [inStore] at busy
    exact (h.soon phase values work record busy).leaves store busy (.inl s.imprintsStay_flush)

/-- Settles O6: what waits is written by the rewrite at the step's end, and `kept_lawfulStatus` keeps the rest shown. -/
theorem everyStepKeepsTheStatusBlockTrue : Obligations.EveryStepKeepsTheStatusBlockTrue := by
  intro s t lawful above steps
  refine kept_lawfulStatus.step (Q := State.LawfulStatus) (fun s lawful => ?_) (fun s h => h.flush) (fun s rest lawful => ?_)
    (fun address value strobes rest front => .inl (above address value strobes rest front)) lawful steps
  · obtain ⟨settled, shown, soon⟩ := lawful
    refine ⟨fun supply started => ⟨?_, fun g _ f hf => ?_⟩, soon⟩
    · exact shown supply started _ (mem_statusFields.mpr (.inl rfl))
    · exact shown supply started f (mem_statusFields.mpr (.inr ⟨g, hf⟩))
  · obtain ⟨settled, shown, soon⟩ := lawful
    refine ⟨settled, fun supply started f hf => ?_, soon⟩
    exact (readField_of_mem (s := s) (t := { s with pending := rest }) rfl rfl rfl _ _).trans (shown supply started f hf)

end Sys2Proof.Machine
end

section
/-! SUPPORT. O23, O22, O20, O16: the RUN values, the encoder, PRINT without a dispatch and ENTRY without a slot (R24 to R36, R41). -/

namespace Sys2Proof.Machine

/-! ### RUN (R24 to R27) -/

/-- A lane moved to a state with no halt cause, its group to be rewritten. -/
theorem State.moveLane_eq (s : State) (lane : Lane) (state : LaneState) :
    s.moveLane lane state
      = { s with
          dirty := (s.touchLane lane).dirty
          lanes := s.lanes.set lane { s.tracker lane with state := state, haltCause := none } } := by
  cases lane <;> rfl

theorem State.tracker_moveLane (s : State) (lane : Lane) (state : LaneState) :
    (s.moveLane lane state).tracker lane = { s.tracker lane with state := state, haltCause := none } := by
  rw [State.moveLane_eq]
  exact tracker_setTracker s lane _

/-- A drain ends at once in a lane just moved to DRAINING with nothing in its queue (R26). -/
theorem State.drainCheck_draining (s : State) (lane : Lane) :
    (s.moveLane lane .draining).drainCheck lane
      = s.moveLane lane (if (s.tracker lane).queue.isEmpty then .stopped else .draining) := by
  unfold State.drainCheck
  dsimp only
  rw [State.tracker_moveLane]
  cases queue : (s.tracker lane).queue with
  | nil =>
    rw [if_pos ⟨rfl, rfl⟩]
    simp only [List.isEmpty_nil, if_true]
    rw [State.moveLane_eq, State.moveLane_eq]
    cases lane <;> cases dirty : s.dirty.laneB <;> cases count : s.laneCount <;>
      simp [State.setTracker, State.touchLane, PerLane.set, queue, dirty, count]
  | cons e rest => simp

/-- A RUN value moves a present lane as `runMoves` gives, or changes nothing. -/
theorem State.runWrite_eq {s : State} {lane : Lane} (present : s.present lane = true) (value : Bool) :
    s.runWrite lane value
      = (runMoves (s.tracker lane).state value s.part (s.tracker lane).queue.isEmpty).elim s (s.moveLane lane) := by
  have drains := s.drainCheck_draining lane
  unfold State.runWrite
  rw [if_pos present]
  generalize (s.tracker lane).state = state
  cases state with
  | stopped =>
    cases value with
    | false => rfl
    | true =>
      unfold runMoves
      dsimp only
      split <;> rfl
  | running =>
    cases value with
    | false => exact drains
    | true => rfl
  | draining => cases value <;> rfl
  | halting => cases value <;> rfl
  | halted => cases value <;> rfl

theorem State.runWrite_absent {s : State} {lane : Lane} (absent : s.present lane = false) (value : Bool) :
    s.runWrite lane value = s := by
  unfold State.runWrite
  rw [if_neg (by rw [absent]; decide)]

/-- Settles O23. -/
theorem runMovesTheLane : Obligations.RunMovesTheLane := by
  intro lane value s ready
  refine ⟨fun present state moves => ?_, fun still => ?_⟩
  · have run : exec (.run lane value) s = .next (s.moveLane lane state).flush :=
      exec_of_eventPlan_done ready rfl (congrArg Plan.done ((State.runWrite_eq present value).trans (by rw [moves]; rfl)))
    have moved := State.moveLane_eq s lane state
    refine ⟨_, run, ?_, fun started => ?_, ?_⟩
    · refine (flush_eq _).trans ?_
      generalize (s.moveLane lane state).flush = t
      rw [moved, ready.2.2]
    · have shown : (⟨laneGroup lane, 1, laneStateCode state⟩ : Field) ∈ dirtyFields (s.moveLane lane state) := by
        refine laneFields_subset_dirtyFields present (by rw [moved]) ?_
        rw [State.tracker_moveLane]
        simp [laneFields]
      refine (readField_flush (by rw [moved]; exact started) shown).trans ?_
      cases state <;> rfl
    · exact (UnchangedOutside.of_mem _ (by rw [moved]) (by rw [moved])).trans (unchangedOutside_flush _)
  · have same : s.runWrite lane value = s := by
      cases present : s.present lane with
      | false => exact State.runWrite_absent present value
      | true =>
        have none := still.resolve_left (by rw [present]; decide)
        exact (State.runWrite_eq present value).trans (by rw [none]; rfl)
    exact exec_of_eventPlan_done_unmarked ready rfl (congrArg Plan.done same) rfl

end Sys2Proof.Machine
end

section
/-! SUPPORT. How one entry with a slot ends: its slot, its batch, the queue and the notices (R12, R13, R17, R44, R167, R168). -/

namespace Sys2Proof.Machine

/-! ### Batches -/

/-- A CLOSING batch with nothing in flight is NONE (R168). -/
def Batch.ended (b : Batch) : Batch := if b.state = .closing ∧ b.inFlight = 0 then { b with state := .none } else b

theorem Batch.count_eq_after (b : Batch) (outcome : PieceOutcome) (amount : Nat) : b.count outcome amount = b.after outcome amount := by
  cases outcome <;> rfl

theorem Batch.afterAll_cons (b : Batch) (x : Ending) (xs : List Ending) :
    b.afterAll (x :: xs) = (b.afterAll [x]).afterAll xs := rfl

theorem Batch.afterAll_slotless {b : Batch} {x : Ending} (slot : x.entry.slot = none) : b.afterAll [x] = b := if_pos slot

theorem Batch.afterAll_slotted {b : Batch} {x : Ending} {index : Nat} (slot : x.entry.slot = some index) :
    b.afterAll [x] = (b.after x.outcome (x.entry.held.getD 0)).ended := if_neg (by rw [slot]; nofun)

/-- The end of a lane's batch, written out. -/
theorem State.endBatch_eq (s : State) (lane : Lane) :
    s.endBatch lane
      = { s with
          mem := (s.endBatch lane).mem
          notices := if (s.tracker lane).batch.state = .closing ∧ (s.tracker lane).batch.inFlight = 0
            then s.notices.raise .batchDone else s.notices
          lanes := s.lanes.set lane { s.tracker lane with batch := (s.tracker lane).batch.ended } } := by
  by_cases ends : (s.tracker lane).batch.state = .closing ∧ (s.tracker lane).batch.inFlight = 0
  · have closed : s.endBatch lane = s.batchEnded lane := State.endBatch_closing ends.1 ends.2
    rw [closed, Batch.ended, if_pos ends, if_pos ends]
    rfl
  · have still : s.endBatch lane = s := if_neg ends
    have same : s.lanes.set lane (s.tracker lane) = s.lanes := PerLane.set_get ..
    rw [still, Batch.ended, if_neg ends, if_neg ends]
    exact congrArg (fun lanes => { s with lanes := lanes }) same.symm

theorem State.unchangedOutside_endBatch (s : State) (lane : Lane) :
    UnchangedOutside (if (s.tracker lane).batch.state = .closing ∧ (s.tracker lane).batch.inFlight = 0
      then [(summaryAddress lane, 64)] else []) s (s.endBatch lane) := by
  by_cases ends : (s.tracker lane).batch.state = .closing ∧ (s.tracker lane).batch.inFlight = 0
  · rw [if_pos ends, State.endBatch_closing ends.1 ends.2]
    exact unchangedOutside_batchEnded s lane
  · rw [if_neg ends, State.endBatch, if_neg ends]
    exact .of_mem _ rfl rfl

/-- A batch that ends shows its summary. -/
theorem State.showsSummary_endBatch {s : State} {lane : Lane} (closing : (s.tracker lane).batch.state = .closing)
    (empty : (s.tracker lane).batch.inFlight = 0) :
    (s.endBatch lane).ShowsSummary lane (s.tracker lane).batch s.calendar.stamp := by
  refine showsSummary_of_fields fun f hf => ?_
  rw [State.endBatch_closing closing empty]
  exact (readField_of_mem (s := s.writeFields (summaryFields lane (s.tracker lane).batch s.calendar.stamp))
    (t := s.batchEnded lane) rfl rfl rfl _ _).trans (readField_writeFields_of_mem s (summaryFields_apart _ _ _) hf)

/-! ### The slot of an entry that ends -/

/-- The presence bits of an ending (R12). -/
def Ending.bits (x : Ending) : List Nat := outcomeBit :: (if x.cause.isSome then [divertBit] else [])

/-- The fields of an ending: the outcome, the divert cause, BATCH_OVERFLOW and the presence word (R12, R13). -/
def State.endingFields (s : State) (lane : Lane) (x : Ending) (index : Nat) : List Field :=
  (slotField lane index 0x32 1 (outcomeCode x.outcome) :: divertFields lane x.cause index
      ++ [overflowField s.order lane x.entry.flags (s.tracker lane).batch.overflow index])
    ++ presenceFields lane index (x.bits.foldl withBit x.entry.presence) x.bits

/-- The state once an entry's slot is DONE and its batch has counted it, before the batch ends. -/
def State.endingMarked (s : State) (lane : Lane) (x : Ending) (index : Nat) : State :=
  ((((((s.onEntry lane x.entry.seq fun y => { y with presence := x.bits.foldl withBit x.entry.presence }).writeFields
      (s.endingFields lane x index)).setSlot lane index .done).onTracker lane fun t =>
        { t with lastDone := some x.entry.seq, batch := t.batch.count x.outcome (x.entry.held.getD 0) }).touchLane lane).raise
    (slotDoneCause lane))

theorem State.slotDone_eq {s : State} {lane : Lane} {x : Ending} {index : Nat} (slot : x.entry.slot = some index) :
    s.slotDone lane x.entry index x.outcome x.cause = (s.endingMarked lane x index).endBatch lane := by
  unfold State.slotDone State.writeResults
  rw [slot]
  rfl

/-- The lane's tracker with one entry counted as DONE. -/
def Tracker.counted (r : Tracker) (x : Ending) : Tracker :=
  { r.onEntry x.entry.seq fun y => { y with presence := x.bits.foldl withBit x.entry.presence } with
    lastDone := some x.entry.seq, batch := r.batch.after x.outcome (x.entry.held.getD 0) }

/-- A lane's tracker changed twice about writes to memory. -/
theorem State.onTracker_writes_eq (s : State) (lane : Lane) (f g : Tracker → Tracker) (fs : List Field) (index : Nat)
    (state : SlotState) :
    (((s.onTracker lane f).writeFields fs).setSlot lane index state).onTracker lane g
      = { s with
          mem := ((s.writeFields fs).setSlot lane index state).mem
          lanes := s.lanes.set lane (g (f (s.tracker lane))) } := by
  cases lane <;> rfl

theorem State.touchLane_with_eq (s : State) (lane : Lane) (mem : Memory) (lanes : PerLane Tracker) :
    State.touchLane { s with mem := mem, lanes := lanes } lane
      = { s with mem := mem, lanes := lanes, dirty := (s.touchLane lane).dirty } := by
  cases lane <;> rfl

theorem State.endingMarked_eq (s : State) (lane : Lane) (x : Ending) (index : Nat) :
    s.endingMarked lane x index
      = { s with
          mem := ((s.writeFields (s.endingFields lane x index)).setSlot lane index .done).mem
          dirty := (s.touchLane lane).dirty
          notices := s.notices.raise (slotDoneCause lane)
          lanes := s.lanes.set lane ((s.tracker lane).counted x) } := by
  unfold State.endingMarked State.onEntry
  rw [State.onTracker_writes_eq, State.touchLane_with_eq, Batch.count_eq_after]
  rfl

end Sys2Proof.Machine
end

section
/-! SUPPORT. What the end of an entry with a slot leaves, in the terms of `EndsEntry` and `ShowsEnding` (R12, R13, R17, R44, R167). -/

namespace Sys2Proof.Machine

/-! ### The slot's bytes -/

theorem foldl_withBit_bits (x : Ending) :
    x.bits.foldl withBit x.entry.presence = x.entry.presence ||| if x.cause.isSome then 0x0600#16 else 0x0200#16 := by
  unfold Ending.bits
  cases x.cause with
  | none => rfl
  | some cause =>
    show (x.entry.presence ||| _) ||| _ = _
    rw [BitVec.or_assoc]
    rfl

/-- The overflow byte lies in the condition flags word. -/
theorem overflowByteAddress_bounds (s : State) (lane : Lane) (index : Nat) :
    slotAddress lane index + 0x20 ≤ s.overflowByteAddress lane index
      ∧ s.overflowByteAddress lane index ≤ slotAddress lane index + 0x21 := by
  unfold State.overflowByteAddress
  cases s.order <;> simp

/-- The fields that an ending writes, by their addresses. -/
theorem endingFields_eq (s : State) (lane : Lane) (x : Ending) (index : Nat) :
    s.endingFields lane x index
      = ⟨slotAddress lane index + 0x32, 1, outcomeCode x.outcome⟩
        :: (divertFields lane x.cause index
          ++ [⟨s.overflowByteAddress lane index, 1,
              (if (s.tracker lane).batch.overflow then x.entry.flags ||| batchOverflowBit else x.entry.flags).toNat / 256⟩,
            ⟨slotAddress lane index + 0x02, 2,
              (x.entry.presence ||| if x.cause.isSome then 0x0600#16 else 0x0200#16).toNat⟩]) := by
  have bits : x.bits ≠ [] := List.cons_ne_nil _ _
  unfold State.endingFields presenceFields overflowField State.overflowByteAddress
  rw [if_neg bits, foldl_withBit_bits]
  cases s.order <;> simp [slotField]

theorem divertFields_within {lane : Lane} {cause : Option DivertCause} {index : Nat} {f : Field}
    (hf : f ∈ divertFields lane cause index) : f.address = slotAddress lane index + 0x33 ∧ f.width = 1 := by
  unfold divertFields at hf
  split at hf
  · rw [List.mem_singleton.mp hf]
    exact ⟨rfl, rfl⟩
  · cases hf

/-- The bytes of a slot that the end of its entry writes before the state byte. -/
theorem endingFields_within {s : State} {lane : Lane} {x : Ending} {index : Nat} {f : Field}
    (hf : f ∈ s.endingFields lane x index) :
    ∃ r ∈ [(slotAddress lane index + 0x02, 2), (s.overflowByteAddress lane index, 1), (slotAddress lane index + 0x32, 2)],
      r.1 ≤ f.address ∧ f.address + f.width ≤ r.1 + r.2 := by
  rw [endingFields_eq] at hf
  simp only [List.mem_cons, List.mem_append, List.not_mem_nil, or_false] at hf
  rcases hf with rfl | hf | rfl | rfl
  · exact ⟨(slotAddress lane index + 0x32, 2), by simp, by simp⟩
  · obtain ⟨address, width⟩ := divertFields_within hf
    exact ⟨(slotAddress lane index + 0x32, 2), by simp, by rw [address, width]; simp⟩
  · exact ⟨(s.overflowByteAddress lane index, 1), by simp, by simp⟩
  · exact ⟨(slotAddress lane index + 0x02, 2), by simp, by simp⟩

theorem endingFields_apart (s : State) (lane : Lane) (x : Ending) (index : Nat) :
    (s.endingFields lane x index).Pairwise Field.Apart := by
  have overflow := overflowByteAddress_bounds s lane index
  rw [endingFields_eq]
  unfold divertFields
  cases x.cause <;> simp [slotField, Field.Apart] <;> omega

/-! ### The end of an entry -/

section
variable {s : State} {lane : Lane} {x : Ending} {index : Nat}

theorem Tracker.remove_counted (r : Tracker) (x : Ending) :
    ((r.counted x).remove x.entry.seq).queue = r.queue.filter (fun y => y.seq != x.entry.seq) := by
  show (r.queue.map _).filter _ = _
  rw [List.filter_map]
  have kept : ∀ y ∈ r.queue.filter (fun y => y.seq != x.entry.seq),
      (if y.seq == x.entry.seq then { y with presence := x.bits.foldl withBit x.entry.presence } else y) = y := by
    intro y hy
    have other : (y.seq != x.entry.seq) = true := (List.mem_filter.mp hy).2
    rw [if_neg (by simpa using other)]
  have same : r.queue.filter ((fun y => y.seq != x.entry.seq) ∘ fun y =>
      if y.seq == x.entry.seq then { y with presence := x.bits.foldl withBit x.entry.presence } else y)
      = r.queue.filter (fun y => y.seq != x.entry.seq) := by
    refine List.filter_congr fun y _ => ?_
    simp only [Function.comp]
    split <;> rfl
  rw [same]
  exact (List.map_congr_left kept).trans (List.map_id _)

/-- The batch and the queue of a lane from which an entry with a slot has ended. -/
def Tracker.endedOne (r : Tracker) (x : Ending) : Tracker :=
  { r with
    queue := r.queue.filter (fun y => y.seq != x.entry.seq), lastDone := some x.entry.seq
    batch := (r.batch.after x.outcome (x.entry.held.getD 0)).ended }

theorem State.endEntry_eq (slot : x.entry.slot = some index) :
    s.endEntry lane x.entry x.outcome x.cause
      = { s with
          mem := ((s.endingMarked lane x index).endBatch lane).mem
          dirty := (s.touchLane lane).dirty
          notices :=
            if (s.tracker lane).batch.state = .closing ∧ ((s.tracker lane).batch.after x.outcome (x.entry.held.getD 0)).inFlight = 0
            then (s.notices.raise (slotDoneCause lane)).raise .batchDone else s.notices.raise (slotDoneCause lane)
          lanes := s.lanes.set lane ((s.tracker lane).endedOne x) } := by
  have marked := s.endingMarked_eq lane x index
  have tracker : (s.endingMarked lane x index).tracker lane = (s.tracker lane).counted x := by
    rw [marked]
    exact tracker_setTracker s lane _
  have ended := (s.endingMarked lane x index).endBatch_eq lane
  rw [tracker] at ended
  have queue := (s.tracker lane).remove_counted x
  unfold State.endEntry
  rw [slot]
  dsimp only
  rw [State.slotDone_eq slot, ended]
  generalize ((s.endingMarked lane x index).endBatch lane).mem = m
  rw [marked]
  unfold Tracker.endedOne
  rw [← queue]
  cases lane <;> rfl

/-- The bytes that the end of one entry writes, the status block apart. -/
def State.endingRanges (s : State) (lane : Lane) (x : Ending) (index : Nat) : List (Nat × Nat) :=
  [(slotAddress lane index, 1), (slotAddress lane index + 0x02, 2), (s.overflowByteAddress lane index, 1),
    (slotAddress lane index + 0x32, 2)]
    ++ if (s.tracker lane).batch.state = .closing ∧ ((s.tracker lane).batch.after x.outcome (x.entry.held.getD 0)).inFlight = 0
      then [(summaryAddress lane, 64)] else []

/-- The writes into the slot itself. -/
def State.slotEnded (s : State) (lane : Lane) (x : Ending) (index : Nat) : State :=
  (s.writeFields (s.endingFields lane x index)).setSlot lane index .done

theorem unchangedOutside_slotEnded (s : State) (lane : Lane) (x : Ending) (index : Nat) :
    UnchangedOutside [(slotAddress lane index, 1), (slotAddress lane index + 0x02, 2), (s.overflowByteAddress lane index, 1),
      (slotAddress lane index + 0x32, 2)] s (s.slotEnded lane x index) := by
  refine ((unchangedOutside_writeFields s _).mono fun r hr => ?_).trans ((unchangedOutside_writeByte _ _ _).mono (by simp))
  obtain ⟨f, hf, rfl⟩ := List.mem_map.mp hr
  obtain ⟨r, hr, inside⟩ := endingFields_within hf
  exact ⟨r, List.mem_cons_of_mem _ hr, inside⟩

theorem readField_slotEnded {f : Field} (hf : f ∈ s.endingFields lane x index) :
    (s.slotEnded lane x index).readField f.address f.width = f.value % 256 ^ f.width := by
  refine ((unchangedOutside_writeByte _ _ _).readField rfl fun r hr => ?_).trans
    (readField_writeFields_of_mem s (endingFields_apart s lane x index) hf)
  rw [List.mem_singleton.mp hr]
  have overflow := overflowByteAddress_bounds s lane index
  obtain ⟨r, listed, inside⟩ := endingFields_within hf
  simp only [List.mem_cons, List.not_mem_nil, or_false] at listed
  rcases listed with rfl | rfl | rfl <;> dsimp only at inside ⊢ <;> omega

theorem unchangedOutside_endingMarked (s : State) (lane : Lane) (x : Ending) (index : Nat) :
    UnchangedOutside [] (s.slotEnded lane x index) (s.endingMarked lane x index) := by
  rw [State.endingMarked_eq]
  exact .of_mem _ rfl rfl

theorem State.endingMarked_tracker (s : State) (lane : Lane) (x : Ending) (index : Nat) :
    (s.endingMarked lane x index).tracker lane = (s.tracker lane).counted x := by
  rw [State.endingMarked_eq]
  exact tracker_setTracker s lane _

theorem State.unchangedOutside_endEntry (slot : x.entry.slot = some index) :
    UnchangedOutside (s.endingRanges lane x index) s (s.endEntry lane x.entry x.outcome x.cause) := by
  have batch := State.unchangedOutside_endBatch (s.endingMarked lane x index) lane
  rw [State.endingMarked_tracker] at batch
  have ended : UnchangedOutside [] ((s.endingMarked lane x index).endBatch lane) (s.endEntry lane x.entry x.outcome x.cause) := by
    rw [State.endEntry_eq slot]
    refine .of_mem _ rfl ?_
    rw [State.endBatch_eq, State.endingMarked_eq]
  refine ((unchangedOutside_slotEnded s lane x index).mono ?_).trans (((unchangedOutside_endingMarked s lane x index).mono ?_).trans
    ((batch.mono ?_).trans (ended.mono ?_)))
  · exact fun r hr => ⟨r, List.mem_append_left _ hr, le_rfl, le_rfl⟩
  · exact fun _ hr => nomatch hr
  · exact fun r hr => ⟨r, List.mem_append_right _ hr, le_rfl, le_rfl⟩
  · exact fun _ hr => nomatch hr

/-- The two summaries lie below the slots. -/
theorem summaryAddress_below (lane of : Lane) (index : Nat) : summaryAddress lane + 64 ≤ slotAddress of index := by
  have := slotAddress_ge of index
  cases lane <;> simp only [summaryAddress] <;> omega

/-- From the writes into the slot on, the end of an entry writes nothing at or above a slot. -/
theorem unchangedOutside_endEntry_slotEnded (slot : x.entry.slot = some index) :
    UnchangedOutside [(summaryAddress lane, 64)] (s.slotEnded lane x index) (s.endEntry lane x.entry x.outcome x.cause) := by
  have batch := State.unchangedOutside_endBatch (s.endingMarked lane x index) lane
  have ended : UnchangedOutside [] ((s.endingMarked lane x index).endBatch lane) (s.endEntry lane x.entry x.outcome x.cause) := by
    rw [State.endEntry_eq slot]
    refine .of_mem _ rfl ?_
    rw [State.endBatch_eq, State.endingMarked_eq]
  refine ((unchangedOutside_endingMarked s lane x index).mono nofun).trans ((batch.mono fun r hr => ?_).trans (ended.mono nofun))
  split at hr
  · exact ⟨_, List.mem_singleton_self _, by rw [List.mem_singleton.mp hr], by rw [List.mem_singleton.mp hr]⟩
  · cases hr

theorem endEntry_order (slot : x.entry.slot = some index) : (s.endEntry lane x.entry x.outcome x.cause).order = s.order := by
  rw [State.endEntry_eq slot]

/-- What the end of an entry leaves in its slot is what was written there. -/
theorem readField_endEntry (slot : x.entry.slot = some index) {a width : Nat} (slotted : slotAddress lane index ≤ a) :
    (s.endEntry lane x.entry x.outcome x.cause).readField a width = (s.slotEnded lane x index).readField a width := by
  refine (unchangedOutside_endEntry_slotEnded slot).readField (endEntry_order slot) fun r hr => .inr ?_
  rw [List.mem_singleton.mp hr]
  exact (summaryAddress_below lane lane index).trans slotted

theorem readByte_endEntry_state (slot : x.entry.slot = some index) :
    (s.endEntry lane x.entry x.outcome x.cause).readByte (slotAddress lane index) = slotCode .done := by
  refine (unchangedOutside_endEntry_slotEnded slot _ fun r hr inside => ?_).trans (readByte_writeByte_same _ _ _)
  rw [List.mem_singleton.mp hr] at inside
  have := summaryAddress_below lane lane index
  exact absurd inside.2 (by dsimp only; omega)

theorem readField_endEntry_ending (slot : x.entry.slot = some index) {f : Field} (hf : f ∈ s.endingFields lane x index) :
    (s.endEntry lane x.entry x.outcome x.cause).readField f.address f.width = f.value % 256 ^ f.width := by
  refine (readField_endEntry slot ?_).trans (readField_slotEnded hf)
  have overflow := overflowByteAddress_bounds s lane index
  obtain ⟨r, listed, inside⟩ := endingFields_within hf
  simp only [List.mem_cons, List.not_mem_nil, or_false] at listed
  rcases listed with rfl | rfl | rfl <;> dsimp only at inside <;> omega

theorem State.showsEnding_endEntry (slot : x.entry.slot = some index) :
    s.ShowsEnding (s.endEntry lane x.entry x.outcome x.cause) lane x := by
  intro i given
  cases slot.symm.trans given
  have reads : ∀ f ∈ s.endingFields lane x index, _ := fun f hf => readField_endEntry_ending slot hf
  rw [endingFields_eq] at reads
  simp only [List.forall_mem_cons, List.forall_mem_append] at reads
  obtain ⟨outcome, divert, overflow, presence, -⟩ := reads
  refine ⟨beq_iff_eq.mpr (readByte_endEntry_state slot), ?_, fun cause diverted => ?_, ?_, ?_⟩
  · refine outcome.trans ?_
    cases x.outcome <;> rfl
  · have divert := divert (slotField lane index 0x33 1 (divertCode cause)) (by rw [diverted]; exact List.mem_singleton_self _)
    refine divert.trans ?_
    cases cause <;> rfl
  · exact presence.trans (Nat.mod_eq_of_lt (BitVec.isLt _))
  · rw [readField_one] at overflow
    refine BitVec.eq_of_toNat_eq (overflow.trans ?_)
    simp [batchOverflowBit, BitVec.toNat_setWidth, BitVec.toNat_ushiftRight, Nat.shiftRight_eq_div_pow]

/-- A summary stands where its bytes do. -/
theorem State.ShowsSummary.of_reads {t u : State} {b : Batch} {closed : Stamp} (h : t.ShowsSummary lane b closed)
    (same : ∀ a width, summaryAddress lane ≤ a → a + width ≤ summaryAddress lane + 64 → u.readField a width = t.readField a width) :
    u.ShowsSummary lane b closed := by
  unfold State.ShowsSummary at h ⊢
  simp (disch := omega) only [same]
  exact h

theorem State.showsSummary_endEntry (slot : x.entry.slot = some index) (closing : (s.tracker lane).batch.state = .closing)
    (last : ((s.tracker lane).batch.after x.outcome (x.entry.held.getD 0)).inFlight = 0) :
    (s.endEntry lane x.entry x.outcome x.cause).ShowsSummary lane
      ((s.tracker lane).batch.after x.outcome (x.entry.held.getD 0)) s.calendar.stamp := by
  have tracker := s.endingMarked_tracker lane x index
  have summary := State.showsSummary_endBatch (s := s.endingMarked lane x index) (lane := lane)
    (by rw [tracker]; exact closing) (by rw [tracker]; exact last)
  rw [tracker, State.endingMarked_eq] at summary
  refine summary.of_reads fun a width _ _ => ?_
  rw [← State.endingMarked_eq]
  refine readField_of_mem ?_ ?_ ?_ a width
  · rw [State.endEntry_eq slot]
  · rw [State.endEntry_eq slot, State.endBatch_eq, State.endingMarked_eq]
  · rw [State.endEntry_eq slot, State.endBatch_eq, State.endingMarked_eq]

end

end Sys2Proof.Machine
end

section
/-! SUPPORT. How several entries of a lane end, one after the other: PARK's and a halt's emptying of a queue (R46, R47, R167). -/

namespace Sys2Proof.Machine

/-! ### The batch and the causes -/

/-- A batch that is not CLOSING is left in its state, and a CLOSING one ends or stays. -/
theorem Batch.afterAll_state (b : Batch) (endings : List Ending) :
    (b.afterAll endings).state = b.state ∨ b.state = .closing ∧ (b.afterAll endings).state = .none := by
  induction endings generalizing b with
  | nil => exact .inl rfl
  | cons x xs ih =>
    rw [Batch.afterAll_cons]
    have one : (b.afterAll [x]).state = b.state ∨ b.state = .closing ∧ (b.afterAll [x]).state = .none := by
      cases slot : x.entry.slot with
      | none => exact .inl (congrArg Batch.state (Batch.afterAll_slotless slot))
      | some index =>
        rw [Batch.afterAll_slotted slot, Batch.ended]
        split
        case isTrue ends => exact .inr ⟨ends.1, rfl⟩
        case isFalse => exact .inl rfl
    rcases ih (b.afterAll [x]) with same | ⟨closing, none⟩
    · rwa [same]
    · rcases one with same | ⟨closing, ended⟩
      · exact .inr ⟨same ▸ closing, none⟩
      · exact .inr ⟨closing, none⟩

theorem Batch.afterAll_overflow (b : Batch) (endings : List Ending) : (b.afterAll endings).overflow = b.overflow := by
  induction endings generalizing b with
  | nil => rfl
  | cons x xs ih =>
    rw [Batch.afterAll_cons, ih]
    cases slot : x.entry.slot with
    | none => rw [Batch.afterAll_slotless slot]
    | some index =>
      rw [Batch.afterAll_slotted slot, Batch.ended]
      split <;> rfl

theorem slotted_cons_none {x : Ending} (slot : x.entry.slot = none) (xs : List Ending) : slotted (x :: xs) = slotted xs := by
  simp [slotted, slot]

theorem slotted_cons_some {x : Ending} {index : Nat} (slot : x.entry.slot = some index) (xs : List Ending) :
    slotted (x :: xs) = x :: slotted xs := by
  simp [slotted, slot]

theorem slot_of_unslotted {endings : List Ending} (unslotted : slotted endings = []) {x : Ending} (hx : x ∈ endings) :
    x.entry.slot = none := by
  have no := List.filter_eq_nil_iff.mp unslotted x hx
  simpa using no

/-- Endings without a slot are not counted (R44). -/
theorem Batch.afterAll_unslotted {b : Batch} {endings : List Ending} (unslotted : slotted endings = []) :
    b.afterAll endings = b := by
  induction endings with
  | nil => rfl
  | cons x xs ih =>
    have slot := slot_of_unslotted unslotted List.mem_cons_self
    rw [slotted_cons_none slot] at unslotted
    rw [Batch.afterAll_cons, Batch.afterAll_slotless slot, ih unslotted]

/-- The sequence number a lane shows as last DONE after some endings. -/
def lastDoneAfter (last : Option Nat) (endings : List Ending) : Option Nat :=
  (((slotted endings).getLast?).map (fun x => x.entry.seq)).or last

theorem lastDoneAfter_cons (last : Option Nat) (x : Ending) (xs : List Ending) :
    lastDoneAfter last (x :: xs) = lastDoneAfter (lastDoneAfter last [x]) xs := by
  unfold lastDoneAfter
  cases slot : x.entry.slot with
  | none =>
    rw [slotted_cons_none slot, slotted_cons_none slot]
    rfl
  | some index =>
    rw [slotted_cons_some slot, slotted_cons_some slot]
    cases rest : slotted xs with
    | nil => rfl
    | cons y ys => simp [List.getLast?_cons, slotted]

theorem mem_endingCauses {lane : Lane} {b : Batch} {endings : List Ending} {c : Cause} :
    c ∈ endingCauses lane b endings
      ↔ slotted endings ≠ [] ∧ c = slotDoneCause lane ∨ (b.state = .closing ∧ (b.afterAll endings).state = .none) ∧ c = .batchDone := by
  unfold endingCauses
  rw [List.mem_append]
  refine or_congr ?_ ?_
  · cases slotted endings <;> simp
  · split <;> simp [*]

/-- A batch ends with some endings or with those after them. -/
theorem Batch.afterAll_ends_cons (b : Batch) (x : Ending) (xs : List Ending) :
    (b.state = .closing ∧ (b.afterAll (x :: xs)).state = .none)
      ↔ (b.state = .closing ∧ (b.afterAll [x]).state = .none)
        ∨ ((b.afterAll [x]).state = .closing ∧ ((b.afterAll [x]).afterAll xs).state = .none) := by
  have first := b.afterAll_state [x]
  have rest := (b.afterAll [x]).afterAll_state xs
  rw [Batch.afterAll_cons]
  constructor
  · rintro ⟨closing, none⟩
    rcases first with same | ended
    · exact .inr ⟨same.trans closing, none⟩
    · exact .inl ended
  · rintro (⟨closing, none⟩ | ⟨closing, none⟩)
    · refine ⟨closing, ?_⟩
      rcases rest with same | ⟨closing, -⟩
      · exact same.trans none
      · exact nomatch none.symm.trans closing
    · refine ⟨?_, none⟩
      rcases first with same | ⟨was, -⟩
      · exact same.symm.trans closing
      · exact was

/-- The causes of one ending and of those after it are the causes of all. -/
theorem mem_endingCauses_cons (lane : Lane) (b : Batch) (x : Ending) (xs : List Ending) (c : Cause) :
    c ∈ endingCauses lane b (x :: xs) ↔ c ∈ endingCauses lane b [x] ∨ c ∈ endingCauses lane (b.afterAll [x]) xs := by
  have any : slotted (x :: xs) ≠ [] ↔ slotted [x] ≠ [] ∨ slotted xs ≠ [] := by
    cases slot : x.entry.slot with
    | none =>
      have alone : slotted [x] = [] := slotted_cons_none slot []
      rw [slotted_cons_none slot, alone]
      simp
    | some index => simp [slotted_cons_some slot]
  rw [mem_endingCauses, mem_endingCauses, mem_endingCauses, any, Batch.afterAll_ends_cons]
  tauto

/-! ### Some entries ended -/

/-- The bytes that some endings write, the status block apart. -/
def State.endedBytes (s : State) (lane : Lane) (endings : List Ending) : List (Nat × Nat) :=
  endings.flatMap (fun x =>
      match x.entry.slot with
      | none => []
      | some index =>
        let at_ := slotAddress lane index
        [(at_, 1), (at_ + 0x02, 2), (s.overflowByteAddress lane index, 1), (at_ + 0x32, 2)])
    ++ (if (s.tracker lane).batch.state = .closing then [(summaryAddress lane, 64)] else [])

/-- Some entries of a lane have ended: their slots show it, and their batch has counted them. -/
structure State.Ended (s t : State) (lane : Lane) (endings : List Ending) : Prop where
  frame : t.order = s.order ∧ t.calendar = s.calendar
  batch : (t.tracker lane).batch = (s.tracker lane).batch.afterAll endings
  lastDone : (t.tracker lane).lastDone = lastDoneAfter (s.tracker lane).lastDone endings
  shown : endings.Pairwise (fun x y => x.entry.slot = none ∨ x.entry.slot ≠ y.entry.slot) →
    ∀ x ∈ endings, s.ShowsEnding t lane x
  summary : (s.tracker lane).batch.state = .closing → 0 < (s.tracker lane).batch.inFlight →
    (s.tracker lane).batch.inFlight = (slotted endings).length →
    t.ShowsSummary lane ((s.tracker lane).batch.afterAll endings) s.calendar.stamp
  unchanged : UnchangedOutside (s.endedBytes lane endings) s t

theorem State.Ended.refl (s : State) (lane : Lane) : s.Ended s lane [] :=
  ⟨⟨rfl, rfl⟩, rfl, rfl, (fun _ _ hx => nomatch hx), fun _ some none => absurd none some.ne', .of_mem _ rfl rfl⟩

theorem State.Ended.overflow {s t : State} {lane : Lane} {endings : List Ending} (h : s.Ended t lane endings) :
    (t.tracker lane).batch.overflow = (s.tracker lane).batch.overflow := by
  rw [h.batch]
  exact Batch.afterAll_overflow _ _

/-- An ending's slot, left alone, shows it still. -/
theorem State.ShowsEnding.of_unchanged {s t u : State} {lane : Lane} {x : Ending} (h : s.ShowsEnding t lane x)
    (order : u.order = t.order) (same : ∀ index, x.entry.slot = some index → ∀ a, slotAddress lane index ≤ a →
      a < slotAddress lane index + 64 → u.readByte a = t.readByte a) : s.ShowsEnding u lane x := by
  intro index slot
  obtain ⟨done, outcome, cause, presence, overflow⟩ := h index slot
  have field (a width : Nat) (low : slotAddress lane index ≤ a) (high : a + width ≤ slotAddress lane index + 64) :
      u.readField a width = t.readField a width :=
    readField_congr a width order fun k hk => same index slot _ (by omega) (by omega)
  have bounds := overflowByteAddress_bounds s lane index
  refine ⟨?_, (field _ _ (by omega) (by omega)).trans outcome, fun c given => (field _ _ (by omega) (by omega)).trans (cause c given),
    (field _ _ (by omega) (by omega)).trans presence, (same index slot _ (by omega) (by omega)).trans overflow⟩
  rw [State.slotIs, same index slot _ le_rfl (by omega)]
  exact done

/-- Another base with the same bus order and overflow bit shows the same ending. -/
theorem State.ShowsEnding.of_base {s t u : State} {lane : Lane} {x : Ending} (h : t.ShowsEnding u lane x) (order : t.order = s.order)
    (overflow : (t.tracker lane).batch.overflow = (s.tracker lane).batch.overflow) : s.ShowsEnding u lane x := by
  have address (index : Nat) : t.overflowByteAddress lane index = s.overflowByteAddress lane index := by
    rw [State.overflowByteAddress, order]
    rfl
  unfold State.ShowsEnding at h ⊢
  simp only [address, overflow] at h
  exact h

/-- The bytes that the end of one entry writes in its slot are no bytes of another slot. -/
theorem slot_ranges_apart {s : State} {lane : Lane} {i j : Nat} {r : Nat × Nat} {a : Nat} (away : j ≠ i)
    (hr : r ∈ [(slotAddress lane j, 1), (slotAddress lane j + 0x02, 2), (s.overflowByteAddress lane j, 1),
      (slotAddress lane j + 0x32, 2)]) (low : slotAddress lane i ≤ a) (high : a < slotAddress lane i + 64) (inside : Within r a) :
    False := by
  have bounds := overflowByteAddress_bounds s lane j
  obtain ⟨above, below⟩ := inside
  simp only [slotAddress] at *
  simp only [List.mem_cons, List.not_mem_nil, or_false] at hr
  rcases hr with rfl | rfl | rfl | rfl <;> dsimp only at above below <;> omega

theorem summary_range_below {p : Prop} [Decidable p] {of lane : Lane} {i : Nat} {r : Nat × Nat} {a : Nat}
    (hr : r ∈ if p then [(summaryAddress of, 64)] else []) (low : slotAddress lane i ≤ a) (inside : Within r a) : False := by
  split at hr
  · rw [List.mem_singleton.mp hr] at inside
    exact absurd inside.2 (Nat.not_lt.mpr ((summaryAddress_below of lane i).trans low))
  · cases hr

section
variable {s t u : State} {lane : Lane} {x : Ending} {xs : List Ending} (h : s.Ended t lane [x]) (h' : t.Ended u lane xs)
include h h'

theorem State.Ended.shown_cons (apart : (x :: xs).Pairwise (fun x y => x.entry.slot = none ∨ x.entry.slot ≠ y.entry.slot))
    {y : Ending} (hy : y ∈ x :: xs) : s.ShowsEnding u lane y := by
  obtain ⟨first, rest⟩ := List.pairwise_cons.mp apart
  rcases List.mem_cons.mp hy with rfl | hy
  · refine (h.shown (List.pairwise_singleton _ _) y (List.mem_singleton_self _)).of_unchanged h'.frame.1 fun index slot a low high => ?_
    refine h'.unchanged a fun r hr inside => ?_
    rcases List.mem_append.mp hr with hr | hr
    · obtain ⟨z, hz, hr⟩ := List.mem_flatMap.mp hr
      cases other : z.entry.slot with
      | none =>
        rw [other] at hr
        cases hr
      | some j =>
        have away : j ≠ index := by
          rintro rfl
          exact (first z hz).elim (fun none => nomatch none.symm.trans slot) fun ne => ne (slot.trans other.symm)
        rw [other] at hr
        exact slot_ranges_apart away hr low high inside
    · exact summary_range_below hr low inside
  · exact (h'.shown rest y hy).of_base h.frame.1 h.overflow

theorem State.Ended.summary_cons (closing : (s.tracker lane).batch.state = .closing) (flying : 0 < (s.tracker lane).batch.inFlight)
    (count : (s.tracker lane).batch.inFlight = (slotted (x :: xs)).length) :
    u.ShowsSummary lane ((s.tracker lane).batch.afterAll (x :: xs)) s.calendar.stamp := by
  cases slot : x.entry.slot with
  | none =>
    have same : (t.tracker lane).batch = (s.tracker lane).batch := h.batch.trans (Batch.afterAll_slotless slot)
    rw [slotted_cons_none slot] at count
    have summary := h'.summary (same ▸ closing) (same ▸ flying) (same ▸ count)
    rw [h.frame.2, h.batch] at summary
    exact summary
  | some index =>
    have counted : (t.tracker lane).batch = ((s.tracker lane).batch.after x.outcome (x.entry.held.getD 0)).ended :=
      h.batch.trans (Batch.afterAll_slotted slot)
    rw [slotted_cons_some slot, List.length_cons] at count
    have flies : ((s.tracker lane).batch.after x.outcome (x.entry.held.getD 0)).inFlight = (slotted xs).length := by
      show (s.tracker lane).batch.inFlight - 1 = _
      rw [count]
      rfl
    cases others : slotted xs with
    | nil =>
      rw [others] at count flies
      have alone : slotted [x] = [x] := slotted_cons_some slot []
      have summary := h.summary closing flying (by rw [count, alone]; rfl)
      have gone : (t.tracker lane).batch.state ≠ .closing := by
        rw [counted, Batch.ended, if_pos ⟨closing, flies⟩]
        nofun
      rw [Batch.afterAll_cons, Batch.afterAll_unslotted others]
      refine summary.of_reads fun a width low high => h'.unchanged.readField h'.frame.1 fun r hr => .inl ?_
      unfold State.endedBytes at hr
      rw [if_neg gone, List.append_nil] at hr
      obtain ⟨z, hz, hr⟩ := List.mem_flatMap.mp hr
      have none : z.entry.slot = none := slot_of_unslotted others hz
      rw [none] at hr
      cases hr
    | cons z zs =>
      rw [others] at flies
      have still : (t.tracker lane).batch = (s.tracker lane).batch.after x.outcome (x.entry.held.getD 0) := by
        rw [counted, Batch.ended, if_neg fun ends => ?_]
        exact absurd (flies.symm.trans ends.2) (Nat.succ_ne_zero _)
      have summary := h'.summary (still ▸ closing) (by rw [still, flies]; exact Nat.succ_pos _) (by rw [still, flies, others])
      rw [h.frame.2, h.batch] at summary
      exact summary

theorem State.Ended.unchanged_cons : UnchangedOutside (s.endedBytes lane (x :: xs)) s u := by
  refine (h.unchanged.mono fun r hr => ⟨r, ?_, le_rfl, le_rfl⟩).trans (h'.unchanged.mono fun r hr => ⟨r, ?_, le_rfl, le_rfl⟩)
  · unfold State.endedBytes at hr ⊢
    rw [List.flatMap_cons, List.append_assoc]
    rcases List.mem_append.mp hr with hr | hr
    · refine List.mem_append_left _ ?_
      simpa using hr
    · exact List.mem_append_right _ (List.mem_append_right _ hr)
  · have address (index : Nat) : t.overflowByteAddress lane index = s.overflowByteAddress lane index := by
      rw [State.overflowByteAddress, h.frame.1]
      rfl
    unfold State.endedBytes at hr ⊢
    simp only [address] at hr
    rw [List.flatMap_cons, List.append_assoc]
    rcases List.mem_append.mp hr with hr | hr
    · exact List.mem_append_right _ (List.mem_append_left _ hr)
    · refine List.mem_append_right _ (List.mem_append_right _ ?_)
      split at hr
      case isTrue closes =>
        have state := (s.tracker lane).batch.afterAll_state [x]
        rw [← h.batch] at state
        have was : (s.tracker lane).batch.state = .closing := by
          rcases state with same | ⟨closing, -⟩
          · exact same.symm.trans closes
          · exact closing
        rwa [if_pos was]
      case isFalse => cases hr

theorem State.Ended.cons : s.Ended u lane (x :: xs) :=
  ⟨⟨h'.frame.1.trans h.frame.1, h'.frame.2.trans h.frame.2⟩,
    h'.batch.trans (by rw [h.batch, Batch.afterAll_cons]; rfl),
    h'.lastDone.trans (by rw [h.lastDone, lastDoneAfter_cons _ x xs]),
    fun apart _ hy => h.shown_cons h' apart hy, h.summary_cons h', h.unchanged_cons h'⟩

end

/-- The same endings from another base with the same memory, batch and stamp. -/
theorem State.Ended.of_base {s s' t : State} {lane : Lane} {endings : List Ending} (h : s.Ended t lane endings)
    (frame : s.order = s'.order ∧ s.calendar = s'.calendar) (batch : (s.tracker lane).batch = (s'.tracker lane).batch)
    (last : (s.tracker lane).lastDone = (s'.tracker lane).lastDone) (memory : UnchangedOutside [] s' s) :
    s'.Ended t lane endings := by
  have address (index : Nat) : s.overflowByteAddress lane index = s'.overflowByteAddress lane index := by
    rw [State.overflowByteAddress, frame.1]
    rfl
  have bytes : s.endedBytes lane endings = s'.endedBytes lane endings := by
    unfold State.endedBytes
    simp only [address, batch]
  refine ⟨⟨h.frame.1.trans frame.1, h.frame.2.trans frame.2⟩, batch ▸ h.batch, last ▸ h.lastDone,
    fun apart y hy => (h.shown apart y hy).of_base frame.1 (congrArg Batch.overflow batch), ?_, ?_⟩
  · rw [← batch, ← frame.2]
    exact h.summary
  · exact (memory.mono nofun).trans (bytes ▸ h.unchanged)

/-- The same endings, with the rest of the state changed after them. -/
theorem State.Ended.of_end {s t t' : State} {lane : Lane} {endings : List Ending} (h : s.Ended t lane endings)
    (frame : t'.order = t.order ∧ t'.calendar = t.calendar) (batch : (t'.tracker lane).batch = (t.tracker lane).batch)
    (last : (t'.tracker lane).lastDone = (t.tracker lane).lastDone) (memory : UnchangedOutside [] t t') :
    s.Ended t' lane endings := by
  have same (a width : Nat) : t'.readField a width = t.readField a width := memory.readField frame.1 nofun
  exact ⟨⟨frame.1.trans h.frame.1, frame.2.trans h.frame.2⟩, batch.trans h.batch, last.trans h.lastDone,
    fun apart y hy => (h.shown apart y hy).of_unchanged frame.1 fun _ _ a _ _ => memory a nofun,
    fun closing flying count => (h.summary closing flying count).of_reads fun a width _ _ => same a width,
    h.unchanged.trans (memory.mono nofun)⟩

end Sys2Proof.Machine
end

section
/-! SUPPORT. The end of one entry, of a queue, and the emptying of a halted lane (R44 to R47). -/

namespace Sys2Proof.Machine

/-- Some entries of a lane have ended, and nothing else but the lane's queue has changed: their causes are raised. -/
structure State.EndedAll (s t : State) (lane : Lane) (endings : List Ending) : Prop where
  ended : s.Ended t lane endings
  rest : t = { s with mem := t.mem, dirty := t.dirty, notices := t.notices, lanes := s.lanes.set lane (t.tracker lane) }
  tracker : t.tracker lane = { s.tracker lane with
    queue := (t.tracker lane).queue, batch := (s.tracker lane).batch.afterAll endings
    lastDone := lastDoneAfter (s.tracker lane).lastDone endings }
  raised : s.notices.Raised t.notices (endingCauses lane (s.tracker lane).batch endings)

theorem State.EndedAll.refl (s : State) (lane : Lane) : s.EndedAll s lane [] := by
  refine ⟨.refl s lane, ?_, rfl, ⟨rfl, rfl, fun c => ?_⟩⟩
  · have same : s.lanes.set lane (s.tracker lane) = s.lanes := PerLane.set_get ..
    exact congrArg (fun lanes => { s with lanes := lanes }) same.symm
  · have no : c ∉ endingCauses lane (s.tracker lane).batch [] := by
      rw [mem_endingCauses]
      rintro (⟨any, -⟩ | ⟨⟨closing, ended⟩, -⟩)
      · exact any rfl
      · exact nomatch closing.symm.trans ended
    simp [no]

/-- A summary does not show the batch's state. -/
theorem State.ShowsSummary.of_ended {t : State} {lane : Lane} {b : Batch} {closed : Stamp} (h : t.ShowsSummary lane b closed) :
    t.ShowsSummary lane b.ended closed := by
  unfold Batch.ended
  split
  · exact h
  · exact h

theorem Batch.ended_iff {b c : Batch} (state : c.state = b.state) :
    (b.state = .closing ∧ c.ended.state = .none) ↔ b.state = .closing ∧ c.inFlight = 0 := by
  refine and_congr_right fun closing => ?_
  have closes : c.state = .closing := state.trans closing
  unfold Batch.ended
  split
  case isTrue ends => simp [ends.2]
  case isFalse open_ =>
    have flying : c.inFlight ≠ 0 := fun empty => open_ ⟨closes, empty⟩
    simp [closes, flying]

theorem State.endedAll_endEntry (s : State) (lane : Lane) (x : Ending) :
    s.EndedAll (s.endEntry lane x.entry x.outcome x.cause) lane [x] := by
  cases slot : x.entry.slot with
  | none =>
    have alone : slotted [x] = [] := slotted_cons_none slot []
    have eq : s.endEntry lane x.entry x.outcome x.cause = s.onTracker lane (fun t => t.remove x.entry.seq) := by
      unfold State.endEntry
      rw [slot]
    have tracker : (s.endEntry lane x.entry x.outcome x.cause).tracker lane = (s.tracker lane).remove x.entry.seq := by
      rw [eq]
      exact tracker_setTracker s lane _
    have unchanged (ranges : List (Nat × Nat)) : UnchangedOutside ranges s (s.endEntry lane x.entry x.outcome x.cause) := by
      rw [eq]
      exact .of_mem _ rfl rfl
    refine ⟨⟨?_, ?_, ?_, fun _ y hy => ?_, fun _ some none => ?_, unchanged _⟩, ?_, ?_, ⟨?_, ?_, fun c => ?_⟩⟩
    · rw [eq]
      exact ⟨rfl, rfl⟩
    · rw [tracker, Batch.afterAll_slotless slot]
      rfl
    · rw [tracker, lastDoneAfter, alone]
      rfl
    · rw [List.mem_singleton.mp hy]
      exact fun index some => nomatch slot.symm.trans some
    · rw [alone] at none
      exact absurd none some.ne'
    · rw [tracker, eq]
      rfl
    · rw [tracker, Batch.afterAll_slotless slot, lastDoneAfter, alone]
      rfl
    · rw [eq]
      rfl
    · rw [eq]
      rfl
    · have no : c ∉ endingCauses lane (s.tracker lane).batch [x] := by
        rw [mem_endingCauses, alone, Batch.afterAll_slotless slot]
        rintro (⟨any, -⟩ | ⟨⟨closing, ended⟩, -⟩)
        · exact any rfl
        · exact nomatch closing.symm.trans ended
      rw [eq]
      simp [no]
  | some index =>
    have alone : slotted [x] = [x] := slotted_cons_some slot []
    have eq := State.endEntry_eq (s := s) (lane := lane) slot
    have tracker : (s.endEntry lane x.entry x.outcome x.cause).tracker lane = (s.tracker lane).endedOne x := by
      rw [eq]
      exact tracker_setTracker s lane _
    refine ⟨⟨?_, ?_, ?_, fun _ y hy => ?_, fun closing flying count => ?_, ?_⟩, ?_, ?_, ⟨?_, ?_, fun c => ?_⟩⟩
    · rw [eq]
      exact ⟨rfl, rfl⟩
    · rw [tracker, Batch.afterAll_slotted slot]
      rfl
    · rw [tracker, lastDoneAfter, alone]
      rfl
    · rw [List.mem_singleton.mp hy]
      exact State.showsEnding_endEntry slot
    · have last : ((s.tracker lane).batch.after x.outcome (x.entry.held.getD 0)).inFlight = 0 := by
        rw [alone] at count
        show (s.tracker lane).batch.inFlight - 1 = 0
        rw [count]
        rfl
      rw [Batch.afterAll_slotted slot]
      exact State.ShowsSummary.of_ended (State.showsSummary_endEntry slot closing last)
    · refine (State.unchangedOutside_endEntry slot).mono fun r hr => ⟨r, ?_, le_rfl, le_rfl⟩
      unfold State.endingRanges at hr
      unfold State.endedBytes
      simp only [List.flatMap_cons, List.flatMap_nil, List.append_nil, slot]
      rcases List.mem_append.mp hr with hr | hr
      · exact List.mem_append_left _ hr
      · refine List.mem_append_right _ ?_
        split at hr
        case isTrue closes => rwa [if_pos closes.1]
        case isFalse => cases hr
    · rw [tracker, eq]
    · rw [tracker, Batch.afterAll_slotted slot, lastDoneAfter, alone]
      rfl
    · rw [eq]
      dsimp only
      split <;> rfl
    · rw [eq]
      dsimp only
      split <;> rfl
    · have ends : ((s.tracker lane).batch.state = .closing ∧ ((s.tracker lane).batch.afterAll [x]).state = .none)
          ↔ (s.tracker lane).batch.state = .closing
            ∧ ((s.tracker lane).batch.after x.outcome (x.entry.held.getD 0)).inFlight = 0 := by
        rw [Batch.afterAll_slotted slot]
        exact Batch.ended_iff rfl
      have member := mem_endingCauses (lane := lane) (b := (s.tracker lane).batch) (endings := [x]) (c := c)
      rw [ends, alone] at member
      rw [eq]
      dsimp only
      split
      case isTrue closes =>
        have causes : c ∈ endingCauses lane (s.tracker lane).batch [x] ↔ slotDoneCause lane = c ∨ .batchDone = c := by
          rw [member, eq_comm (a := c), eq_comm (a := c)]
          simp [closes]
        rw [Notices.flag_raise, Notices.flag_raise, Bool.or_assoc, ← Bool.decide_or]
        simp only [causes]
      case isFalse open_ =>
        have causes : c ∈ endingCauses lane (s.tracker lane).batch [x] ↔ slotDoneCause lane = c := by
          rw [member, eq_comm (a := c)]
          simp only [open_, false_and, or_false]
          simp
        rw [Notices.flag_raise]
        simp only [causes]

theorem ended_trans {s t u : State} {lane : Lane} {m m' : Memory} {d d' : Groups} {n n' : Notices} {r r' : Tracker}
    (h : t = { s with mem := m, dirty := d, notices := n, lanes := s.lanes.set lane r })
    (h' : u = { t with mem := m', dirty := d', notices := n', lanes := t.lanes.set lane r' }) :
    u = { s with mem := m', dirty := d', notices := n', lanes := s.lanes.set lane r' } := by
  subst h
  rw [h', PerLane.set_set]

theorem tracker_ended_trans {r r' r'' : Tracker} {q q' : List TrackEntry} {x : Ending} {xs : List Ending}
    (h : r' = { r with queue := q, batch := r.batch.afterAll [x], lastDone := lastDoneAfter r.lastDone [x] })
    (h' : r'' = { r' with queue := q', batch := r'.batch.afterAll xs, lastDone := lastDoneAfter r'.lastDone xs }) :
    r'' = { r with queue := q', batch := r.batch.afterAll (x :: xs), lastDone := lastDoneAfter r.lastDone (x :: xs) } := by
  subst h
  rw [h', Batch.afterAll_cons r.batch x xs, lastDoneAfter_cons r.lastDone x xs]

theorem State.EndedAll.cons {s t u : State} {lane : Lane} {x : Ending} {xs : List Ending} (h : s.EndedAll t lane [x])
    (h' : t.EndedAll u lane xs) : s.EndedAll u lane (x :: xs) := by
  refine ⟨h.ended.cons h'.ended, ended_trans h.rest h'.rest, tracker_ended_trans h.tracker h'.tracker, ?_, ?_, fun c => ?_⟩
  · exact h'.raised.1.trans h.raised.1
  · exact h'.raised.2.1.trans h.raised.2.1
  · have causes := mem_endingCauses_cons lane (s.tracker lane).batch x xs c
    rw [h'.raised.2.2, h.raised.2.2, h.ended.batch, Bool.or_assoc, ← Bool.decide_or]
    simp only [causes]

/-! ### A whole queue -/

/-- How PARK and a halt end an entry, said twice the same (R46, R47). -/
theorem TrackEntry.endedFor_eq (e : TrackEntry) (cause : DivertCause) :
    e.endedFor cause = { entry := e, outcome := (endingOf e cause).1, cause := (endingOf e cause).2 } := by
  unfold TrackEntry.endedFor TrackEntry.debited endingOf
  cases e.stage <;> rfl

theorem State.endedAll_endEntries (s : State) (lane : Lane) (otherwise : DivertCause) (es : List TrackEntry) :
    s.EndedAll (s.endEntries lane otherwise es) lane (es.map (fun e => e.endedFor otherwise)) := by
  induction es generalizing s with
  | nil => exact .refl s lane
  | cons e es ih =>
    have one := s.endedAll_endEntry lane (e.endedFor otherwise)
    rw [TrackEntry.endedFor_eq] at one
    rw [List.map_cons, TrackEntry.endedFor_eq]
    exact one.cons (ih _)

end Sys2Proof.Machine
end

section
/-! SUPPORT. A halted lane: its entries, the emptying of its queue, and the whole halt in the terms of `HaltsLane` (R45, R46). -/

namespace Sys2Proof.Machine

theorem TrackEntry.jam_eq_halted (e : TrackEntry) : e.jam = e.halted := by
  obtain ⟨seq, slot, batchId, position, distance, stage, cause⟩ := e
  cases stage <;> rfl

/-! ### A queue emptied -/

/-- A lane's queue is empty: its entries have ended as given, and nothing else but the lane has changed. -/
structure State.Emptied (s t : State) (lane : Lane) (endings : List Ending) (state : LaneState) (haltCause : Option HaltCause) :
    Prop where
  ended : s.Ended t lane endings
  rest : t = { s with mem := t.mem, dirty := t.dirty, notices := t.notices, lanes := s.lanes.set lane (t.tracker lane) }
  tracker : t.tracker lane = { s.tracker lane with
    state := state, haltCause := haltCause, queue := [], batch := (s.tracker lane).batch.afterAll endings
    lastDone := lastDoneAfter (s.tracker lane).lastDone endings }
  raised : s.notices.Raised t.notices (endingCauses lane (s.tracker lane).batch endings)

theorem State.touchLane_ends_eq {s t : State} {lane : Lane} {m : Memory} {d : Groups} {n : Notices} {r r' : Tracker}
    (h : t = { s with mem := m, dirty := d, notices := n, lanes := s.lanes.set lane r }) :
    (t.setTracker lane r').touchLane lane
      = { s with
          mem := m, dirty := ((t.setTracker lane r').touchLane lane).dirty, notices := n, lanes := s.lanes.set lane r' } := by
  subst h
  cases lane <;> rfl

theorem State.touchLane_setTracker_facts (s : State) (lane : Lane) (r : Tracker) :
    ((s.setTracker lane r).touchLane lane).tracker lane = r ∧ ((s.setTracker lane r).touchLane lane).mem = s.mem
      ∧ ((s.setTracker lane r).touchLane lane).order = s.order ∧ ((s.setTracker lane r).touchLane lane).calendar = s.calendar
      ∧ ((s.setTracker lane r).touchLane lane).powerOns = s.powerOns
      ∧ ((s.setTracker lane r).touchLane lane).notices = s.notices := by
  cases lane <;> exact ⟨rfl, rfl, rfl, rfl, rfl, rfl⟩

/-- A lane emptied of its whole queue and moved to another state. -/
theorem State.emptied_endEntries (s : State) (lane : Lane) (otherwise : DivertCause) (state : LaneState)
    (cause : Option HaltCause) :
    s.Emptied ((State.onTracker (s.endEntries lane otherwise (s.tracker lane).queue) lane
        fun t => { t with state := state, haltCause := cause }).touchLane lane) lane
      ((s.tracker lane).queue.map fun e => e.endedFor otherwise) state cause := by
  have all := s.endedAll_endEntries lane otherwise (s.tracker lane).queue
  have empty := queue_endEntries s lane otherwise
  generalize s.endEntries lane otherwise (s.tracker lane).queue = u at all empty
  unfold State.onTracker
  have eq := State.touchLane_ends_eq (r' := { u.tracker lane with state := state, haltCause := cause }) all.rest
  obtain ⟨tracker, memory, order, calendar, powered, notices⟩ :=
    State.touchLane_setTracker_facts u lane { u.tracker lane with state := state, haltCause := cause }
  generalize (u.setTracker lane { u.tracker lane with state := state, haltCause := cause }).touchLane lane = t at *
  refine ⟨all.ended.of_end ⟨order, calendar⟩ ?_ ?_ (.of_mem _ memory powered), ?_, ?_, ?_⟩
  · rw [tracker]
  · rw [tracker]
  · rw [tracker, memory, notices]
    exact eq
  · rw [tracker, all.tracker, empty]
  · rw [notices]
    exact all.raised

/-- The emptying of a HALTING lane with nothing outstanding (R46). -/
theorem State.emptyHalted_emptied {s : State} {lane : Lane} (halting : (s.tracker lane).state = .halting)
    (idle : (s.link lane).outstanding = none) :
    s.Emptied (s.emptyHalted lane) lane ((s.tracker lane).queue.map fun e => e.endedFor .jammed) .halted
      (s.tracker lane).haltCause := by
  have emptied := s.emptied_endEntries lane .jammed .halted (s.tracker lane).haltCause
  have cause : ((s.endEntries lane .jammed (s.tracker lane).queue).tracker lane).haltCause = (s.tracker lane).haltCause := by
    rw [(s.endedAll_endEntries lane .jammed (s.tracker lane).queue).tracker]
  have eq : s.emptyHalted lane = (State.onTracker (s.endEntries lane .jammed (s.tracker lane).queue) lane
      fun t => { t with state := .halted, haltCause := (s.tracker lane).haltCause }).touchLane lane := by
    unfold State.emptyHalted
    rw [if_pos ⟨halting, idle⟩]
    unfold State.onTracker
    rw [← cause]
  rw [eq]
  exact emptied

theorem State.emptyHalted_busy {s : State} {lane : Lane} (busy : (s.link lane).outstanding ≠ none) : s.emptyHalted lane = s :=
  if_neg fun h => busy h.2

theorem State.emptyHalted_other {s : State} {lane : Lane} (state : (s.tracker lane).state ≠ .halting) : s.emptyHalted lane = s :=
  if_neg fun h => state h.1

/-! ### Endings shown through a rewrite of the status block -/

/-- A slot lies above the status block and above both summaries. -/
theorem byte_above_statusBlock {a : Nat} (h : 0x0100 ≤ a) : ∀ r ∈ [statusBlock], ¬ Within r a := by
  intro r hr inside
  rw [List.mem_singleton.mp hr] at inside
  exact absurd inside.2 (by simpa [statusBlock] using h)

theorem summaryAddress_above (lane : Lane) : 0x0100 ≤ summaryAddress lane := by cases lane <;> decide

section
variable {s t u : State} {lane : Lane} {endings : List Ending}

/-- Endings are shown still when only the status block is written after them. -/
theorem State.ShowsEnding.of_status {x : Ending} (h : s.ShowsEnding t lane x) (order : u.order = t.order)
    (memory : UnchangedOutside [statusBlock] t u) : s.ShowsEnding u lane x :=
  h.of_unchanged order fun index _ a low _ =>
    memory a (byte_above_statusBlock (((by decide : 0x0100 ≤ 0x0800).trans (slotAddress_ge lane index)).trans low))

theorem State.ShowsSummary.of_status {b : Batch} {closed : Stamp} (h : t.ShowsSummary lane b closed) (order : u.order = t.order)
    (memory : UnchangedOutside [statusBlock] t u) : u.ShowsSummary lane b closed := by
  refine h.of_reads fun a width low _ => memory.readField order fun r hr => ?_
  rw [List.mem_singleton.mp hr]
  exact .inr ((summaryAddress_above lane).trans low)

theorem State.Ended.unchanged_status (h : s.Ended t lane endings) (memory : UnchangedOutside [statusBlock] t u) :
    UnchangedOutside (s.allEndingBytes lane endings) s u :=
  (h.unchanged.mono fun r hr => ⟨r, List.mem_cons_of_mem _ hr, le_rfl, le_rfl⟩).trans
    (memory.mono fun r hr => ⟨r, List.mem_singleton.mp hr ▸ List.mem_cons_self, le_rfl, le_rfl⟩)

end

/-! ### A halt -/

/-- The state of a halt before the queue is emptied (R45). -/
def State.haltBegun (s : State) (lane : Lane) (cause : HaltCause) : State :=
  { s with
    dirty := (State.touchLane (s.releaseLane lane) lane).dirty, notices := s.notices.raise (laneHaltCause lane)
    holds := s.holds.filter (fun h => h.lane != lane), takeQueue := s.takeQueue.filter (fun q => q.lane != lane)
    lanes := s.lanes.set lane { s.tracker lane with
      state := .halting, haltCause := some cause, queue := (s.tracker lane).queue.map TrackEntry.halted } }

theorem State.haltBegun_raised (s : State) (lane : Lane) (r : Tracker) (queue : List QueueEntry) (c : Cause) :
    ((State.releaseLane { s.setTracker lane r with takeQueue := queue } lane).touchLane lane).raise c
      = { s with
          dirty := (State.touchLane (s.releaseLane lane) lane).dirty, notices := s.notices.raise c
          holds := s.holds.filter (fun h => h.lane != lane), takeQueue := queue, lanes := s.lanes.set lane r } := by
  by_cases any : s.holds.any (fun h => h.lane == lane) = true
  · have moved : State.releaseLane { s.setTracker lane r with takeQueue := queue } lane = _ := if_pos any
    have here : s.releaseLane lane = _ := if_pos any
    rw [moved, here]
    cases lane <;> rfl
  · have moved : State.releaseLane { s.setTracker lane r with takeQueue := queue } lane = _ := if_neg any
    have here : s.releaseLane lane = _ := if_neg any
    have same : s.holds.filter (fun h => h.lane != lane) = s.holds := by
      refine List.filter_eq_self.mpr fun h hh => ?_
      simpa using fun of => any (List.any_eq_true.mpr ⟨h, hh, by simpa using of⟩)
    rw [moved, here, same]
    cases lane <;> rfl

theorem State.halt_begun {s : State} {lane : Lane} (tracks : (s.tracker lane).state.tracks = true) (cause : HaltCause) :
    s.halt lane cause = (s.haltBegun lane cause).emptyHalted lane := by
  have jam : TrackEntry.jam = TrackEntry.halted := funext TrackEntry.jam_eq_halted
  unfold State.halt
  rw [if_pos tracks, jam]
  exact congrArg (fun t => State.emptyHalted t lane) (s.haltBegun_raised lane _ _ _)

theorem State.haltBegun_frame (s : State) (lane : Lane) (cause : HaltCause) :
    (s.haltBegun lane cause).tracker lane = { s.tracker lane with
        state := .halting, haltCause := some cause, queue := (s.tracker lane).queue.map TrackEntry.halted }
      ∧ (s.haltBegun lane cause).link lane = s.link lane ∧ (s.haltBegun lane cause).mem = s.mem
      ∧ (s.haltBegun lane cause).order = s.order ∧ (s.haltBegun lane cause).calendar = s.calendar := by
  cases lane <;> exact ⟨rfl, rfl, rfl, rfl, rfl⟩

/-- A halt on a queue that its event has just counted or found full. -/
def State.haltedOn (s : State) (lane : Lane) (cause : HaltCause) (queue : List TrackEntry) : State :=
  (s.setTracker lane { s.tracker lane with queue := queue }).haltBegun lane cause

theorem State.haltedOn_eq (s : State) (lane : Lane) (cause : HaltCause) (queue : List TrackEntry) :
    s.haltedOn lane cause queue
      = { s with
          dirty := (s.haltedOn lane cause queue).dirty, notices := s.notices.raise (laneHaltCause lane)
          holds := s.holds.filter (fun h => h.lane != lane), takeQueue := s.takeQueue.filter (fun q => q.lane != lane)
          lanes := s.lanes.set lane { s.tracker lane with
            state := .halting, haltCause := some cause, queue := queue.map TrackEntry.halted } } := by
  cases lane <;> rfl

theorem State.haltedOn_frame (s : State) (lane : Lane) (cause : HaltCause) (queue : List TrackEntry) :
    (s.haltedOn lane cause queue).tracker lane = { s.tracker lane with
        state := .halting, haltCause := some cause, queue := queue.map TrackEntry.halted }
      ∧ (s.haltedOn lane cause queue).link lane = s.link lane ∧ (s.haltedOn lane cause queue).mem = s.mem
      ∧ (s.haltedOn lane cause queue).order = s.order ∧ (s.haltedOn lane cause queue).calendar = s.calendar
      ∧ (s.haltedOn lane cause queue).powerOns = s.powerOns := by
  cases lane <;> exact ⟨rfl, rfl, rfl, rfl, rfl, rfl⟩

theorem Notices.raised_raise (n : Notices) (c : Cause) : n.Raised (n.raise c) [c] := by
  refine ⟨rfl, rfl, fun d => ?_⟩
  rw [Notices.flag_raise]
  simp [eq_comm]

theorem Notices.Raised.cons {n m p : Notices} {c : Cause} {cs : List Cause} (h : n.Raised m [c]) (h' : m.Raised p cs) :
    n.Raised p (c :: cs) := by
  refine ⟨h'.1.trans h.1, h'.2.1.trans h.2.1, fun d => ?_⟩
  rw [h'.2.2, h.2.2]
  simp [Bool.or_assoc]

/-- Emptied from a state that differs in the lane's queue, state and halt cause, the notices and what a halt releases. -/
theorem State.Emptied.ended_of_halt {s t : State} {lane : Lane} {cause : HaltCause} {queue : List TrackEntry}
    {endings : List Ending} {state : LaneState} {by_ : Option HaltCause}
    (h : (s.haltedOn lane cause queue).Emptied t lane endings state by_) :
    s.Ended t lane endings ∧ t.tracker lane = { s.tracker lane with
      state := state, haltCause := by_, queue := [], batch := (s.tracker lane).batch.afterAll endings
      lastDone := lastDoneAfter (s.tracker lane).lastDone endings } := by
  obtain ⟨tracker, -, memory, order, calendar, powered⟩ := s.haltedOn_frame lane cause queue
  refine ⟨h.ended.of_base ⟨order, calendar⟩ (by rw [tracker]) (by rw [tracker])
    (.of_mem _ memory powered), ?_⟩
  rw [h.tracker, tracker]

end Sys2Proof.Machine
end

section
/-! SUPPORT. A halt, in the terms of `HaltsLane`, and the two events of the belt that halt a lane (R31, R34, R45, R46). -/

namespace Sys2Proof.Machine

theorem ended_halt_trans {s b t : State} {lane : Lane} {d d' : Groups} {n n' : Notices} {hs : List Hold} {q : List QueueEntry}
    {m : Memory} {r r' : Tracker}
    (hb : b = { s with dirty := d, notices := n, holds := hs, takeQueue := q, lanes := s.lanes.set lane r })
    (ht : t = { b with mem := m, dirty := d', notices := n', lanes := b.lanes.set lane r' }) :
    t = { s with
      mem := m, dirty := d', notices := n', holds := hs, takeQueue := q, lanes := s.lanes.set lane r' } := by
  subst hb
  rw [ht, PerLane.set_set]

theorem flush_ended_eq {s t : State} {lane : Lane} {d : Groups} {n : Notices} {hs : List Hold} {q : List QueueEntry}
    {m : Memory} {r : Tracker} (clean : s.dirty = Groups.none)
    (ht : t = { s with mem := m, dirty := d, notices := n, holds := hs, takeQueue := q, lanes := s.lanes.set lane r }) :
    t.flush = { s with
      mem := t.flush.mem, generation := t.flush.generation, notices := n, holds := hs, takeQueue := q
      lanes := s.lanes.set lane r } := by
  refine (flush_eq t).trans ?_
  generalize t.flush = u
  rw [ht, ← clean]

section
variable {s : State} {lane : Lane} (cause : HaltCause) (queue : List TrackEntry)

/-- The halt of a lane whose link has an imprint outstanding: it waits in HALTING (R45). -/
theorem State.haltsLane_waiting (clean : s.dirty = Groups.none) (busy : (s.link lane).outstanding ≠ none) :
    s.HaltsLane ((s.haltedOn lane cause queue).emptyHalted lane).flush lane cause queue := by
  have eq := s.haltedOn_eq lane cause queue
  obtain ⟨tracker, link, memory, order, calendar, powered⟩ := s.haltedOn_frame lane cause queue
  rw [State.emptyHalted_busy (by rw [link]; exact busy)]
  have moved := flush_ended_eq (m := s.mem) clean eq
  have trackers : (s.haltedOn lane cause queue).flush.tracker lane = (s.haltedOn lane cause queue).tracker lane := by
    rw [State.tracker, (State.flush_frame _).2.2.2.2.2.2.2.2.2.2.2.1]
    rfl
  rw [tracker] at trackers
  have notices : (s.haltedOn lane cause queue).flush.notices = s.notices.raise (laneHaltCause lane) :=
    (congrArg State.notices moved).trans rfl
  have unchanged : UnchangedOutside [statusBlock] s (s.haltedOn lane cause queue).flush :=
    (UnchangedOutside.of_mem _ memory powered).trans (unchangedOutside_flush _)
  generalize (s.haltedOn lane cause queue).flush = t at *
  refine ⟨?_, ?_, ?_, congrArg State.holds moved, congrArg State.takeQueue moved, ?_, fun _ => ⟨trackers, ?_, unchanged⟩,
    fun idle => absurd idle busy⟩
  · rw [trackers]
    rfl
  · rw [trackers]
    rfl
  · rw [notices]
    exact Notices.flag_raise_same ..
  · rw [trackers, moved]
  · rw [notices]
    exact Notices.raised_raise ..

/-- The halt of a lane whose link has nothing outstanding: its queue is emptied (R46). -/
theorem State.haltsLane_emptied (clean : s.dirty = Groups.none) (idle : (s.link lane).outstanding = none) :
    s.HaltsLane ((s.haltedOn lane cause queue).emptyHalted lane).flush lane cause queue := by
  have eq := s.haltedOn_eq lane cause queue
  obtain ⟨tracker, link, -, -, -, -⟩ := s.haltedOn_frame lane cause queue
  have halting : ((s.haltedOn lane cause queue).tracker lane).state = .halting := by rw [tracker]
  have emptied := State.emptyHalted_emptied halting ((congrArg Link.outstanding link).trans idle)
  have endings : ((s.haltedOn lane cause queue).tracker lane).queue = queue.map TrackEntry.halted := by rw [tracker]
  have by_ : ((s.haltedOn lane cause queue).tracker lane).haltCause = some cause := by rw [tracker]
  rw [endings, by_] at emptied
  have raised := emptied.raised
  have batch : ((s.haltedOn lane cause queue).tracker lane).batch = (s.tracker lane).batch := by rw [tracker]
  have notices : (s.haltedOn lane cause queue).notices = s.notices.raise (laneHaltCause lane) := by rw [eq]
  rw [batch, notices] at raised
  obtain ⟨ended, trackers⟩ := emptied.ended_of_halt
  have moved := flush_ended_eq clean (ended_halt_trans eq emptied.rest)
  have memory := unchangedOutside_flush ((s.haltedOn lane cause queue).emptyHalted lane)
  have order : ((s.haltedOn lane cause queue).emptyHalted lane).flush.order
      = ((s.haltedOn lane cause queue).emptyHalted lane).order := (State.flush_frame _).2.2.2.2.1
  have lanes : ((s.haltedOn lane cause queue).emptyHalted lane).flush.tracker lane
      = ((s.haltedOn lane cause queue).emptyHalted lane).tracker lane := by
    rw [State.tracker, (State.flush_frame _).2.2.2.2.2.2.2.2.2.2.2.1]
    rfl
  clear emptied
  generalize (s.haltedOn lane cause queue).emptyHalted lane = t at *
  have all := (Notices.raised_raise s.notices (laneHaltCause lane)).cons raised
  have said : t.flush.notices = t.notices := by rw [moved]
  refine ⟨?_, ?_, ?_, by rw [moved], by rw [moved], ?_, fun busy => absurd idle busy, fun _ => ⟨⟨lanes.trans trackers, ?_, ?_⟩, ?_, ?_⟩⟩
  · rw [lanes, trackers]
    rfl
  · rw [lanes, trackers]
    rfl
  · rw [said, all.2.2]
    simp
  · rw [lanes]
    exact moved.trans (by rw [moved])
  · exact fun apart x hx => (ended.shown apart x hx).of_status order memory
  · exact fun closing flying count => (ended.summary closing flying count).of_status order memory
  · rw [said]
    exact all
  · exact ended.unchanged_status memory

theorem State.haltsLane (clean : s.dirty = Groups.none) (tracks : (s.tracker lane).state.tracks = true) :
    s.HaltsLane ((s.setTracker lane { s.tracker lane with queue := queue }).halt lane cause).flush lane cause queue := by
  have halt := State.halt_begun (s := s.setTracker lane { s.tracker lane with queue := queue })
    (show ((s.setTracker lane _).tracker lane).state.tracks = true by rw [tracker_setTracker]; exact tracks) cause
  rw [halt]
  by_cases idle : (s.link lane).outstanding = none
  · exact State.haltsLane_emptied cause queue clean idle
  · exact State.haltsLane_waiting cause queue clean idle

end

end Sys2Proof.Machine
end

section
/-! SUPPORT. An ENTRY tracked without a slot or that halts the lane (R34), and an encoder count (R30, R31). -/

namespace Sys2Proof.Machine

/-! ### The encoder -/

theorem any_pastLimit_count {c : LaneConfig} {queue : List TrackEntry} :
    (queue.map TrackEntry.count).any (TrackEntry.pastLimit c) = true
      ↔ ∃ e ∈ queue, e.position ≠ .exit ∧ e.distance = c.limit e.position := by
  rw [List.any_map, List.any_eq_true]
  refine exists_congr fun e => and_congr_right fun _ => ?_
  unfold Function.comp TrackEntry.pastLimit TrackEntry.count
  split
  case isTrue out => simp [out]
  case isFalse => simp

section
variable {s : State} {lane : Lane} (present : s.present lane = true) (tracks : (s.tracker lane).state.tracks = true)
include present tracks

theorem State.encoderCount_within
    (within : ∀ e ∈ (s.tracker lane).queue, e.position ≠ .exit → e.distance < (s.tracker lane).config.limit e.position) :
    s.encoderCount lane
      = s.setTracker lane { s.tracker lane with queue := (s.tracker lane).queue.map TrackEntry.count } := by
  have none : ¬ ((s.tracker lane).queue.map TrackEntry.count).any (TrackEntry.pastLimit (s.tracker lane).config) = true := by
    rw [any_pastLimit_count]
    rintro ⟨e, he, inside, at_⟩
    exact absurd at_ (within e he inside).ne
  unfold State.encoderCount
  simp only [present, tracks, Bool.and_self, if_true]
  rw [if_neg none]

theorem State.encoderCount_jams {e : TrackEntry} (he : e ∈ (s.tracker lane).queue) (inside : e.position ≠ .exit)
    (at_ : e.distance = (s.tracker lane).config.limit e.position) :
    s.encoderCount lane
      = (s.setTracker lane { s.tracker lane with queue := (s.tracker lane).queue.map TrackEntry.count }).halt lane .jam := by
  have past := any_pastLimit_count.mpr ⟨e, he, inside, at_⟩
  unfold State.encoderCount
  simp only [present, tracks, Bool.and_self, if_true]
  rw [if_pos past]

end

/-- Settles O22: a count moves every distance, and one past a limit halts the lane with what `State.haltsLane` says. -/
theorem encoderCountsDistanceOrJams : Obligations.EncoderCountsDistanceOrJams := by
  refine ⟨fun lane s ready present => ⟨fun tracks within => ?_, fun still => ?_⟩, fun lane s e ready present tracks he inside at_ => ?_⟩
  · have counts := State.encoderCount_within present tracks within
    exact exec_of_eventPlan_done_unmarked ready rfl (congrArg Plan.done counts) (by cases lane <;> rfl)
  · have counts : s.encoderCount lane = s := by simp [State.encoderCount, still]
    exact exec_of_eventPlan_done_unmarked ready rfl (congrArg Plan.done counts) rfl
  · have jams := State.encoderCount_jams present tracks he inside at_
    exact ⟨_, exec_of_eventPlan_done ready rfl (congrArg Plan.done jams), State.haltsLane .jam _ ready.2.2 tracks⟩

/-! ### ENTRY without a slot -/

theorem State.entryRefusal_of {s : State} {lane : Lane} {cause : DivertCause}
    (h : (s.tracker lane).state = .draining ∧ cause = .laneNotRunning
      ∨ (s.tracker lane).state ≠ .draining ∧ (s.tracker lane).batch.state ≠ .opened ∧ cause = .noBatch
      ∨ (s.tracker lane).state ≠ .draining ∧ (s.tracker lane).batch.state = .opened
        ∧ s.slotIs lane ((s.tracker lane).nextSeq % 32) .free = false ∧ cause = .slotOverrun) :
    s.entryRefusal lane = some cause := by
  unfold State.entryRefusal
  rcases h with ⟨draining, rfl⟩ | ⟨running, closed, rfl⟩ | ⟨running, opened, taken, rfl⟩
  · simp [draining]
  · simp [running, closed]
  · have taken : s.slotIs lane (slotIndex (s.tracker lane).nextSeq) .free = false := taken
    simp [running, opened, taken]

theorem State.enterWithoutSlot_eq (s : State) (lane : Lane) (cause : DivertCause) :
    s.enterWithoutSlot lane cause
      = { s with
          dirty := (s.touchLane lane).dirty
          notices := if cause = .slotOverrun then s.notices.raise .laneIrregular else s.notices
          lanes := s.lanes.set lane { (s.tracker lane).enter (TrackEntry.slotless (s.tracker lane).nextSeq cause) with
            overruns := if cause = .slotOverrun then count16 (s.tracker lane).overruns else (s.tracker lane).overruns } } := by
  unfold State.enterWithoutSlot
  by_cases overrun : cause = .slotOverrun
  · dsimp only
    rw [if_pos overrun, if_pos overrun, if_pos overrun]
    cases lane <;> rfl
  · dsimp only
    rw [if_neg overrun, if_neg overrun, if_neg overrun]
    cases lane <;> rfl

/-- A halt assigns no sequence number. -/
theorem State.HaltsLane.sequence {s t : State} {lane : Lane} {cause : HaltCause} {queue : List TrackEntry}
    (h : s.HaltsLane t lane cause queue) :
    (t.tracker lane).nextSeq = (s.tracker lane).nextSeq ∧ (t.tracker lane).lastAssigned = (s.tracker lane).lastAssigned := by
  obtain ⟨-, -, -, -, -, -, waits, empties⟩ := h
  by_cases idle : (s.link lane).outstanding = none
  · obtain ⟨⟨tracker, -, -⟩, -, -⟩ := empties idle
    rw [tracker]
    exact ⟨rfl, rfl⟩
  · obtain ⟨tracker, -, -⟩ := waits idle
    rw [tracker]
    exact ⟨rfl, rfl⟩

/-- Settles O16: `State.enterWithoutSlot_eq` under the first check that fails, and `State.haltsLane` on a full queue. -/
theorem entryWithoutASlot : Obligations.EntryWithoutASlot := by
  constructor
  · intro lane edge s ready senses r room cause first
    have enters : s.enter lane = s.enterWithoutSlot lane cause := by
      unfold State.enter
      rw [if_neg (show ¬ queueLimit ≤ (s.tracker lane).queue.length from Nat.not_le.mpr room), State.entryRefusal_of first]
    have eq := s.enterWithoutSlot_eq lane cause
    refine ⟨(s.enterWithoutSlot lane cause).flush, by rw [exec_entry_sensed ready senses, enters], ?_, ?_⟩
    · refine (flush_eq _).trans ?_
      generalize (s.enterWithoutSlot lane cause).flush = t
      rw [eq, ← ready.2.2]
      rfl
    · exact (UnchangedOutside.of_mem _ (by rw [eq]) (by rw [eq])).trans (unchangedOutside_flush _)
  · intro lane edge s ready senses full
    have enters : s.enter lane = (s.setTracker lane { s.tracker lane with queue := (s.tracker lane).queue }).halt lane .overfill := by
      have same : s.setTracker lane { s.tracker lane with queue := (s.tracker lane).queue } = s := by
        have kept : s.lanes.set lane (s.tracker lane) = s.lanes := PerLane.set_get ..
        exact congrArg (fun lanes => { s with lanes := lanes }) kept
      rw [same]
      exact if_pos full
    have halts := State.haltsLane .overfill (s.tracker lane).queue ready.2.2 senses.2.2
    exact ⟨_, by rw [exec_entry_sensed ready senses, enters], halts, halts.sequence⟩

end Sys2Proof.Machine
end

section
/-! SUPPORT. A PRINT event that only passes, refuses or finds the rating late (R40, R41, R117). -/

namespace Sys2Proof.Machine

theorem printPlan_sensed {s : State} {lane : Lane} {edge : Edge} (senses : s.Senses lane .print edge) :
    printPlan lane edge s = s.printPhotocell lane := by
  obtain ⟨present, leading, tracks⟩ := senses
  exact State.sensorPlan_tracked _ present leading tracks

section
variable {s : State} {lane : Lane} {e : TrackEntry} (applies : (s.tracker lane).applies .print = some e)
include applies

theorem State.printPhotocell_held (held : e.stage = .held) : s.printPhotocell lane = s.dispatchPlan lane e := by
  unfold State.printPhotocell
  rw [applies]
  dsimp only
  rw [held]

theorem State.printPhotocell_queued (queued : e.stage = .queued) :
    s.printPhotocell lane
      = .done ((s.leaveTakeQueue lane e.seq).onEntry lane e.seq fun e => (e.pass .print).divert .rateLate) := by
  unfold State.printPhotocell
  rw [applies]
  dsimp only
  rw [queued]

theorem State.printPhotocell_rating (rating : e.stage = .rating) :
    s.printPhotocell lane = .done (s.onEntry lane e.seq fun e => (e.pass .print).divert .rateLate) := by
  unfold State.printPhotocell
  rw [applies]
  dsimp only
  rw [rating]

theorem State.printPhotocell_notFranked (notFranked : e.stage = .notFranked) :
    s.printPhotocell lane = .done (s.onEntry lane e.seq fun e => e.pass .print) := by
  unfold State.printPhotocell
  rw [applies]
  dsimp only
  rw [notFranked]

end

theorem State.dispatchRefusal_of {s : State} {lane : Lane} {cause : DivertCause}
    (h : let linkOn := (s.tracker lane).config.link
      let free := (s.link lane).outstanding = none
      let room := s.items.spoiled.length + s.items.marksPresent < 64
      linkOn = false ∧ cause = .linkOff ∨ linkOn = true ∧ ¬free ∧ cause = .linkBusy
        ∨ linkOn = true ∧ free ∧ ¬room ∧ cause = .spoiledListFull
        ∨ linkOn = true ∧ free ∧ room ∧ s.calendar.valid = false ∧ cause = .dateInvalid) :
    s.dispatchRefusal lane = some cause := by
  unfold State.dispatchRefusal spoiledLimit
  rcases h with ⟨off, rfl⟩ | ⟨on, busy, rfl⟩ | ⟨on, free, full, rfl⟩ | ⟨on, free, room, invalid, rfl⟩
  · simp [off]
  · simp [on, Option.isSome_iff_ne_none.mpr busy]
  · simp [on, free, Nat.not_lt.mp full]
  · simp [on, free, Nat.not_le.mpr room, invalid]

/-- Settles O20: the branches of `State.printPhotocell`. -/
theorem printRefusesAPiece : Obligations.PrintRefusesAPiece := by
  refine ⟨?_, ?_, ?_⟩
  · intro lane edge pace s e cause ready senses applies held linkOn free room first
    have plan : s.printPhotocell lane
        = .done ((s.releaseHold lane e.seq).onEntry lane e.seq fun e => (e.pass .print).divert cause) := by
      rw [State.printPhotocell_held applies held, State.dispatchPlan, State.dispatchRefusal_of first]
    refine ⟨_, exec_of_eventPlan_done ready rfl ((printPlan_sensed senses).trans plan), ?_, ?_⟩
    · refine (flush_eq _).trans ?_
      generalize State.flush _ = t
      rw [← ready.2.2]
      cases lane <;> rfl
    · refine (UnchangedOutside.of_mem _ ?_ ?_).trans (unchangedOutside_flush _)
      · cases lane <;> rfl
      · cases lane <;> rfl
  · intro lane edge pace s e ready senses applies stage
    rcases stage with queued | rating
    · rw [if_pos queued]
      refine exec_of_eventPlan_done_unmarked ready rfl ((printPlan_sensed senses).trans
        ((State.printPhotocell_queued applies queued).trans (congrArg Plan.done ?_))) rfl
      cases lane <;> rfl
    · rw [if_neg (by rw [rating]; nofun)]
      refine exec_of_eventPlan_done_unmarked ready rfl ((printPlan_sensed senses).trans
        ((State.printPhotocell_rating applies rating).trans (congrArg Plan.done ?_))) rfl
      cases lane <;> rfl
  · intro lane edge pace s e ready senses applies notFranked
    refine exec_of_eventPlan_done_unmarked ready rfl ((printPlan_sensed senses).trans
      ((State.printPhotocell_notFranked applies notFranked).trans (congrArg Plan.done ?_))) rfl
    cases lane <;> rfl

end Sys2Proof.Machine
end

section
/-! SUPPORT. An entry with a slot that ends by itself, in the terms of `EndsEntry` (R26, R44). -/

namespace Sys2Proof.Machine

/-- A DRAINING lane with an empty queue is STOPPED (R26). -/
def Tracker.drained (r : Tracker) : Tracker := { r with state := if r.state = .draining ∧ r.queue = [] then .stopped else r.state }

theorem State.drainCheck_eq (s : State) (lane : Lane) :
    s.drainCheck lane
      = { s with dirty := (s.drainCheck lane).dirty, lanes := s.lanes.set lane (s.tracker lane).drained } := by
  unfold State.drainCheck Tracker.drained
  dsimp only
  split
  case isTrue => cases lane <;> rfl
  case isFalse =>
    have same : s.lanes.set lane (s.tracker lane) = s.lanes := PerLane.set_get ..
    exact congrArg (fun lanes => { s with lanes := lanes }) same.symm

/-- The state after the event in which one entry ends. -/
def State.entryEnded (s : State) (lane : Lane) (x : Ending) : State :=
  ((s.endEntry lane x.entry x.outcome x.cause).drainCheck lane).flush

theorem drained_trans {s t u : State} {lane : Lane} {m : Memory} {d d' : Groups} {n : Notices} {r r' : Tracker}
    (h : t = { s with mem := m, dirty := d, notices := n, lanes := s.lanes.set lane r })
    (h' : u = { t with dirty := d', lanes := t.lanes.set lane r' }) :
    u = { s with mem := m, dirty := d', notices := n, lanes := s.lanes.set lane r' } := by
  subst h
  rw [h', PerLane.set_set]

theorem flush_drained {s t : State} {lane : Lane} {m : Memory} {d : Groups} {n : Notices} {r : Tracker}
    (h : t = { s with mem := m, dirty := d, notices := n, lanes := s.lanes.set lane r }) :
    t.flush = { s with
      mem := t.flush.mem, generation := t.flush.generation, dirty := Groups.none, notices := n, lanes := s.lanes.set lane r } := by
  refine (flush_eq t).trans ?_
  generalize t.flush = u
  rw [h]

section
variable {s : State} {lane : Lane} {x : Ending} {index : Nat}

/-- The notices once an entry with a slot has ended (R17, R168). -/
def State.entryNotices (s : State) (lane : Lane) (x : Ending) : Notices :=
  if (s.tracker lane).batch.state = .closing ∧ ((s.tracker lane).batch.after x.outcome (x.entry.held.getD 0)).inFlight = 0
  then (s.notices.raise (slotDoneCause lane)).raise .batchDone else s.notices.raise (slotDoneCause lane)

theorem State.entryEnded_eq (slot : x.entry.slot = some index) :
    s.entryEnded lane x
      = { s with
          mem := (s.entryEnded lane x).mem, generation := (s.entryEnded lane x).generation, dirty := Groups.none
          notices := s.entryNotices lane x
          lanes := s.lanes.set lane ((s.tracker lane).endedOne x).drained } := by
  have ended := State.endEntry_eq (s := s) (lane := lane) slot
  have tracker : (s.endEntry lane x.entry x.outcome x.cause).tracker lane = (s.tracker lane).endedOne x := by
    rw [ended]
    exact tracker_setTracker s lane _
  have drains := (s.endEntry lane x.entry x.outcome x.cause).drainCheck_eq lane
  rw [tracker] at drains
  exact flush_drained (drained_trans ended drains)

theorem State.entryEnded_tracker (slot : x.entry.slot = some index) :
    (s.entryEnded lane x).tracker lane = ((s.tracker lane).endedOne x).drained := by
  rw [State.entryEnded_eq slot]
  exact tracker_setTracker s lane _

theorem State.entryEnded_status : UnchangedOutside [statusBlock] (s.endEntry lane x.entry x.outcome x.cause) (s.entryEnded lane x) := by
  have drains := (s.endEntry lane x.entry x.outcome x.cause).drainCheck_eq lane
  exact (UnchangedOutside.of_mem _ (by rw [drains]) (by rw [drains])).trans (unchangedOutside_flush _)

theorem State.entryEnded_order : (s.entryEnded lane x).order = (s.endEntry lane x.entry x.outcome x.cause).order := by
  unfold State.entryEnded
  rw [(State.flush_frame _).2.2.2.2.1, State.drainCheck_eq]

theorem State.endsEntry_entryEnded (slot : x.entry.slot = some index) :
    s.EndsEntry (s.entryEnded lane x) lane x.entry index x.outcome x.cause (s.tracker lane).divert := by
  obtain ⟨done, outcome, cause, -, overflow⟩ :=
    (State.showsEnding_endEntry (s := s) (lane := lane) slot).of_status State.entryEnded_order State.entryEnded_status index slot
  refine ⟨done, outcome, cause, overflow, State.entryEnded_tracker slot, ?_, fun ends => ?_⟩
  · rw [State.entryEnded_eq slot]
    rfl
  · exact (State.showsSummary_endEntry slot ends.1 ends.2).of_status State.entryEnded_order State.entryEnded_status

theorem State.presence_entryEnded (slot : x.entry.slot = some index) :
    (s.entryEnded lane x).readField (slotAddress lane index + 0x02) 2
      = (x.entry.presence ||| if x.cause.isSome then 0x0600#16 else 0x0200#16).toNat := by
  obtain ⟨-, -, -, presence, -⟩ :=
    (State.showsEnding_endEntry (s := s) (lane := lane) slot).of_status State.entryEnded_order State.entryEnded_status index slot
  exact presence

theorem State.unchangedOutside_entryEnded (slot : x.entry.slot = some index) :
    UnchangedOutside (s.endingBytes lane index) s (s.entryEnded lane x) := by
  refine ((State.unchangedOutside_endEntry slot).mono fun r hr => ⟨r, ?_, le_rfl, le_rfl⟩).trans
    (State.entryEnded_status.mono fun r hr => ⟨r, List.mem_append_left _ (List.mem_singleton.mp hr ▸ List.mem_cons_self), le_rfl, le_rfl⟩)
  unfold State.endingRanges at hr
  unfold State.endingBytes
  rcases List.mem_append.mp hr with hr | hr
  · exact List.mem_append_left _ (List.mem_cons_of_mem _ hr)
  · refine List.mem_append_right _ ?_
    split at hr
    case isTrue ends =>
      have last : (s.tracker lane).batch.inFlight ≤ 1 := Nat.sub_eq_zero_iff_le.mp ends.2
      rwa [if_pos ⟨ends.1, last⟩]
    case isFalse => cases hr

end

/-- The same end of an entry from a base that differs in the entry's own row, the lane's DIVERT and the rest of memory. -/
theorem State.EndsEntry.of_base {s p t : State} {lane : Lane} {e e' : TrackEntry} {index : Nat} {outcome : PieceOutcome}
    {cause : Option DivertCause} {divert : Bool} (h : p.EndsEntry t lane e' index outcome cause divert)
    (frame : p.order = s.order ∧ p.calendar = s.calendar ∧ p.notices = s.notices)
    (row : e'.seq = e.seq ∧ e'.held = e.held ∧ e'.flags = e.flags)
    (queue : (p.tracker lane).queue.filter (fun x => x.seq != e.seq) = (s.tracker lane).queue.filter (fun x => x.seq != e.seq))
    (rest : { p.tracker lane with queue := [], divert := false } = { s.tracker lane with queue := [], divert := false }) :
    s.EndsEntry t lane e index outcome cause divert := by
  obtain ⟨order, calendar, notices⟩ := frame
  obtain ⟨seq, held, flags⟩ := row
  have batch : (p.tracker lane).batch = (s.tracker lane).batch := by injection rest
  have state : (p.tracker lane).state = (s.tracker lane).state := by injection rest
  have address : p.overflowByteAddress lane index = s.overflowByteAddress lane index := by
    rw [State.overflowByteAddress, order]
    rfl
  have whole (l : LaneState) (q : List TrackEntry) (last : Option Nat) (d : Bool) (b : Batch) :
      ({ p.tracker lane with state := l, queue := q, lastDone := last, divert := d, batch := b } : Tracker)
        = { s.tracker lane with state := l, queue := q, lastDone := last, divert := d, batch := b } := by
    have := congrArg (fun r : Tracker => { r with state := l, queue := q, lastDone := last, divert := d, batch := b }) rest
    exact this
  unfold State.EndsEntry at h ⊢
  simp only [address, batch, state, seq, held, flags, queue, notices, calendar, whole] at h
  exact h

end Sys2Proof.Machine
end

section
/-! SUPPORT. An EXIT event: the gate, and what becomes of the entry (R26, R43, R44). -/

namespace Sys2Proof.Machine

/-! ### Entries of a queue -/

/-- A changed entry is found in its place. -/
theorem Tracker.find_onEntry {r : Tracker} {seq : Nat} {e : TrackEntry} {f : TrackEntry → TrackEntry} (found : r.find seq = some e)
    (keeps : ∀ x, (f x).seq = x.seq) : (r.onEntry seq f).find seq = some (f e) := by
  unfold Tracker.find at found ⊢
  show (r.queue.map _).find? _ = _
  have same : (fun x : TrackEntry => x.seq == seq) ∘ (fun x => if x.seq == seq then f x else x) = fun x => x.seq == seq := by
    funext x
    simp only [Function.comp]
    split
    · rw [keeps]
    · rfl
  have of : (e.seq == seq) = true := List.find?_some (p := fun x : TrackEntry => x.seq == seq) found
  rw [List.find?_map, same, found]
  simp only [Option.map_some, of, if_true]

theorem Tracker.find_seq {r : Tracker} {seq : Nat} {e : TrackEntry} (found : r.find seq = some e) : e.seq = seq :=
  beq_iff_eq.mp (List.find?_some (p := fun x : TrackEntry => x.seq == seq) found)

/-- The other entries of a queue in which one entry changed. -/
theorem Tracker.filter_onEntry (r : Tracker) (seq : Nat) {f : TrackEntry → TrackEntry} (keeps : ∀ x, (f x).seq = x.seq) :
    (r.onEntry seq f).queue.filter (fun x => x.seq != seq) = r.queue.filter (fun x => x.seq != seq) := by
  show (r.queue.map _).filter _ = _
  rw [List.filter_map]
  have same : (fun x : TrackEntry => x.seq != seq) ∘ (fun x => if x.seq == seq then f x else x) = fun x => x.seq != seq := by
    funext x
    simp only [Function.comp]
    split
    · rw [keeps]
    · rfl
  rw [same]
  refine (List.map_congr_left fun x hx => ?_).trans (List.map_id _)
  have other : (x.seq != seq) = true := (List.mem_filter.mp hx).2
  rw [if_neg (by simpa using other)]
  rfl

/-! ### The gate -/

/-- An entry past EXIT, its gate shown. -/
def TrackEntry.gated (e x : TrackEntry) : TrackEntry :=
  { x with position := .exit, distance := 0, presence := withBit e.presence gateBit }

/-- The fields that the gate's driving writes (R43). -/
def gateFields (lane : Lane) (e : TrackEntry) (index : Nat) : List Field :=
  [slotField lane index 0x27 1 (gateCode (gateFor e.stage)), slotField lane index 0x02 2 (withBit e.presence gateBit).toNat]

/-- The lane's tracker once the gate is driven. -/
def Tracker.gated (r : Tracker) (e : TrackEntry) : Tracker :=
  { r.onEntry e.seq e.gated with divert := decide (e.stage ≠ .printed) }

theorem State.onTracker_three_eq (s : State) (lane : Lane) (f g h : Tracker → Tracker) (fs : List Field) :
    (((s.onTracker lane f).onTracker lane g).writeFields fs).onTracker lane h
      = { s with mem := (s.writeFields fs).mem, lanes := s.lanes.set lane (h (g (f (s.tracker lane)))) } := by
  cases lane <;> rfl

theorem State.onTracker_thrice_eq (s : State) (lane : Lane) (f g h : Tracker → Tracker) :
    ((s.onTracker lane f).onTracker lane g).onTracker lane h
      = { s with lanes := s.lanes.set lane (h (g (f (s.tracker lane)))) } := by
  cases lane <;> rfl

theorem Tracker.gated_eq (r : Tracker) (e : TrackEntry) :
    ((({ r with divert := decide (e.stage ≠ .printed) } : Tracker).onEntry e.seq fun x =>
        { x with presence := withBit e.presence gateBit }).onEntry e.seq fun x => x.pass .exit) = r.gated e := by
  exact Tracker.onEntry_onEntry _ e.seq (fun x => { x with presence := withBit e.presence gateBit }) (fun x => x.pass .exit)
    fun _ => rfl

theorem State.driveGate_eq {s : State} {lane : Lane} {e : TrackEntry} {index : Nat} (slot : e.slot = some index) :
    s.driveGate lane e
      = { s with
          mem := (s.writeFields (gateFields lane e index)).mem, lanes := s.lanes.set lane ((s.tracker lane).gated e) } := by
  unfold State.driveGate State.writeResults State.onEntry
  rw [slot]
  dsimp only
  rw [State.onTracker_three_eq]
  exact congrArg (fun r => { s with mem := (s.writeFields (gateFields lane e index)).mem, lanes := s.lanes.set lane r })
    ((s.tracker lane).gated_eq e)

theorem State.driveGate_slotless_eq {s : State} {lane : Lane} {e : TrackEntry} (slot : e.slot = none) :
    s.driveGate lane e = { s with lanes := s.lanes.set lane ((s.tracker lane).gated e) } := by
  unfold State.driveGate State.writeResults State.onEntry
  rw [slot]
  dsimp only
  rw [State.onTracker_thrice_eq]
  exact congrArg (fun r => { s with lanes := s.lanes.set lane r }) ((s.tracker lane).gated_eq e)

theorem gateFields_apart (lane : Lane) (e : TrackEntry) (index : Nat) : (gateFields lane e index).Pairwise Field.Apart := by
  simp [gateFields, slotField, Field.Apart]

section
variable {s : State} {lane : Lane} {e : TrackEntry} {index : Nat} (slot : e.slot = some index)
include slot

theorem State.driveGate_tracker : (s.driveGate lane e).tracker lane = (s.tracker lane).gated e := by
  rw [State.driveGate_eq slot]
  exact tracker_setTracker s lane _

theorem State.driveGate_reads {f : Field} (hf : f ∈ gateFields lane e index) :
    (s.driveGate lane e).readField f.address f.width = f.value % 256 ^ f.width := by
  refine (readField_of_mem (s := s.writeFields (gateFields lane e index)) ?_ ?_ ?_ _ _).trans
    (readField_writeFields_of_mem s (gateFields_apart lane e index) hf)
  · rw [State.driveGate_eq slot]
  · rw [State.driveGate_eq slot]
    simp
  · rw [State.driveGate_eq slot]
    simp

theorem State.unchangedOutside_driveGate :
    UnchangedOutside [(slotAddress lane index + 0x02, 2), (slotAddress lane index + 0x27, 1)] s (s.driveGate lane e) := by
  have written := unchangedOutside_writeFields s (gateFields lane e index)
  refine (written.mono fun r hr => ⟨r, ?_, le_rfl, le_rfl⟩).trans (.of_mem _ ?_ ?_)
  · simp only [gateFields, slotField, List.map_cons, List.map_nil, List.mem_cons, List.not_mem_nil, or_false] at hr ⊢
    exact hr.symm
  · rw [State.driveGate_eq slot]
  · rw [State.driveGate_eq slot]
    simp

end

/-! ### The event -/

theorem exec_exit_sensed {lane : Lane} {edge : Edge} {s : State} (ready : s.Ready) (senses : s.Senses lane .exit edge) :
    exec (.exit lane edge) s = .next (s.exitPhotocell lane).flush := by
  obtain ⟨present, leading, tracks⟩ := senses
  have plan : exitPlan lane edge s = .done (s.exitPhotocell lane) := State.sensorPlan_tracked _ present leading tracks
  exact exec_of_eventPlan_done ready rfl plan

theorem State.exitPhotocell_applied {s : State} {lane : Lane} {e : TrackEntry} (applies : (s.tracker lane).applies .exit = some e)
    (found : (s.tracker lane).find e.seq = some e) (tracker : (s.driveGate lane e).tracker lane = (s.tracker lane).gated e) :
    s.exitPhotocell lane = ((s.driveGate lane e).endAtExit lane (e.gated e)).drainCheck lane := by
  have gated : ((s.driveGate lane e).tracker lane).find e.seq = some (e.gated e) := by
    rw [tracker]
    exact Tracker.find_onEntry found fun _ => rfl
  unfold State.exitPhotocell
  rw [applies]
  dsimp only
  rw [gated]

/-- The outcome with which an entry ends at its EXIT (R44). -/
def TrackEntry.exitOutcome (e : TrackEntry) : PieceOutcome :=
  if e.stage = .printed then .franked else if e.stage = .spoiled then .spoiled else .diverted

/-- How an entry ends at its EXIT (R44). -/
def TrackEntry.exitEnding (e : TrackEntry) : Ending :=
  { entry := e.gated e, outcome := e.exitOutcome, cause := if e.stage = .notFranked then e.cause else none }

theorem State.endAtExit_ends {s : State} {lane : Lane} {e : TrackEntry}
    (stage : e.stage = .printed ∨ e.stage = .spoiled ∨ e.stage = .notFranked) :
    s.endAtExit lane (e.gated e) = s.endEntry lane e.exitEnding.entry e.exitEnding.outcome e.exitEnding.cause := by
  have same : (e.gated e).stage = e.stage := rfl
  have cause : (e.gated e).cause = e.cause := rfl
  unfold State.endAtExit TrackEntry.exitEnding TrackEntry.exitOutcome
  rw [same, cause]
  rcases stage with stage | stage | stage <;> rw [stage] <;> rfl

theorem exitEnding_presence (e : TrackEntry) (cause : Option DivertCause) :
    ((withBit e.presence gateBit) ||| if cause.isSome then 0x0600#16 else 0x0200#16)
      = e.presence ||| if cause = none then 0x0300#16 else 0x0700#16 := by
  show (e.presence ||| _) ||| _ = _
  rw [BitVec.or_assoc]
  cases cause with
  | none => rfl
  | some cause =>
    rw [if_neg (Option.some_ne_none cause), Option.isSome_some, if_pos rfl]
    rfl

/-- The EXIT of an ended piece with a slot (R43, R44). -/
theorem exec_exit_ends {lane : Lane} {edge : Edge} {s : State} {e : TrackEntry} {index : Nat} (ready : s.Ready)
    (senses : s.Senses lane .exit edge) (applies : (s.tracker lane).applies .exit = some e)
    (found : (s.tracker lane).find e.seq = some e) (slot : e.slot = some index)
    (stage : e.stage = .printed ∨ e.stage = .spoiled ∨ e.stage = .notFranked) :
    exec (.exit lane edge) s = .next ((s.driveGate lane e).entryEnded lane e.exitEnding) := by
  rw [exec_exit_sensed ready senses, State.exitPhotocell_applied applies found (State.driveGate_tracker slot),
    State.endAtExit_ends stage]
  rfl

theorem endsEntry_at_exit {s : State} {lane : Lane} {e : TrackEntry} {index : Nat} (slot : e.slot = some index) :
    s.EndsEntry ((s.driveGate lane e).entryEnded lane e.exitEnding) lane e index e.exitOutcome
      (if e.stage = .notFranked then e.cause else none) (decide (e.stage ≠ .printed)) := by
  have tracker := State.driveGate_tracker (s := s) (lane := lane) slot
  have ends := State.endsEntry_entryEnded (s := s.driveGate lane e) (lane := lane) (x := e.exitEnding) slot
  rw [tracker] at ends
  refine ends.of_base ?_ ⟨rfl, rfl, rfl⟩ ?_ ?_
  · rw [State.driveGate_eq slot]
    exact ⟨rfl, rfl, rfl⟩
  · rw [tracker]
    exact Tracker.filter_onEntry _ _ fun _ => rfl
  · rw [tracker]
    rfl

theorem State.endingBytes_driveGate {s : State} {lane : Lane} {e : TrackEntry} {index : Nat} (slot : e.slot = some index) :
    (s.driveGate lane e).endingBytes lane index = s.endingBytes lane index := by
  have tracker := State.driveGate_tracker (s := s) (lane := lane) slot
  unfold State.endingBytes State.overflowByteAddress
  rw [tracker, State.driveGate_eq slot]
  rfl

end Sys2Proof.Machine
end

section
/-! SUPPORT. The three forms of an EXIT event: of an ended, a DISPATCHED and a slotless piece (R26, R43, R44). -/

namespace Sys2Proof.Machine

/-- The gate field of a piece at EXIT (R43). -/
theorem gate_entryEnded {s : State} {lane : Lane} {e : TrackEntry} {index : Nat} (slot : e.slot = some index) :
    ((s.driveGate lane e).entryEnded lane e.exitEnding).readField (slotAddress lane index + 0x27) 1
      = if e.stage = .printed then gateCode .frankedOutput else gateCode .rejectTray := by
  have unchanged := State.unchangedOutside_entryEnded (s := s.driveGate lane e) (lane := lane) (x := e.exitEnding) slot
  have order : ((s.driveGate lane e).entryEnded lane e.exitEnding).order = (s.driveGate lane e).order := by
    rw [State.entryEnded_eq slot]
  refine (unchanged.readField order fun r hr => ?_).trans
    ((State.driveGate_reads slot (f := slotField lane index 0x27 1 _) List.mem_cons_self).trans ?_)
  · have overflow := overflowByteAddress_bounds (s.driveGate lane e) lane index
    have above := slotAddress_ge lane index
    have below := summaryAddress_below lane lane index
    unfold State.endingBytes at hr
    rcases List.mem_append.mp hr with hr | hr
    · simp only [List.mem_cons, List.not_mem_nil, or_false] at hr
      rcases hr with rfl | rfl | rfl | rfl | rfl <;> simp only [statusBlock] <;> omega
    · split at hr
      · rw [List.mem_singleton.mp hr]
        dsimp only
        omega
      · cases hr
  · unfold gateFor
    split <;> rfl

/-- A DISPATCHED piece stays past EXIT, with no outcome (R44). -/
theorem exec_exit_dispatched {lane : Lane} {edge : Edge} {s : State} {e : TrackEntry} {index : Nat} (ready : s.Ready)
    (senses : s.Senses lane .exit edge) (applies : (s.tracker lane).applies .exit = some e)
    (found : (s.tracker lane).find e.seq = some e) (slot : e.slot = some index) (stage : e.stage = .dispatched) :
    exec (.exit lane edge) s = .next (s.driveGate lane e) := by
  have tracker := State.driveGate_tracker (s := s) (lane := lane) slot
  have stays : s.exitPhotocell lane = s.driveGate lane e := by
    rw [State.exitPhotocell_applied applies found tracker, State.endAtExit, show (e.gated e).stage = .dispatched from stage]
    dsimp only
    refine if_neg fun drains => ?_
    rw [tracker] at drains
    have empty : (s.tracker lane).queue.map _ = [] := drains.2
    rw [List.map_eq_nil_iff] at empty
    unfold Tracker.find at found
    rw [empty] at found
    cases found
  rw [exec_exit_sensed ready senses, stays, flush_clean]
  rw [State.driveGate_eq slot]
  exact ready.2.2

/-- A NOT_FRANKED piece without a slot leaves with no slot write (R44). -/
theorem State.exitPhotocell_slotless {s : State} {lane : Lane} {e : TrackEntry} (applies : (s.tracker lane).applies .exit = some e)
    (found : (s.tracker lane).find e.seq = some e) (slot : e.slot = none) (stage : e.stage = .notFranked) :
    s.exitPhotocell lane
      = { s with
          dirty := (s.exitPhotocell lane).dirty
          lanes := s.lanes.set lane ({ s.tracker lane with
            queue := (s.tracker lane).queue.filter (fun x => x.seq != e.seq), divert := true } : Tracker).drained } := by
  have gated := State.driveGate_slotless_eq (s := s) (lane := lane) slot
  have tracker : (s.driveGate lane e).tracker lane = (s.tracker lane).gated e := by
    rw [gated]
    exact tracker_setTracker s lane _
  have ends : (s.driveGate lane e).endAtExit lane (e.gated e)
      = { s with lanes := s.lanes.set lane (((s.tracker lane).gated e).remove e.seq) } := by
    unfold State.endAtExit State.endEntry
    rw [show (e.gated e).stage = .notFranked from stage]
    dsimp only
    rw [show (e.gated e).slot = none from slot, gated]
    cases lane <;> rfl
  have removed : ((s.tracker lane).gated e).remove e.seq = { s.tracker lane with
      queue := (s.tracker lane).queue.filter (fun x => x.seq != e.seq), divert := true } := by
    have queue := (s.tracker lane).filter_onEntry e.seq (f := e.gated) fun _ => rfl
    have divert : decide (e.stage ≠ .printed) = true := by rw [stage]; rfl
    unfold Tracker.remove
    rw [show ((s.tracker lane).gated e).queue = ((s.tracker lane).onEntry e.seq e.gated).queue from rfl, queue, Tracker.gated, divert]
    rfl
  rw [removed] at ends
  have drains := ((s.driveGate lane e).endAtExit lane (e.gated e)).drainCheck_eq lane
  rw [← State.exitPhotocell_applied applies found tracker] at drains
  refine drained_trans (m := s.mem) (n := s.notices) (d := s.dirty) ends (drains.trans ?_)
  rw [show ((s.driveGate lane e).endAtExit lane (e.gated e)).tracker lane = _ from
    (congrArg (fun u : State => u.tracker lane) ends).trans (tracker_setTracker s lane _)]

/-- Settles O21: the three forms, each with its frame. -/
theorem exitEndsAPiece : Obligations.ExitEndsAPiece := by
  refine ⟨?_, ?_, ?_⟩
  · intro lane edge s e index ready senses applies found slot stage _ outcome cause at_
    have ended : e.stage = .printed ∨ e.stage = .spoiled ∨ e.stage = .notFranked := stage.imp id (Or.imp id And.left)
    have eq := State.entryEnded_eq (s := s.driveGate lane e) (lane := lane) (x := e.exitEnding) slot
    have tracker := State.entryEnded_tracker (s := s.driveGate lane e) (lane := lane) (x := e.exitEnding) slot
    refine ⟨_, exec_exit_ends ready senses applies found slot ended, endsEntry_at_exit slot, gate_entryEnded slot, ?_, ?_, ?_⟩
    · rw [State.presence_entryEnded slot]
      exact congrArg BitVec.toNat (exitEnding_presence e cause)
    · have gated := State.driveGate_eq (s := s) (lane := lane) slot
      rw [tracker]
      generalize (s.driveGate lane e).entryEnded lane e.exitEnding = t at eq ⊢
      generalize ((s.driveGate lane e).tracker lane).endedOne e.exitEnding = r at eq ⊢
      rw [← ready.2.2] at eq
      generalize s.driveGate lane e = p at eq gated
      subst gated
      rw [eq, PerLane.set_set]
    · refine (State.unchangedOutside_driveGate slot).mono (fun r hr => ?_) |>.trans
        ((State.unchangedOutside_entryEnded (x := e.exitEnding) slot).mono fun r hr => ⟨r, ?_, le_rfl, le_rfl⟩)
      · refine ⟨r, ?_, le_rfl, le_rfl⟩
        simp only [List.mem_cons, List.not_mem_nil, or_false] at hr
        rcases hr with rfl | rfl
        · exact List.mem_cons_of_mem _ (by simp [State.endingBytes])
        · exact List.mem_cons_self
      · rw [State.endingBytes_driveGate slot] at hr
        exact List.mem_cons_of_mem _ hr
  · intro lane edge s e index ready senses applies found slot stage at_
    refine ⟨_, exec_exit_dispatched ready senses applies found slot stage, ?_, ?_, ?_, State.unchangedOutside_driveGate slot⟩
    · refine (State.driveGate_reads slot (f := slotField lane index 0x27 1 _) List.mem_cons_self).trans ?_
      rw [gateFor, if_neg (by rw [stage]; nofun)]
      rfl
    · refine (State.driveGate_reads slot (f := slotField lane index 0x02 2 _) (List.mem_cons_of_mem _ List.mem_cons_self)).trans ?_
      exact Nat.mod_eq_of_lt (BitVec.isLt _)
    · have eq := State.driveGate_eq (s := s) (lane := lane) slot
      have divert : decide (e.stage ≠ .printed) = true := by rw [stage]; rfl
      rw [eq, Tracker.gated, divert]
      rfl
  · intro lane edge s e ready senses applies found slot stage r rest
    have eq := State.exitPhotocell_slotless applies found slot stage
    refine ⟨_, exec_exit_sensed ready senses, ?_, ?_⟩
    · refine (flush_eq _).trans ?_
      generalize (s.exitPhotocell lane).flush = t
      rw [eq, ← ready.2.2]
      rfl
    · exact (UnchangedOutside.of_mem _ (by rw [eq]) (by rw [eq])).trans (unchangedOutside_flush _)

end Sys2Proof.Machine
end

section
/-! SUPPORT. The memory of a lane, and the bytes outside it that the trackers' operations leave alone; sums of endings. -/

namespace Sys2Proof.Machine

/-! ### A lane's memory -/

/-- The slots and the batch summary of a lane. -/
def laneMemory (lane : Lane) : List (Nat × Nat) := [(slotsBase lane, 2048), (summaryAddress lane, 64)]

/-- Every slot that the queue names is one of the lane's 32. -/
def SlotsBelow (queue : List TrackEntry) : Prop := ∀ x ∈ queue, ∀ index, x.slot = some index → index < 32

theorem slot_in_laneMemory {lane : Lane} {index : Nat} (below : index < 32) {r : Nat × Nat} (low : slotAddress lane index ≤ r.1)
    (high : r.1 + r.2 ≤ slotAddress lane index + 64) :
    ∃ r' ∈ laneMemory lane, r'.1 ≤ r.1 ∧ r.1 + r.2 ≤ r'.1 + r'.2 := by
  refine ⟨_, List.mem_cons_self, ?_, ?_⟩
  · exact (Nat.le_add_right _ _).trans low
  · refine high.trans ?_
    simp only [slotAddress]
    omega

theorem summary_in_laneMemory {lane : Lane} {p : Prop} [Decidable p] {r : Nat × Nat}
    (hr : r ∈ if p then [(summaryAddress lane, 64)] else []) :
    ∃ r' ∈ laneMemory lane, r'.1 ≤ r.1 ∧ r.1 + r.2 ≤ r'.1 + r'.2 := by
  split at hr
  · rw [List.mem_singleton.mp hr]
    exact ⟨_, List.mem_cons_of_mem _ List.mem_cons_self, le_rfl, le_rfl⟩
  · cases hr

/-- The bytes that some endings write are the lane's. -/
theorem endedBytes_in_laneMemory {s : State} {lane : Lane} {endings : List Ending}
    (below : ∀ x ∈ endings, ∀ index, x.entry.slot = some index → index < 32) {r : Nat × Nat} (hr : r ∈ s.endedBytes lane endings) :
    ∃ r' ∈ laneMemory lane, r'.1 ≤ r.1 ∧ r.1 + r.2 ≤ r'.1 + r'.2 := by
  rcases List.mem_append.mp hr with hr | hr
  · obtain ⟨x, hx, hr⟩ := List.mem_flatMap.mp hr
    cases slot : x.entry.slot with
    | none =>
      rw [slot] at hr
      cases hr
    | some index =>
      have overflow := overflowByteAddress_bounds s lane index
      rw [slot] at hr
      simp only [List.mem_cons, List.not_mem_nil, or_false] at hr
      refine slot_in_laneMemory (below x hx index slot) ?_ ?_ <;> rcases hr with rfl | rfl | rfl | rfl <;> dsimp only <;> omega
  · exact summary_in_laneMemory hr

theorem State.Ended.confined {s t : State} {lane : Lane} {endings : List Ending} (h : s.Ended t lane endings)
    (below : ∀ x ∈ endings, ∀ index, x.entry.slot = some index → index < 32) : UnchangedOutside (laneMemory lane) s t :=
  h.unchanged.mono fun _ hr => endedBytes_in_laneMemory below hr

/-! ### Endings one after the other -/

theorem Batch.afterAll_append (b : Batch) (xs ys : List Ending) : b.afterAll (xs ++ ys) = (b.afterAll xs).afterAll ys := by
  induction xs generalizing b with
  | nil => rfl
  | cons x xs ih =>
    rw [List.cons_append, Batch.afterAll_cons, ih]
    rfl

theorem lastDoneAfter_append (last : Option Nat) (xs ys : List Ending) :
    lastDoneAfter last (xs ++ ys) = lastDoneAfter (lastDoneAfter last xs) ys := by
  induction xs generalizing last with
  | nil => rfl
  | cons x xs ih => rw [List.cons_append, lastDoneAfter_cons, ih, lastDoneAfter_cons last x xs]

theorem endingCauses_nil (lane : Lane) (b : Batch) (c : Cause) : c ∉ endingCauses lane b [] := by
  rw [mem_endingCauses]
  rintro (⟨any, -⟩ | ⟨⟨closing, ended⟩, -⟩)
  · exact any rfl
  · exact nomatch closing.symm.trans ended

theorem mem_endingCauses_append (lane : Lane) (b : Batch) (xs ys : List Ending) (c : Cause) :
    c ∈ endingCauses lane b (xs ++ ys) ↔ c ∈ endingCauses lane b xs ∨ c ∈ endingCauses lane (b.afterAll xs) ys := by
  induction xs generalizing b with
  | nil => simp [endingCauses_nil, Batch.afterAll]
  | cons x xs ih => rw [List.cons_append, mem_endingCauses_cons, ih, mem_endingCauses_cons lane b x xs, or_assoc]; rfl

theorem Notices.Raised.trans {n m p : Notices} {cs ds : List Cause} (h : n.Raised m cs) (h' : m.Raised p ds) :
    n.Raised p (cs ++ ds) := by
  refine ⟨h'.1.trans h.1, h'.2.1.trans h.2.1, fun d => ?_⟩
  rw [h'.2.2, h.2.2]
  simp [Bool.or_assoc]

theorem Notices.Raised.congr {n m : Notices} {cs ds : List Cause} (h : n.Raised m cs) (same : ∀ c, c ∈ cs ↔ c ∈ ds) :
    n.Raised m ds := by
  refine ⟨h.1, h.2.1, fun d => ?_⟩
  rw [h.2.2]
  simp only [same]

/-- One ending, or none, before others. -/
theorem State.Ended.after_own {s t u : State} {lane : Lane} {own rest : List Ending}
    (h : own = [] ∧ t = s ∨ ∃ x, own = [x] ∧ s.Ended t lane [x]) (h' : t.Ended u lane rest) : s.Ended u lane (own ++ rest) := by
  rcases h with ⟨rfl, rfl⟩ | ⟨x, rfl, h⟩
  · exact h'
  · exact h.cons h'

end Sys2Proof.Machine
end

section
/-! SUPPORT. The tracker's part of a settling: the print result shown, and the end of a piece past EXIT (R42, R44). -/

namespace Sys2Proof.Machine

/-- The stage of a piece whose exchange settled (R42). -/
def settledStage (result : PrintResult) : Stage := if result = .printed then .printed else .spoiled

/-- An entry whose print result is shown. -/
def TrackEntry.resulted (e : TrackEntry) (result : PrintResult) (x : TrackEntry) : TrackEntry :=
  { x with stage := settledStage result, presence := withBit e.presence printResultBit }

/-- The fields that show a print result (R42). -/
def resultFields (lane : Lane) (e : TrackEntry) (result : PrintResult) (index : Nat) : List Field :=
  [slotField lane index 0x26 1 (printResultCode result), slotField lane index 0x02 2 (withBit e.presence printResultBit).toNat]

/-- The state once a piece's print result is shown. -/
def State.resultShown (s : State) (lane : Lane) (seq : Nat) (e : TrackEntry) (result : PrintResult) : State :=
  (s.onEntry lane seq fun e => { e with stage := settledStage result }).writeResults lane e
    (fun index => [slotField lane index 0x26 1 (printResultCode result)]) [printResultBit]

/-- The end of a piece past EXIT whose exchange settled (R44). -/
def TrackEntry.settledEnding (e : TrackEntry) (result : PrintResult) : Ending :=
  { entry := e.resulted result e, outcome := if result = .printed then .franked else .spoiled, cause := none }

/-- The piece's own ending, when it is past EXIT. -/
def TrackEntry.ownEndings (e : TrackEntry) (result : PrintResult) : List Ending :=
  if e.position = .exit then [e.settledEnding result] else []

theorem resultFields_apart (lane : Lane) (e : TrackEntry) (result : PrintResult) (index : Nat) :
    (resultFields lane e result index).Pairwise Field.Apart := by
  simp [resultFields, slotField, Field.Apart]

theorem State.onTracker_twice_writes_eq (s : State) (lane : Lane) (f g : Tracker → Tracker) (fs : List Field) :
    ((s.onTracker lane f).onTracker lane g).writeFields fs
      = { s with mem := (s.writeFields fs).mem, lanes := s.lanes.set lane (g (f (s.tracker lane))) } := by
  cases lane <;> rfl

theorem State.onTracker_twice_eq (s : State) (lane : Lane) (f g : Tracker → Tracker) :
    (s.onTracker lane f).onTracker lane g = { s with lanes := s.lanes.set lane (g (f (s.tracker lane))) } := by
  cases lane <;> rfl

section
variable {s : State} {lane : Lane} {seq : Nat} {e : TrackEntry} (result : PrintResult) (found : (s.tracker lane).find seq = some e)
include found

theorem State.resultShown_eq {index : Nat} (slot : e.slot = some index) :
    s.resultShown lane seq e result
      = { s with
          mem := (s.writeFields (resultFields lane e result index)).mem
          lanes := s.lanes.set lane ((s.tracker lane).onEntry seq (e.resulted result)) } := by
  have same := (s.tracker lane).onEntry_onEntry seq (fun x => { x with stage := settledStage result })
    (fun x => { x with presence := withBit e.presence printResultBit }) fun _ => rfl
  unfold State.resultShown State.writeResults State.onEntry
  rw [slot, Tracker.find_seq found]
  dsimp only
  rw [State.onTracker_twice_writes_eq]
  exact congrArg (fun r => { s with mem := (s.writeFields (resultFields lane e result index)).mem, lanes := s.lanes.set lane r }) same

theorem State.resultShown_slotless_eq (slot : e.slot = none) :
    s.resultShown lane seq e result
      = { s with lanes := s.lanes.set lane ((s.tracker lane).onEntry seq (e.resulted result)) } := by
  have same := (s.tracker lane).onEntry_onEntry seq (fun x => { x with stage := settledStage result })
    (fun x => { x with presence := withBit e.presence printResultBit }) fun _ => rfl
  unfold State.resultShown State.writeResults State.onEntry
  rw [slot, Tracker.find_seq found]
  dsimp only
  rw [State.onTracker_twice_eq]
  exact congrArg (fun r => { s with lanes := s.lanes.set lane r }) same

/-- The result shown moves memory and the entry's row alone. -/
theorem State.resultShown_moves :
    s.resultShown lane seq e result
      = { s with
          mem := (s.resultShown lane seq e result).mem
          lanes := s.lanes.set lane ((s.tracker lane).onEntry seq (e.resulted result)) } := by
  cases slot : e.slot with
  | none => rw [State.resultShown_slotless_eq result found slot]
  | some index => rw [State.resultShown_eq result found slot]

theorem State.resultShown_tracker :
    (s.resultShown lane seq e result).tracker lane = (s.tracker lane).onEntry seq (e.resulted result) := by
  rw [State.resultShown_moves result found]
  exact tracker_setTracker s lane _

theorem State.find_resultShown : ((s.resultShown lane seq e result).tracker lane).find seq = some (e.resulted result e) := by
  rw [State.resultShown_tracker result found]
  exact Tracker.find_onEntry found fun _ => rfl

theorem State.resultShown_reads {index : Nat} (slot : e.slot = some index) {f : Field} (hf : f ∈ resultFields lane e result index) :
    (s.resultShown lane seq e result).readField f.address f.width = f.value % 256 ^ f.width := by
  refine (readField_of_mem (s := s.writeFields (resultFields lane e result index)) ?_ ?_ ?_ _ _).trans
    (readField_writeFields_of_mem s (resultFields_apart lane e result index) hf)
  · rw [State.resultShown_eq result found slot]
  · rw [State.resultShown_eq result found slot]
    simp
  · rw [State.resultShown_eq result found slot]
    simp

theorem State.unchangedOutside_resultShown {index : Nat} (slot : e.slot = some index) :
    UnchangedOutside [(slotAddress lane index + 0x02, 2), (slotAddress lane index + 0x26, 1)] s
      (s.resultShown lane seq e result) := by
  have written := unchangedOutside_writeFields s (resultFields lane e result index)
  refine (written.mono fun r hr => ⟨r, ?_, le_rfl, le_rfl⟩).trans (.of_mem _ ?_ ?_)
  · simp only [resultFields, slotField, List.map_cons, List.map_nil, List.mem_cons, List.not_mem_nil, or_false] at hr ⊢
    exact hr.symm
  · rw [State.resultShown_eq result found slot]
  · rw [State.resultShown_eq result found slot]
    simp

theorem State.confined_resultShown (below : ∀ index, e.slot = some index → index < 32) :
    UnchangedOutside (laneMemory lane) s (s.resultShown lane seq e result) := by
  cases slot : e.slot with
  | none =>
    rw [State.resultShown_slotless_eq result found slot]
    exact .of_mem _ rfl rfl
  | some index =>
    refine (State.unchangedOutside_resultShown result found slot).mono fun r hr => ?_
    simp only [List.mem_cons, List.not_mem_nil, or_false] at hr
    refine slot_in_laneMemory (below index slot) ?_ ?_ <;> rcases hr with rfl | rfl <;> dsimp only <;> omega

/-! ### The entry's own ending -/

theorem State.settleEntry_stays (before : e.position ≠ .exit) :
    s.settleEntry lane seq result = s.resultShown lane seq e result := by
  unfold State.settleEntry
  rw [found]
  exact if_neg before

theorem State.settleEntry_ends (past : e.position = .exit) :
    s.settleEntry lane seq result
      = (s.resultShown lane seq e result).endEntry lane (e.settledEnding result).entry (e.settledEnding result).outcome none := by
  have there := State.find_resultShown result found
  unfold State.settleEntry
  rw [found]
  refine (if_pos past).trans ?_
  unfold State.resultShown settledStage at there ⊢
  rw [there]
  rfl

theorem State.settleEntry_own :
    e.ownEndings result = [] ∧ s.settleEntry lane seq result = s.resultShown lane seq e result
      ∨ ∃ x, e.ownEndings result = [x]
          ∧ (s.resultShown lane seq e result).Ended (s.settleEntry lane seq result) lane [x] := by
  by_cases past : e.position = .exit
  · refine .inr ⟨_, if_pos past, ?_⟩
    rw [State.settleEntry_ends result found past]
    exact (State.endedAll_endEntry _ lane (e.settledEnding result)).ended
  · exact .inl ⟨if_neg past, State.settleEntry_stays result found past⟩

theorem State.settleEntry_endedAll :
    (s.resultShown lane seq e result).EndedAll (s.settleEntry lane seq result) lane (e.ownEndings result) := by
  unfold TrackEntry.ownEndings
  split
  case isTrue past =>
    rw [State.settleEntry_ends result found past]
    exact State.endedAll_endEntry _ lane (e.settledEnding result)
  case isFalse before =>
    rw [State.settleEntry_stays result found before]
    exact .refl _ lane

theorem State.queue_settleEntry :
    ((s.settleEntry lane seq result).tracker lane).queue
      = if e.position = .exit then ((s.tracker lane).onEntry seq (e.resulted result)).queue.filter (fun x => x.seq != seq)
        else ((s.tracker lane).onEntry seq (e.resulted result)).queue := by
  have shown := State.resultShown_tracker result found
  split
  case isFalse before => rw [State.settleEntry_stays result found before, shown]
  case isTrue past =>
    have of : (e.settledEnding result).entry.seq = seq :=
      show e.seq = seq from Tracker.find_seq found
    rw [State.settleEntry_ends result found past]
    cases slot : (e.settledEnding result).entry.slot with
    | none =>
      unfold State.endEntry
      rw [slot]
      dsimp only
      rw [State.onTracker, tracker_setTracker, shown, of]
      rfl
    | some index =>
      rw [show (none : Option DivertCause) = (e.settledEnding result).cause from rfl, State.endEntry_eq slot]
      refine (congrArg Tracker.queue (tracker_setTracker _ lane _)).trans ?_
      rw [shown, Tracker.endedOne, of]

end

end Sys2Proof.Machine
end

section
/-! SUPPORT. A settling on a base in which the store and the link have moved: the entry, the halt at the third fault and the
emptying of a halted lane (R42, R46, R156). -/

namespace Sys2Proof.Machine

/-- The third consecutive fault halts a lane that tracks its pieces (R156). -/
def State.FaultHalts (s : State) (lane : Lane) (result : PrintResult) : Prop :=
  result ≠ .printed ∧ (s.link lane).faults = 3 ∧ (s.tracker lane).state.tracks = true

/-- The lane after a settling, the piece's own end included. -/
def State.settled (s : State) (lane : Lane) (seq : Nat) (result : PrintResult) : State :=
  ((if result ≠ .printed ∧ ((s.settleEntry lane seq result).link lane).faults = 3
      then (s.settleEntry lane seq result).halt lane .printerFault else s.settleEntry lane seq result).emptyHalted
    lane).drainCheck lane

/-- The part of a lane that the end of entries leaves alone. -/
def SameLane (r r' : Tracker) : Prop :=
  ∃ queue last batch, r' = { r with queue := queue, lastDone := last, batch := batch }

section
variable {s : State} {lane : Lane} {seq : Nat} {result : PrintResult}

theorem State.settleEntry_sameLane : SameLane (s.tracker lane) ((s.settleEntry lane seq result).tracker lane) := by
  cases found : (s.tracker lane).find seq with
  | none =>
    have same : s.settleEntry lane seq result = s := by
      unfold State.settleEntry
      rw [found]
    rw [same]
    exact ⟨_, _, _, rfl⟩
  | some e =>
    rw [(State.settleEntry_endedAll result found).tracker, State.resultShown_tracker result found]
    exact ⟨_, _, _, rfl⟩

theorem State.settleEntry_link : (s.settleEntry lane seq result).link lane = s.link lane := by
  have links : (s.settleEntry lane seq result).links = s.links := by simp
  rw [State.link, links]
  rfl

theorem State.emptyHalted_drained {state : LaneState} {cause : Option HaltCause} {endings : List Ending} {t : State}
    (h : s.Emptied t lane endings state cause) (halted : state = .halted) :
    (t.emptyHalted lane).drainCheck lane = t ∧ t.drainCheck lane = t := by
  have there : (t.tracker lane).state = .halted := by rw [h.tracker, halted]
  have empties : t.emptyHalted lane = t := State.emptyHalted_other (by rw [there]; nofun)
  have drains : t.drainCheck lane = t := if_neg (by rw [there]; rintro ⟨⟨⟩, -⟩)
  exact ⟨by rw [empties, drains], drains⟩

/-- The lane just before its queue is emptied: halted by the third fault, or HALTING already. -/
def State.beforeEmptying (s : State) (lane : Lane) (halts : Prop) [Decidable halts] : State :=
  if halts then s.haltBegun lane .printerFault else s

/-- A lane that a settling empties: by the third fault, or because it was HALTING (R46, R156). -/
theorem State.settled_emptied [Decidable (s.FaultHalts lane result)] (idle : (s.link lane).outstanding = none)
    (emptied : s.FaultHalts lane result ∨ (s.tracker lane).state = .halting) :
    let u := (s.settleEntry lane seq result).beforeEmptying lane (s.FaultHalts lane result)
    u.Emptied (s.settled lane seq result) lane ((u.tracker lane).queue.map fun e => e.endedFor .jammed) .halted
      (u.tracker lane).haltCause := by
  intro u
  obtain ⟨queue, last, batch, tracker⟩ := State.settleEntry_sameLane (s := s) (lane := lane) (seq := seq) (result := result)
  have link := State.settleEntry_link (s := s) (lane := lane) (seq := seq) (result := result)
  by_cases halts : s.FaultHalts lane result
  · have before : u = (s.settleEntry lane seq result).haltBegun lane .printerFault := if_pos halts
    obtain ⟨fault, third, tracks⟩ := halts
    obtain ⟨there, links, -⟩ := (s.settleEntry lane seq result).haltBegun_frame lane .printerFault
    have tracking : ((s.settleEntry lane seq result).tracker lane).state.tracks = true := by rw [tracker]; exact tracks
    have empties := State.emptyHalted_emptied (s := u) (lane := lane) (by rw [before, there]) (by rw [before, links, link]; exact idle)
    have same : s.settled lane seq result = u.emptyHalted lane := by
      unfold State.settled
      rw [if_pos ⟨fault, by rw [link]; exact third⟩, State.halt_begun tracking, ← before]
      exact (State.emptyHalted_drained empties rfl).1
    rw [same]
    exact empties
  · have before : u = s.settleEntry lane seq result := if_neg halts
    have halting : (s.tracker lane).state = .halting := emptied.resolve_left halts
    have there : ((s.settleEntry lane seq result).tracker lane).state = .halting := by rw [tracker]; exact halting
    have empties := State.emptyHalted_emptied (s := u) (lane := lane) (by rw [before, there]) (by rw [before, link]; exact idle)
    have still : (s.settleEntry lane seq result).halt lane .printerFault = s.settleEntry lane seq result :=
      if_neg (by rw [there]; nofun)
    have same : s.settled lane seq result = u.emptyHalted lane := by
      unfold State.settled
      rw [still, ite_self, ← before]
      exact (State.emptyHalted_drained empties rfl).2
    rw [same]
    exact empties

/-- A lane that a settling does not empty. -/
theorem State.settled_open (open_ : ¬ (s.FaultHalts lane result ∨ (s.tracker lane).state = .halting)) :
    s.settled lane seq result = (s.settleEntry lane seq result).drainCheck lane := by
  obtain ⟨queue, last, batch, tracker⟩ := State.settleEntry_sameLane (s := s) (lane := lane) (seq := seq) (result := result)
  have link := State.settleEntry_link (s := s) (lane := lane) (seq := seq) (result := result)
  obtain ⟨kept, moving⟩ := not_or.mp open_
  have there : ((s.settleEntry lane seq result).tracker lane).state = (s.tracker lane).state := by rw [tracker]
  have runs : (if result ≠ .printed ∧ ((s.settleEntry lane seq result).link lane).faults = 3
      then (s.settleEntry lane seq result).halt lane .printerFault else s.settleEntry lane seq result)
      = s.settleEntry lane seq result := by
    split
    case isTrue third =>
      refine if_neg fun tracks => kept ⟨third.1, ?_, ?_⟩
      · rw [← link]
        exact third.2
      · rw [← there]
        exact tracks
    case isFalse => rfl
  unfold State.settled
  rw [runs, State.emptyHalted_other (by rw [there]; exact moving)]

end

end Sys2Proof.Machine
end

section
/-! SUPPORT. A lane that a settling empties, on the base of the settling (R42, R46, R156). -/

namespace Sys2Proof.Machine

/-! ### Just before the emptying -/

section
variable (s : State) (lane : Lane) (halts : Prop) [Decidable halts]

theorem State.beforeEmptying_frame :
    (s.beforeEmptying lane halts).mem = s.mem ∧ (s.beforeEmptying lane halts).order = s.order
      ∧ (s.beforeEmptying lane halts).calendar = s.calendar ∧ (s.beforeEmptying lane halts).powerOns = s.powerOns
      ∧ (s.beforeEmptying lane halts).links = s.links := by
  unfold State.beforeEmptying
  split <;> exact ⟨rfl, rfl, rfl, rfl, rfl⟩

theorem State.beforeEmptying_tracker :
    (s.beforeEmptying lane halts).tracker lane = { s.tracker lane with
      state := if halts then .halting else (s.tracker lane).state
      haltCause := if halts then some .printerFault else (s.tracker lane).haltCause
      queue := (s.tracker lane).queue.map fun x => if halts then x.halted else x } := by
  by_cases h : halts
  · simp only [if_pos h]
    unfold State.beforeEmptying
    rw [if_pos h]
    exact (s.haltBegun_frame lane .printerFault).1
  · simp only [if_neg h, List.map_id']
    unfold State.beforeEmptying
    rw [if_neg h]

theorem State.beforeEmptying_raised :
    s.notices.Raised (s.beforeEmptying lane halts).notices (if halts then [laneHaltCause lane] else []) := by
  unfold State.beforeEmptying
  split
  · exact Notices.raised_raise ..
  · exact ⟨rfl, rfl, fun c => by simp⟩

theorem State.beforeEmptying_releases :
    (s.beforeEmptying lane halts).holds = (if halts then s.holds.filter (fun h => h.lane != lane) else s.holds)
      ∧ (s.beforeEmptying lane halts).takeQueue
        = (if halts then s.takeQueue.filter (fun q => q.lane != lane) else s.takeQueue) := by
  by_cases h : halts
  · simp only [if_pos h]
    unfold State.beforeEmptying
    rw [if_pos h]
    exact ⟨rfl, rfl⟩
  · simp only [if_neg h]
    unfold State.beforeEmptying
    rw [if_neg h]
    exact ⟨rfl, rfl⟩

end

/-- The endings of the entries that stay when a settling empties their lane (R46). -/
def keptEndings (halts : Prop) [Decidable halts] (queue : List TrackEntry) : List Ending :=
  queue.map fun x => (if halts then x.halted else x).endedFor .jammed

/-- The last two members of an emptied lane, whatever its endings were. -/
structure State.EmptiedFrom (s v : State) (lane : Lane) (halts : Prop) [Decidable halts] (own rest : List Ending) : Prop where
  tracker : v.tracker lane = { s.tracker lane with
    state := .halted, haltCause := if halts then some .printerFault else (s.tracker lane).haltCause, queue := []
    batch := (s.tracker lane).batch.afterAll (own ++ rest)
    lastDone := lastDoneAfter (s.tracker lane).lastDone (own ++ rest) }
  raised : s.notices.Raised v.notices
    ((if halts then [laneHaltCause lane] else []) ++ endingCauses lane (s.tracker lane).batch (own ++ rest))
  holds : v.holds = (if halts then s.holds.filter (fun h => h.lane != lane) else s.holds)
  takeQueue : v.takeQueue = (if halts then s.takeQueue.filter (fun q => q.lane != lane) else s.takeQueue)

/-- An emptying after a first ending, or none. -/
theorem State.Emptied.after_own {p u v : State} {lane : Lane} {halts : Prop} [Decidable halts] {own : List Ending}
    {q : List TrackEntry} (all : p.EndedAll u lane own)
    (queue : (u.tracker lane).queue = q)
    (h : (u.beforeEmptying lane halts).Emptied v lane
      (((u.beforeEmptying lane halts).tracker lane).queue.map fun e => e.endedFor .jammed) .halted
      ((u.beforeEmptying lane halts).tracker lane).haltCause) :
    u.Ended v lane (keptEndings halts q) ∧ p.EmptiedFrom v lane halts own (keptEndings halts q) := by
  obtain ⟨memory, order, calendar, powered, -⟩ := u.beforeEmptying_frame lane halts
  have tracker := u.beforeEmptying_tracker lane halts
  have endings : ((u.beforeEmptying lane halts).tracker lane).queue.map (fun e => e.endedFor .jammed) = keptEndings halts q := by
    rw [tracker]
    dsimp only
    rw [List.map_map, queue]
    rfl
  have by_ : ((u.beforeEmptying lane halts).tracker lane).haltCause
      = if halts then some .printerFault else (u.tracker lane).haltCause := by rw [tracker]
  have batch : ((u.beforeEmptying lane halts).tracker lane).batch = (u.tracker lane).batch := by rw [tracker]
  have last : ((u.beforeEmptying lane halts).tracker lane).lastDone = (u.tracker lane).lastDone := by rw [tracker]
  rw [endings, by_] at h
  refine ⟨h.ended.of_base ⟨order, calendar⟩ batch last (.of_mem _ memory powered), ?_, ?_, ?_, ?_⟩
  · rw [h.tracker, tracker, all.tracker, Batch.afterAll_append, lastDoneAfter_append]
  · have raised := (all.raised.trans (u.beforeEmptying_raised lane halts)).trans h.raised
    refine raised.congr fun c => ?_
    rw [batch, all.ended.batch]
    simp only [List.mem_append, mem_endingCauses_append]
    tauto
  · have holds := (u.beforeEmptying_releases lane halts).1
    have same : u.holds = p.holds := by rw [all.rest]
    rw [h.rest]
    exact holds.trans (by rw [same])
  · have takes := (u.beforeEmptying_releases lane halts).2
    have same : u.takeQueue = p.takeQueue := by rw [all.rest]
    rw [h.rest]
    exact takes.trans (by rw [same])

section
variable {s : State} {lane : Lane} {seq : Nat} {result : PrintResult} [Decidable (s.FaultHalts lane result)]
  (idle : (s.link lane).outstanding = none) (emptied : s.FaultHalts lane result ∨ (s.tracker lane).state = .halting)
include idle emptied

/-- A settling without an entry of its own, on a lane that it empties. -/
theorem State.settled_emptied_alone (lost : (s.tracker lane).find seq = none) :
    s.Ended (s.settled lane seq result) lane (keptEndings (s.FaultHalts lane result) (s.tracker lane).queue)
      ∧ s.EmptiedFrom (s.settled lane seq result) lane (s.FaultHalts lane result) []
          (keptEndings (s.FaultHalts lane result) (s.tracker lane).queue) := by
  have same : s.settleEntry lane seq result = s := by
    unfold State.settleEntry
    rw [lost]
  have empties := State.settled_emptied (seq := seq) idle emptied
  rw [same] at empties
  exact State.Emptied.after_own (.refl s lane) rfl empties

/-- A settling with its entry found, on a lane that it empties. -/
theorem State.settled_emptied_found {e : TrackEntry} (found : (s.tracker lane).find seq = some e) :
    (s.settleEntry lane seq result).Ended (s.settled lane seq result) lane
        (keptEndings (s.FaultHalts lane result) ((s.settleEntry lane seq result).tracker lane).queue)
      ∧ (s.resultShown lane seq e result).EmptiedFrom (s.settled lane seq result) lane (s.FaultHalts lane result)
          (e.ownEndings result) (keptEndings (s.FaultHalts lane result) ((s.settleEntry lane seq result).tracker lane).queue) :=
  State.Emptied.after_own (State.settleEntry_endedAll result found) rfl (State.settled_emptied idle emptied)

end

end Sys2Proof.Machine
end

section
/-! SUPPORT. The members of a settled exchange that hold for any entry: the frame, the memory, the halt and the releases. -/

namespace Sys2Proof.Machine

@[simp] theorem TrackEntry.halted_slot (e : TrackEntry) : e.halted.slot = e.slot := by
  unfold TrackEntry.halted
  split <;> rfl

@[simp] theorem TrackEntry.endedFor_entry (e : TrackEntry) (cause : DivertCause) : (e.endedFor cause).entry = e := rfl

theorem slotsBelow_keptEndings {halts : Prop} [Decidable halts] {queue : List TrackEntry} (below : SlotsBelow queue) :
    ∀ x ∈ keptEndings halts queue, ∀ index, x.entry.slot = some index → index < 32 := by
  intro x hx index slot
  obtain ⟨e, he, rfl⟩ := List.mem_map.mp hx
  refine below e he index ?_
  rw [TrackEntry.endedFor_entry] at slot
  split at slot
  · rwa [TrackEntry.halted_slot] at slot
  · exact slot

theorem Tracker.mem_of_find {r : Tracker} {seq : Nat} {e : TrackEntry} (found : r.find seq = some e) : e ∈ r.queue :=
  List.mem_of_find?_eq_some found

section
variable {s : State} {lane : Lane} {seq : Nat} {result : PrintResult}

theorem slotsBelow_settleEntry {e : TrackEntry} (found : (s.tracker lane).find seq = some e)
    (below : SlotsBelow (s.tracker lane).queue) : SlotsBelow ((s.settleEntry lane seq result).tracker lane).queue := by
  have shown : SlotsBelow ((s.tracker lane).onEntry seq (e.resulted result)).queue := by
    intro x hx index slot
    obtain ⟨y, hy, rfl⟩ := List.mem_map.mp hx
    refine below y hy index ?_
    split at slot <;> exact slot
  rw [State.queue_settleEntry result found]
  split
  · exact fun x hx => shown x (List.mem_filter.mp hx).1
  · exact shown

theorem slotsBelow_ownEndings {e : TrackEntry} (below : ∀ index, e.slot = some index → index < 32) :
    ∀ x ∈ e.ownEndings result, ∀ index, x.entry.slot = some index → index < 32 := by
  intro x hx index slot
  unfold TrackEntry.ownEndings at hx
  split at hx
  · rw [List.mem_singleton.mp hx] at slot
    exact below index slot
  · cases hx

theorem State.confined_settleEntry (below : SlotsBelow (s.tracker lane).queue) :
    UnchangedOutside (laneMemory lane) s (s.settleEntry lane seq result) := by
  cases found : (s.tracker lane).find seq with
  | none =>
    have same : s.settleEntry lane seq result = s := by
      unfold State.settleEntry
      rw [found]
    rw [same]
    exact .of_mem _ rfl rfl
  | some e =>
    have slots := below e (Tracker.mem_of_find found)
    exact (State.confined_resultShown result found slots).trans
      ((State.settleEntry_endedAll result found).ended.confined (slotsBelow_ownEndings slots))

/-- The memory of a settling is the lane's own. -/
theorem State.confined_settled (idle : (s.link lane).outstanding = none) (below : SlotsBelow (s.tracker lane).queue) :
    UnchangedOutside (laneMemory lane) s (s.settled lane seq result) := by
  classical
  by_cases emptied : s.FaultHalts lane result ∨ (s.tracker lane).state = .halting
  · cases found : (s.tracker lane).find seq with
    | none => exact (State.settled_emptied_alone idle emptied found).1.confined (slotsBelow_keptEndings below)
    | some e =>
      exact (State.confined_settleEntry below).trans
        ((State.settled_emptied_found idle emptied found).1.confined (slotsBelow_keptEndings (slotsBelow_settleEntry found below)))
  · rw [State.settled_open emptied]
    have drains := (s.settleEntry lane seq result).drainCheck_eq lane
    exact (State.confined_settleEntry below).trans (.of_mem _ (by rw [drains]) (by rw [drains]))

theorem State.settled_onBelt : OnBelt s (s.settled lane seq result) := by
  unfold State.settled
  split <;> simp [OnBelt]

theorem State.settled_onlyLane : OnlyLane lane s (s.settled lane seq result) := by
  have entry : OnlyLane lane s (s.settleEntry lane seq result) := (OnlyLane.refl lane s).settleEntry seq result
  unfold State.settled
  refine OnlyLane.drainCheck (OnlyLane.emptyHalted ?_)
  split
  · exact entry.halt _
  · exact entry

/-- What a settling that empties its lane leaves of the lane, the halt cause and what a halt releases. -/
theorem State.settled_emptied_leaves [Decidable (s.FaultHalts lane result)] (idle : (s.link lane).outstanding = none)
    (emptied : s.FaultHalts lane result ∨ (s.tracker lane).state = .halting) :
    ∃ (p : State) (own rest : List Ending), p.EmptiedFrom (s.settled lane seq result) lane (s.FaultHalts lane result) own rest
      ∧ (p.tracker lane).haltCause = (s.tracker lane).haltCause ∧ p.holds = s.holds ∧ p.takeQueue = s.takeQueue := by
  cases found : (s.tracker lane).find seq with
  | none => exact ⟨s, _, _, (State.settled_emptied_alone idle emptied found).2, rfl, rfl, rfl⟩
  | some e =>
    have moves := State.resultShown_moves result found
    refine ⟨_, _, _, (State.settled_emptied_found idle emptied found).2, ?_, ?_, ?_⟩
    · rw [State.resultShown_tracker result found]
      rfl
    · rw [moves]
    · rw [moves]

/-- A settling that does not halt the lane releases nothing. -/
theorem State.settled_releases (idle : (s.link lane).outstanding = none) (kept : ¬ s.FaultHalts lane result) :
    (s.settled lane seq result).holds = s.holds ∧ (s.settled lane seq result).takeQueue = s.takeQueue := by
  classical
  by_cases emptied : s.FaultHalts lane result ∨ (s.tracker lane).state = .halting
  · obtain ⟨p, own, rest, from_, -, holds, takes⟩ := State.settled_emptied_leaves (seq := seq) idle emptied
    have here := from_.holds
    have there := from_.takeQueue
    rw [if_neg kept] at here there
    exact ⟨here.trans holds, there.trans takes⟩
  · rw [State.settled_open emptied]
    have drains := (s.settleEntry lane seq result).drainCheck_onLanes lane
    have entry := s.settleEntry_onLanes lane seq result
    exact ⟨drains.2.2.trans entry.2.2, drains.2.1.trans entry.2.1⟩

end

end Sys2Proof.Machine
end

section
/-! SUPPORT. What a settling shows of its own entry: kept in the queue, ended past EXIT, or ended with its lane's queue. -/

namespace Sys2Proof.Machine

/-- The queue with a print result shown, in the terms of `withPrintResult`. -/
theorem queue_resulted {r : Tracker} {seq : Nat} {e : TrackEntry} (found : r.find seq = some e) (result : PrintResult) :
    (r.onEntry seq (e.resulted result)).queue
      = (r.withPrintResult seq).map fun x => if x.seq == seq then { x with stage := settledStage result } else x := by
  unfold Tracker.withPrintResult
  rw [found, List.map_map]
  refine List.map_congr_left fun x _ => ?_
  simp only [Function.comp]
  split <;> rfl

/-- The byte of a print result lies in no byte that the end of an entry writes. -/
theorem result_off_endedBytes {s : State} {lane : Lane} {endings : List Ending} {index : Nat} :
    ∀ r ∈ s.endedBytes lane endings, slotAddress lane index + 0x26 + 1 ≤ r.1 ∨ r.1 + r.2 ≤ slotAddress lane index + 0x26 := by
  intro r hr
  rcases List.mem_append.mp hr with hr | hr
  · obtain ⟨x, -, hr⟩ := List.mem_flatMap.mp hr
    cases slot : x.entry.slot with
    | none =>
      rw [slot] at hr
      cases hr
    | some j =>
      have overflow := overflowByteAddress_bounds s lane j
      rw [slot] at hr
      simp only [slotAddress] at *
      simp only [List.mem_cons, List.not_mem_nil, or_false] at hr
      rcases hr with rfl | rfl | rfl | rfl <;> dsimp only at overflow ⊢ <;> omega
  · split at hr
    · rw [List.mem_singleton.mp hr]
      have := summaryAddress_below lane lane index
      exact .inr (by dsimp only; omega)
    · cases hr

/-- Every ending of a list is one of a longer list. -/
theorem slot_mem_endedBytes {s : State} {lane : Lane} {endings : List Ending} {x : Ending} {index : Nat} (hx : x ∈ endings)
    (slot : x.entry.slot = some index) : (slotAddress lane index + 0x02, 2) ∈ s.endedBytes lane endings := by
  refine List.mem_append_left _ (List.mem_flatMap.mpr ⟨x, hx, ?_⟩)
  rw [slot]
  exact List.mem_cons_of_mem _ List.mem_cons_self

section
variable {s : State} {lane : Lane} {seq : Nat} {result : PrintResult} {e : TrackEntry} {index : Nat}
  (found : (s.tracker lane).find seq = some e) (slot : e.slot = some index)
include found

/-- How the entries of a lane end that a settling empties, its own entry first when it is past EXIT (R42, R46). -/
def State.settledEndings (s : State) (lane : Lane) (seq : Nat) (result : PrintResult) (e : TrackEntry) (halts : Prop)
    [Decidable halts] : List Ending :=
  e.ownEndings result ++ keptEndings halts ((s.settleEntry lane seq result).tracker lane).queue

theorem State.frame_resultShown :
    (s.resultShown lane seq e result).order = s.order ∧ (s.resultShown lane seq e result).calendar = s.calendar
      ∧ (s.resultShown lane seq e result).notices = s.notices := by
  rw [State.resultShown_moves result found]
  exact ⟨rfl, rfl, rfl⟩

theorem State.batch_resultShown :
    ((s.resultShown lane seq e result).tracker lane).batch = (s.tracker lane).batch
      ∧ ((s.resultShown lane seq e result).tracker lane).lastDone = (s.tracker lane).lastDone := by
  rw [State.resultShown_tracker result found]
  exact ⟨rfl, rfl⟩

theorem State.endedBytes_resultShown (endings : List Ending) :
    (s.resultShown lane seq e result).endedBytes lane endings = s.endedBytes lane endings := by
  have address (index : Nat) : (s.resultShown lane seq e result).overflowByteAddress lane index = s.overflowByteAddress lane index := by
    rw [State.overflowByteAddress, (State.frame_resultShown found).1]
    rfl
  unfold State.endedBytes
  simp only [address, (State.batch_resultShown found).1]

variable [Decidable (s.FaultHalts lane result)] (idle : (s.link lane).outstanding = none)
  (emptied : s.FaultHalts lane result ∨ (s.tracker lane).state = .halting)
include idle emptied

theorem State.ended_settled :
    (s.resultShown lane seq e result).Ended (s.settled lane seq result) lane
      (s.settledEndings lane seq result e (s.FaultHalts lane result)) :=
  State.Ended.after_own (State.settleEntry_own result found) (State.settled_emptied_found idle emptied found).1

/-- A lane emptied by a settling, in the terms of `EndsAll`, with the status block rewritten after it. -/
theorem State.endsAll_settled {t : State} (lanes : t.lanes = (s.settled lane seq result).lanes)
    (order : t.order = (s.settled lane seq result).order)
    (memory : UnchangedOutside [statusBlock] (s.settled lane seq result) t) :
    s.EndsAll t lane (s.settledEndings lane seq result e (s.FaultHalts lane result)) .halted
      (if s.FaultHalts lane result then some .printerFault else (s.tracker lane).haltCause) := by
  have ended := State.ended_settled found idle emptied
  have whole := (State.settled_emptied_found idle emptied found).2
  obtain ⟨sameOrder, sameCalendar, -⟩ := State.frame_resultShown (result := result) found
  obtain ⟨sameBatch, sameLast⟩ := State.batch_resultShown (result := result) found
  have tracker : t.tracker lane = (s.settled lane seq result).tracker lane := by rw [State.tracker, lanes]; rfl
  refine ⟨?_, fun apart x hx => ?_, fun closing flying count => ?_⟩
  · rw [tracker, whole.tracker, State.resultShown_tracker result found]
    rfl
  · exact ((ended.shown apart x hx).of_base sameOrder (by rw [sameBatch])).of_status order memory
  · have summary := ended.summary (by rw [sameBatch]; exact closing) (by rw [sameBatch]; exact flying)
      (by rw [sameBatch]; exact count)
    rw [sameBatch, sameCalendar] at summary
    exact summary.of_status order memory

theorem State.raised_settled :
    s.notices.Raised (s.settled lane seq result).notices
      ((if s.FaultHalts lane result then [laneHaltCause lane] else [])
        ++ endingCauses lane (s.tracker lane).batch (s.settledEndings lane seq result e (s.FaultHalts lane result))) := by
  have raised := (State.settled_emptied_found idle emptied found).2.raised
  rw [(State.frame_resultShown found).2.2, (State.batch_resultShown found).1] at raised
  exact raised

omit idle emptied in
include slot in
/-- The entry's own slot is among those of the endings. -/
theorem State.own_mem_settledEndings :
    ∃ x ∈ s.settledEndings lane seq result e (s.FaultHalts lane result), x.entry.slot = some index := by
  unfold State.settledEndings
  by_cases past : e.position = .exit
  · refine ⟨e.settledEnding result, List.mem_append_left _ ?_, slot⟩
    rw [TrackEntry.ownEndings, if_pos past]
    exact List.mem_singleton_self _
  · have listed : e.resulted result e ∈ ((s.settleEntry lane seq result).tracker lane).queue := by
      rw [State.queue_settleEntry result found, if_neg past]
      exact Tracker.mem_of_find (Tracker.find_onEntry found fun _ => rfl)
    refine ⟨_, List.mem_append_right _ (List.mem_map_of_mem listed), ?_⟩
    rw [TrackEntry.endedFor_entry]
    split
    · rw [TrackEntry.halted_slot]
      exact slot
    · exact slot

include slot in
theorem State.unchangedOutside_settled {t : State} (memory : UnchangedOutside [statusBlock] (s.settled lane seq result) t) :
    UnchangedOutside ((slotAddress lane index + 0x26, 1)
      :: s.allEndingBytes lane (s.settledEndings lane seq result e (s.FaultHalts lane result))) s t := by
  have ended := (State.ended_settled found idle emptied).unchanged_status memory
  have bytes := State.endedBytes_resultShown (result := result) found (s.settledEndings lane seq result e (s.FaultHalts lane result))
  have all : (s.resultShown lane seq e result).allEndingBytes lane (s.settledEndings lane seq result e (s.FaultHalts lane result))
      = s.allEndingBytes lane (s.settledEndings lane seq result e (s.FaultHalts lane result)) := congrArg (statusBlock :: ·) bytes
  rw [all] at ended
  obtain ⟨x, hx, own⟩ := State.own_mem_settledEndings (result := result) found slot
  refine ((State.unchangedOutside_resultShown result found slot).mono fun r hr => ⟨r, ?_, le_rfl, le_rfl⟩).trans
    (ended.mono fun r hr => ⟨r, List.mem_cons_of_mem _ hr, le_rfl, le_rfl⟩)
  simp only [List.mem_cons, List.not_mem_nil, or_false] at hr
  rcases hr with rfl | rfl
  · exact List.mem_cons_of_mem _ (List.mem_cons_of_mem _ (slot_mem_endedBytes hx own))
  · exact List.mem_cons_self

include slot in
theorem State.result_settled {t : State} (order : t.order = (s.settled lane seq result).order)
    (memory : UnchangedOutside [statusBlock] (s.settled lane seq result) t) :
    t.readField (slotAddress lane index + 0x26) 1 = printResultCode result := by
  have ended := State.ended_settled found idle emptied
  have shown := State.resultShown_reads result found slot (f := slotField lane index 0x26 1 _) List.mem_cons_self
  refine (memory.readField order (slot_off_statusBlock lane index 0x26 1)).trans
    ((ended.unchanged.readField ended.frame.1 result_off_endedBytes).trans (shown.trans ?_))
  cases result <;> rfl

end

end Sys2Proof.Machine
end

section
/-! SUPPORT. A settling that leaves its lane's queue: the piece stays before EXIT, and ends past it (R42, R44). -/

namespace Sys2Proof.Machine

section
variable {s : State} {lane : Lane} {seq : Nat} {result : PrintResult} {e : TrackEntry} {index : Nat}
  (found : (s.tracker lane).find seq = some e) (slot : e.slot = some index)
  (tracks : (s.tracker lane).state.tracks = true) (kept : ¬ s.FaultHalts lane result)
include found tracks kept

omit found in
theorem State.settled_tracks : s.settled lane seq result = (s.settleEntry lane seq result).drainCheck lane :=
  State.settled_open fun emptied => emptied.elim kept fun halting => by rw [halting] at tracks; nomatch tracks

theorem State.settled_stays (before : e.position ≠ .exit) :
    s.settled lane seq result = s.resultShown lane seq e result := by
  rw [State.settled_tracks tracks kept, State.settleEntry_stays result found before]
  refine if_neg fun drains => ?_
  have there := Tracker.mem_of_find (State.find_resultShown result found)
  rw [drains.2] at there
  cases there

theorem State.settled_ends (past : e.position = .exit) :
    (s.settled lane seq result).flush = (s.resultShown lane seq e result).entryEnded lane (e.settledEnding result) := by
  rw [State.settled_tracks tracks kept, State.settleEntry_ends result found past]
  rfl

include slot in
/-- The piece before EXIT takes its result and stays. -/
theorem State.settled_stays_shows (before : e.position ≠ .exit) {written : List (Nat × Nat)}
    (memory : UnchangedOutside written (s.settled lane seq result) (s.settled lane seq result).flush)
    (status : ∀ r ∈ written, r = statusBlock) :
    (s.settled lane seq result).flush.tracker lane
        = { s.tracker lane with queue := (s.tracker lane).withPrintResult seq |>.map fun x =>
              if x.seq == seq then { x with stage := settledStage result } else x }
      ∧ (s.settled lane seq result).flush.readField (slotAddress lane index + 0x26) 1 = printResultCode result
      ∧ (s.settled lane seq result).flush.readField (slotAddress lane index + 0x02) 2 = (e.presence ||| 0x0080#16).toNat
      ∧ (s.settled lane seq result).flush.notices = s.notices
      ∧ UnchangedOutside ((slotAddress lane index + 0x02, 2) :: (slotAddress lane index + 0x26, 1) :: written) s
          (s.settled lane seq result).flush := by
  have stays := State.settled_stays found tracks kept before
  rw [stays] at memory ⊢
  have moves := State.resultShown_moves result found
  have tracker := State.resultShown_tracker result found
  have order : (s.resultShown lane seq e result).flush.order = (s.resultShown lane seq e result).order :=
    (State.flush_frame _).2.2.2.2.1
  have lanes : (s.resultShown lane seq e result).flush.tracker lane = (s.resultShown lane seq e result).tracker lane := by
    rw [State.tracker, (State.flush_frame _).2.2.2.2.2.2.2.2.2.2.2.1]
    rfl
  have notices : (s.resultShown lane seq e result).flush.notices = (s.resultShown lane seq e result).notices :=
    (State.flush_frame _).2.2.2.2.2.2.2.2.2.2.1
  have slotted (offset width : Nat) := memory.readField order (fun r hr => by
    rw [status r hr]
    exact slot_off_statusBlock lane index offset width statusBlock (List.mem_singleton_self _))
  refine ⟨?_, (slotted 0x26 1).trans ?_, (slotted 0x02 2).trans ?_, ?_, ?_⟩
  · rw [lanes, tracker, ← queue_resulted found result]
    rfl
  · refine (State.resultShown_reads result found slot (f := slotField lane index 0x26 1 _) List.mem_cons_self).trans ?_
    cases result <;> rfl
  · refine (State.resultShown_reads result found slot (f := slotField lane index 0x02 2 _)
      (List.mem_cons_of_mem _ List.mem_cons_self)).trans ?_
    exact Nat.mod_eq_of_lt (BitVec.isLt _)
  · rw [notices, moves]
  · refine ((State.unchangedOutside_resultShown result found slot).mono fun r hr => ⟨r, ?_, le_rfl, le_rfl⟩).trans
      (memory.mono fun r hr => ⟨r, List.mem_cons_of_mem _ (List.mem_cons_of_mem _ hr), le_rfl, le_rfl⟩)
    simp only [List.mem_cons, List.not_mem_nil, or_false] at hr ⊢
    rcases hr with rfl | rfl
    · exact .inl rfl
    · exact .inr (.inl rfl)

include slot in
/-- The piece past EXIT ends with its own outcome. -/
theorem State.settled_ends_shows (past : e.position = .exit) :
    s.EndsEntry (s.settled lane seq result).flush lane e index (if result = .printed then .franked else .spoiled) none
        (s.tracker lane).divert
      ∧ (s.settled lane seq result).flush.readField (slotAddress lane index + 0x26) 1 = printResultCode result
      ∧ (s.settled lane seq result).flush.readField (slotAddress lane index + 0x02) 2 = (e.presence ||| 0x0280#16).toNat
      ∧ UnchangedOutside ((slotAddress lane index + 0x26, 1) :: s.endingBytes lane index) s (s.settled lane seq result).flush := by
  have tracker := State.resultShown_tracker result found
  have frame := State.frame_resultShown (result := result) found
  have own : (e.settledEnding result).entry.slot = some index := slot
  have ends := State.endsEntry_entryEnded (s := s.resultShown lane seq e result) (lane := lane) own
  have bytes : (s.resultShown lane seq e result).endingBytes lane index = s.endingBytes lane index := by
    unfold State.endingBytes State.overflowByteAddress
    rw [tracker, frame.1]
    rfl
  have unchanged := State.unchangedOutside_entryEnded (s := s.resultShown lane seq e result) (lane := lane) own
  have presence := State.presence_entryEnded (s := s.resultShown lane seq e result) (lane := lane) own
  have order : ((s.resultShown lane seq e result).entryEnded lane (e.settledEnding result)).order
      = (s.resultShown lane seq e result).order := by rw [State.entryEnded_eq own]
  rw [State.settled_ends found tracks kept past]
  rw [tracker] at ends
  refine ⟨ends.of_base ⟨frame.1, frame.2.1, frame.2.2⟩ ⟨rfl, rfl, rfl⟩ ?_ ?_, ?_, presence.trans ?_, ?_⟩
  · rw [tracker, Tracker.find_seq found]
    exact Tracker.filter_onEntry _ _ fun _ => rfl
  · rw [tracker]
    rfl
  · refine (unchanged.readField order fun r hr => ?_).trans
      ((State.resultShown_reads result found slot (f := slotField lane index 0x26 1 _) List.mem_cons_self).trans ?_)
    · have overflow := overflowByteAddress_bounds (s.resultShown lane seq e result) lane index
      have above := slotAddress_ge lane index
      have below := summaryAddress_below lane lane index
      rcases List.mem_append.mp hr with hr | hr
      · simp only [List.mem_cons, List.not_mem_nil, or_false] at hr
        rcases hr with rfl | rfl | rfl | rfl | rfl <;> simp only [statusBlock] <;> omega
      · split at hr
        · rw [List.mem_singleton.mp hr]
          dsimp only
          omega
        · cases hr
    · cases result <;> rfl
  · refine congrArg BitVec.toNat ?_
    show (e.presence ||| _) ||| 0x0200#16 = _
    rw [BitVec.or_assoc]
    rfl
  · rw [bytes] at unchanged
    refine ((State.unchangedOutside_resultShown result found slot).mono fun r hr => ⟨r, ?_, le_rfl, le_rfl⟩).trans
      (unchanged.mono fun r hr => ⟨r, List.mem_cons_of_mem _ hr, le_rfl, le_rfl⟩)
    simp only [List.mem_cons, List.not_mem_nil, or_false] at hr
    rcases hr with rfl | rfl
    · exact List.mem_cons_of_mem _ (by simp [State.endingBytes])
    · exact List.mem_cons_self

end

end Sys2Proof.Machine
end

section
/-! SUPPORT. The settling of an exchange as a whole, and the two events that settle one (R42, R151 to R156). -/

namespace Sys2Proof.Machine

theorem State.eq_of_onBelt {s t : State} {lane : Lane} (belt : OnBelt s t) (only : OnlyLane lane s t) :
    t = { s with
      mem := t.mem, dirty := t.dirty, notices := t.notices, takeQueue := t.takeQueue, holds := t.holds
      lanes := s.lanes.set lane (t.tracker lane) } := by
  have lanes := only.lanes
  generalize t.tracker lane = r at lanes
  cases t
  cases s
  simp only [OnBelt] at belt
  simp only at lanes
  simp [belt, lanes]

/-- The base of a settling: the store and the lane's link have moved. -/
def State.settleBase (s : State) (lane : Lane) (d : Groups) (store : Store) (k : Link) : State :=
  { s with dirty := d, store := store, links := s.links.set lane k }

section
variable {s : State} {lane : Lane} {seq : Nat} {result : PrintResult} {d : Groups} {store : Store} {k : Link}

theorem State.settled_flush_eq (clean : s.dirty = Groups.none) :
    ((s.settleBase lane d store k).settled lane seq result).flush
      = { s with
          mem := ((s.settleBase lane d store k).settled lane seq result).flush.mem
          generation := ((s.settleBase lane d store k).settled lane seq result).flush.generation
          notices := ((s.settleBase lane d store k).settled lane seq result).flush.notices
          store := store
          holds := ((s.settleBase lane d store k).settled lane seq result).flush.holds
          takeQueue := ((s.settleBase lane d store k).settled lane seq result).flush.takeQueue
          lanes := s.lanes.set lane (((s.settleBase lane d store k).settled lane seq result).flush.tracker lane)
          links := s.links.set lane k } := by
  have eq := State.eq_of_onBelt (State.settled_onBelt (s := s.settleBase lane d store k) (lane := lane) (seq := seq) (result := result))
    State.settled_onlyLane
  have lanes : ((s.settleBase lane d store k).settled lane seq result).flush.tracker lane
      = ((s.settleBase lane d store k).settled lane seq result).tracker lane := by
    rw [State.tracker, (State.flush_frame _).2.2.2.2.2.2.2.2.2.2.2.1]
    rfl
  generalize (s.settleBase lane d store k).settled lane seq result = t at eq lanes
  have flushed := flush_eq t
  rw [lanes]
  generalize t.flush = u at flushed
  generalize u.mem = um, u.generation = ug at flushed ⊢
  subst flushed
  dsimp only
  rw [← clean]
  generalize t.mem = m, t.dirty = d', t.notices = n, t.takeQueue = q, t.holds = h, t.tracker lane = r at eq
  subst eq
  rfl

/-- The third fault, in the terms of `SettlesExchange`. -/
theorem State.faultHalts_iff (faults : result ≠ .printed → k.faults = min ((s.link lane).faults + 1) 3) :
    (s.settleBase lane d store k).FaultHalts lane result
      ↔ result ≠ .printed ∧ 2 ≤ (s.link lane).faults ∧ (s.tracker lane).state.tracks = true := by
  have link : (s.settleBase lane d store k).link lane = k := PerLane.get_set_same ..
  unfold State.FaultHalts
  rw [link]
  refine and_congr_right fun fault => and_congr_left fun _ => ?_
  rw [faults fault]
  omega

theorem settledEndings_eq {e : TrackEntry} {halts halts' : Prop} [Decidable halts] [Decidable halts'] (same : halts ↔ halts')
    (found : (s.tracker lane).find seq = some e) :
    s.settledEndings lane seq result e halts
      = e.ownEndings result
        ++ (if e.position = .exit
            then ((s.tracker lane).withPrintResult seq |>.map fun x =>
              if x.seq == seq then { x with stage := settledStage result } else x).filter (fun x => x.seq != seq)
            else (s.tracker lane).withPrintResult seq |>.map fun x =>
              if x.seq == seq then { x with stage := settledStage result } else x).map
          fun x => (if halts' then x.halted else x).endedFor .jammed := by
  unfold State.settledEndings keptEndings
  rw [State.queue_settleEntry result found, queue_resulted found result]
  simp only [same]

end

end Sys2Proof.Machine
end

section
/-! SUPPORT. A settled exchange, in the terms of `SettlesExchange` (R42, R152, R153, R156). -/

namespace Sys2Proof.Machine

theorem laneMemory_unchanged {s t u : State} {lane : Lane} (own : UnchangedOutside (laneMemory lane) s t)
    (status : UnchangedOutside [statusBlock] t u) :
    UnchangedOutside [statusBlock, (slotsBase lane, 2048), (summaryAddress lane, 64)] s u :=
  (own.mono fun r hr => ⟨r, List.mem_cons_of_mem _ hr, le_rfl, le_rfl⟩).trans
    (status.mono fun r hr => ⟨r, List.mem_singleton.mp hr ▸ List.mem_cons_self, le_rfl, le_rfl⟩)

section
variable {s : State} {lane : Lane} {imprint : Imprint} {result : PrintResult} {late : Option Half} {store : Store} {k : Link}
  {d : Groups} (clean : s.dirty = Groups.none)
  (items : store.items = { s.items with
      marks := s.items.marks.set lane none
      spoiled := if result = .printed then s.items.spoiled
        else placeSpoiled
          { serial := imprint.serial, lane := lane, amount := imprint.amount, account := imprint.account
            day := imprint.day, cause := result } s.items.spoiled })
  (check : store.check = store.items.checkWord)
  (link : k = { s.link lane with
      state := .idle, outstanding := none, heldDispatch := false, timer := none, expiryHeld := false, late := late
      faults := if result = .printed then 0 else min ((s.link lane).faults + 1) 3 })
  (groups : result = .printed → d = Groups.none)
include clean items check link groups

theorem State.settlesExchange :
    s.SettlesExchange ((s.settleBase lane d store k).settled lane imprint.seq result).flush lane imprint result late := by
  classical
  have faults : result ≠ .printed → k.faults = min ((s.link lane).faults + 1) 3 := fun fault => by
    rw [link]
    exact if_neg fault
  have halting := State.faultHalts_iff (s := s) (lane := lane) (d := d) (store := store) faults
  have links : (s.settleBase lane d store k).link lane = k := PerLane.get_set_same ..
  have idle : ((s.settleBase lane d store k).link lane).outstanding = none := by rw [links, link]
  have eq := State.settled_flush_eq (lane := lane) (seq := imprint.seq) (result := result) (d := d) (store := store) (k := k) clean
  have memory := unchangedOutside_flush ((s.settleBase lane d store k).settled lane imprint.seq result)
  obtain ⟨-, -, -, -, order, -, -, -, -, -, notices, lanes, -, takes, -, -, -, -, holds, -⟩ :=
    State.flush_frame ((s.settleBase lane d store k).settled lane imprint.seq result)
  have tracker : ((s.settleBase lane d store k).settled lane imprint.seq result).flush.tracker lane
      = ((s.settleBase lane d store k).settled lane imprint.seq result).tracker lane := by rw [State.tracker, lanes]; rfl
  have linked : ((s.settleBase lane d store k).settled lane imprint.seq result).flush.link lane = k := by
    rw [eq]
    exact PerLane.get_set_same ..
  have stored : ((s.settleBase lane d store k).settled lane imprint.seq result).flush.store = store := by rw [eq]
  refine ⟨by rw [eq]; exact items, by rw [eq]; exact check, by rw [linked]; exact link, by rw [linked, stored]; exact eq, fun below => ?_,
    fun halts => ?_, fun waiting => ?_, fun kept => ?_, fun e index found slot => ⟨fun tracks kept before => ?_,
    fun tracks kept past _ => ?_, fun emptied => ?_⟩⟩
  · exact laneMemory_unchanged (State.confined_settled (s := s.settleBase lane d store k) idle below) memory
  · have stops := halting.mpr halts
    obtain ⟨p, own, rest, from_, -, same, sameTakes⟩ := State.settled_emptied_leaves (seq := imprint.seq) idle (.inl stops)
    have raised := from_.raised.2.2 (laneHaltCause lane)
    have released := from_.holds
    have left := from_.takeQueue
    have lane' := from_.tracker
    rw [if_pos stops] at raised released left lane'
    refine ⟨by rw [tracker, lane'], by rw [tracker, lane'], by rw [tracker, lane'], ?_, ?_, ?_⟩
    · rw [notices, raised]
      simp
    · rw [holds, released, same]
      rfl
    · rw [takes, left, sameTakes]
      rfl
  · have stopped : ¬ (s.settleBase lane d store k).FaultHalts lane result := fun third => by
      have tracks : (s.tracker lane).state.tracks = true := third.2.2
      rw [waiting] at tracks
      nomatch tracks
    obtain ⟨p, own, rest, from_, cause, -, -⟩ := State.settled_emptied_leaves (seq := imprint.seq) idle (.inr waiting)
    have lane' := from_.tracker
    rw [if_neg stopped, cause] at lane'
    exact ⟨by rw [tracker, lane']; rfl, by rw [tracker, lane'], by rw [tracker, lane']⟩
  · obtain ⟨same, sameTakes⟩ := State.settled_releases (seq := imprint.seq) idle fun third => kept (halting.mp third)
    exact ⟨holds.trans same, takes.trans sameTakes⟩
  · have open_ : ¬ (s.settleBase lane d store k).FaultHalts lane result := fun third => kept (halting.mp third)
    have written : UnchangedOutside (if result = .printed then [] else [statusBlock])
        ((s.settleBase lane d store k).settled lane imprint.seq result)
        ((s.settleBase lane d store k).settled lane imprint.seq result).flush := by
      split
      case isTrue printed =>
        have stays := State.settled_stays (s := s.settleBase lane d store k) found tracks open_ before
        have moves := State.resultShown_moves (s := s.settleBase lane d store k) result found
        rw [flush_clean]
        · exact .of_mem _ rfl rfl
        · rw [stays, moves]
          exact groups printed
      case isFalse => exact memory
    exact State.settled_stays_shows (s := s.settleBase lane d store k) found slot tracks open_ before written fun r hr => by
      split at hr
      · cases hr
      · exact List.mem_singleton.mp hr
  · exact State.settled_ends_shows (s := s.settleBase lane d store k) found slot tracks (fun third => kept (halting.mp third)) past
  · have empties := emptied.imp_left halting.mpr
    have endings := settledEndings_eq (s := s.settleBase lane d store k) (result := result) halting found
    have all := State.endsAll_settled (s := s.settleBase lane d store k) found idle empties lanes order memory
    have shows := State.result_settled (s := s.settleBase lane d store k) found slot idle empties order memory
    have raised := State.raised_settled (s := s.settleBase lane d store k) found idle empties
    have bytes := State.unchangedOutside_settled (s := s.settleBase lane d store k) found slot idle empties memory
    rw [endings] at all raised bytes
    rw [← notices] at raised
    simp only [halting] at all raised
    exact ⟨all, shows, raised, bytes⟩

end

end Sys2Proof.Machine
end

section
/-! SUPPORT. The end of a read and the answer timer's expiry (R151 to R156). -/

namespace Sys2Proof.Machine

/-- An event whose whole update is made within it. -/
theorem exec_of_eventPlan_update {i : Instr} {s t : State} {work : Work} {values : Items} (ready : s.Ready)
    (event : exec i s = powered (fun s => s.occur i) s) (made : paceOf i = .made) (plan : eventPlan i s = .update work values t) :
    exec i s = .next ((t.makeUpdate work values).after work).flush := by
  obtain ⟨supply, idle, -⟩ := ready
  rw [event, powered_on _ supply, State.occur_idle idle, plan, made]
  rfl

/-! ### The base of a settling -/

/-- The retained store once the update of a settling is made. -/
def State.settledStore (s : State) (lane : Lane) (imprint : Imprint) (result : PrintResult) : Store :=
  { items := s.items.settle lane imprint result, latch := s.store.latch, check := (s.items.settle lane imprint result).checkWord
    record := .empty }

theorem State.afterSettle_settled {s : State} {lane : Lane} {k : Link} {imprint : Imprint} (rest : s.inStore = none)
    (outstanding : k.outstanding = some imprint) (result : PrintResult) (expired : Bool) :
    (((s.setLink lane k).makeUpdate (.settle lane result expired) ((s.setLink lane k).items.settle lane imprint result)).after
        (.settle lane result expired))
      = (s.settleBase lane (if result = .printed then s.dirty else { s.dirty with spoiled := true })
          (s.settledStore lane imprint result) (k.settle imprint result expired)).settled lane imprint.seq result := by
  have base : (if result = .printed
      then ((s.setLink lane k).makeUpdate (.settle lane result expired) ((s.setLink lane k).items.settle lane imprint result)).onLink
        lane (fun k => k.settle imprint result expired)
      else (((s.setLink lane k).makeUpdate (.settle lane result expired) ((s.setLink lane k).items.settle lane imprint result)).onLink
        lane (fun k => k.settle imprint result expired)).touchSpoiled)
      = s.settleBase lane (if result = .printed then s.dirty else { s.dirty with spoiled := true })
          (s.settledStore lane imprint result) (k.settle imprint result expired) := by
    have latch : (s.store.latch || (Work.settle lane result expired).setsLatch) = s.store.latch := Bool.or_false _
    unfold State.makeUpdate State.place State.settleBase State.settledStore Items.newValues
    split
    case isTrue =>
      rw [← rest]
      cases lane <;> simp [State.onLink, State.setLink, State.link, PerLane.set, PerLane.get, Work.setsLatch, State.items]
    case isFalse =>
      rw [← rest]
      cases lane <;>
        simp [State.onLink, State.setLink, State.link, PerLane.set, PerLane.get, Work.setsLatch, State.items, State.touchSpoiled]
  have there : (((s.setLink lane k).makeUpdate (.settle lane result expired)
      ((s.setLink lane k).items.settle lane imprint result)).link lane).outstanding = some imprint := by
    show ((s.links.set lane k).get lane).outstanding = _
    rw [PerLane.get_set_same]
    exact outstanding
  show State.afterSettle _ lane result expired = _
  unfold State.afterSettle
  rw [there]
  dsimp only
  rw [base]
  rfl

/-- Whatever link the exchange is settled from, its fault count and imprint make the effect. -/
theorem State.settlesExchange_of {s : State} {lane : Lane} {k : Link} {imprint : Imprint} (ready : s.Ready)
    (outstanding : k.outstanding = some imprint)
    (same : k = { s.link lane with state := k.state, late := k.late }) (result : PrintResult) (expired : Bool) :
    s.SettlesExchange
      (((s.setLink lane k).makeUpdate (.settle lane result expired) ((s.setLink lane k).items.settle lane imprint result)).after
        (.settle lane result expired)).flush lane imprint result
      (if expired then some (lowSerial imprint.serial) else k.late) := by
  rw [State.afterSettle_settled ready.2.1 outstanding]
  refine State.settlesExchange ready.2.2 rfl rfl ?_ fun printed => ?_
  · have faults : k.faults = (s.link lane).faults := by rw [same]
    unfold Link.settle faultsAfter
    rw [same]
  · rw [if_pos printed]
    exact ready.2.2

/-! ### The two events -/

theorem answerFramePlan_present {s : State} {lane : Lane} (frame : BitVec 48) (pace : Pace) (present : s.present lane = true) :
    eventPlan (.answer lane frame pace) s = s.answerPlan lane frame :=
  State.linkPlan_present (fun s => s.answerPlan lane frame) present

theorem timerPlan_present {s : State} {lane : Lane} (pace : Pace) (present : s.present lane = true) :
    eventPlan (.answerTimerExpiry lane pace) s = s.expiryPlan lane := State.linkPlan_present (fun s => s.expiryPlan lane) present

section
variable {s : State} {lane : Lane} {frame : BitVec 48} {imprint : Imprint} (reading : (s.link lane).state = .reading)
  (outstanding : (s.link lane).outstanding = some imprint) (own : (s.link lane).heldDispatch = false)
include reading outstanding own

theorem State.answerPlan_judged :
    s.answerPlan lane frame
      = match judgeAnswer frame imprint.serial (s.link lane).late with
        | .settles result => s.settlePlan lane result false
        | .late =>
          if (s.link lane).expiryHeld then
            (s.setLink lane { s.link lane with late := none, state := .awaiting }).settlePlan lane .noAnswer true
          else .done (s.setLink lane { s.link lane with late := none, state := .awaiting }) := by
  unfold State.answerPlan
  simp only [reading, outstanding, own] <;> rfl

end

theorem State.settlePlan_outstanding {s : State} {lane : Lane} {imprint : Imprint} (outstanding : (s.link lane).outstanding = some imprint)
    (result : PrintResult) (expired : Bool) :
    s.settlePlan lane result expired = .update (.settle lane result expired) (s.items.settle lane imprint result) s := by
  unfold State.settlePlan
  rw [outstanding]

theorem State.setLink_self (s : State) (lane : Lane) : s.setLink lane (s.link lane) = s := by cases lane <;> rfl

/-- The settling of an exchange by an event whose plan it is. -/
theorem exec_settles {i : Instr} {s : State} {lane : Lane} {k : Link} {imprint : Imprint} {result : PrintResult} {expired : Bool}
    (ready : s.Ready) (event : exec i s = powered (fun s => s.occur i) s) (made : paceOf i = .made)
    (plan : eventPlan i s = (s.setLink lane k).settlePlan lane result expired) (outstanding : k.outstanding = some imprint)
    (same : k = { s.link lane with state := k.state, late := k.late }) :
    ∃ t, exec i s = .next t
      ∧ s.SettlesExchange t lane imprint result (if expired then some (lowSerial imprint.serial) else k.late) := by
  have there : ((s.setLink lane k).link lane).outstanding = some imprint := by
    rw [link_setLink]
    exact outstanding
  exact ⟨_, exec_of_eventPlan_update ready event made (plan.trans (State.settlePlan_outstanding there result expired)),
    State.settlesExchange_of ready outstanding same result expired⟩

/-- Settles O58: the expiry in AWAITING is a settling, `State.settlesExchange`; in READING it is held. -/
theorem timerExpirySpoils : Obligations.TimerExpirySpoils := by
  intro lane s imprint time ready present timer outstanding
  refine ⟨fun awaiting => ?_, fun pace reading => ?_⟩
  · have expires : s.expiryPlan lane = s.settlePlan lane .noAnswer true := by simp only [State.expiryPlan, timer, awaiting]
    exact exec_settles (k := s.link lane) ready rfl rfl (by rw [timerPlan_present .made present, expires, State.setLink_self]) outstanding rfl
  · have holds : s.expiryPlan lane = .done (s.setLink lane { s.link lane with timer := none, expiryHeld := true }) := by
      simp only [State.expiryPlan, timer, reading]
    exact exec_of_eventPlan_done_unmarked ready rfl ((timerPlan_present pace present).trans holds) rfl

end Sys2Proof.Machine
end

section
/-! SUPPORT. An ANSWER frame read in an exchange or late (R151, R154, R155, R196). -/

namespace Sys2Proof.Machine

/-! ### The fields of an ANSWER frame -/

theorem answerBytes_eq (frame : BitVec 48) :
    answerBytes frame
      = [BitVec.ofNat 8 (frame.toNat / 2 ^ 40), BitVec.ofNat 8 (frame.toNat / 2 ^ 32), BitVec.ofNat 8 (frame.toNat / 2 ^ 24),
          BitVec.ofNat 8 (frame.toNat / 2 ^ 16), BitVec.ofNat 8 (frame.toNat / 2 ^ 8), BitVec.ofNat 8 frame.toNat] := by
  simp [answerBytes, highFirstBytes, lowFirstBytes, Nat.div_div_eq_div_mul]

section
variable (frame : BitVec 48)

theorem answer_check : ofHighFirst ((answerBytes frame).drop 4) = frame.toNat % 65536 := by
  simp [answerBytes_eq, ofHighFirst, ofLowFirst]
  omega

theorem answer_kind : ofHighFirst ((answerBytes frame).take 1) = frame.toNat / 2 ^ 40 := by
  have := frame.isLt
  simp [answerBytes_eq, ofHighFirst, ofLowFirst]
  omega

theorem answer_serial : ofHighFirst (((answerBytes frame).drop 1).take 2) = frame.toNat / 2 ^ 24 % 65536 := by
  simp [answerBytes_eq, ofHighFirst, ofLowFirst]
  omega

theorem answer_code : ofHighFirst (((answerBytes frame).drop 3).take 1) = frame.toNat / 2 ^ 16 % 256 := by
  simp [answerBytes_eq, ofHighFirst, ofLowFirst]

end

/-- A 16-bit serial is the low half of an imprint's. -/
theorem lowSerial_eq_iff (given serial : Nat) : BitVec.ofNat 16 (given % 65536) = lowSerial serial ↔ given % 65536 = serial % 65536 := by
  unfold lowSerial
  rw [← BitVec.toNat_inj, BitVec.toNat_ofNat, BitVec.toNat_ofNat]
  omega

theorem answerResultOfCode_eq_some {code : Nat} {result : PrintResult} (low : 1 ≤ code) (high : code ≤ 5)
    (code_ : code = printResultCode result) : answerResultOfCode code = some result := by
  subst code_
  cases result
  case noAnswer | badAnswer | unconfirmed => simp [printResultCode] at high
  all_goals rfl

theorem answerResultOfCode_eq_none {code : Nat} (out : code = 0 ∨ 5 < code) : answerResultOfCode code = none := by
  unfold answerResultOfCode
  split
  case h_6 => rfl
  all_goals omega

/-! ### The judgement (R151) -/

section
variable {frame : BitVec 48} {serial : Nat} {late : Option Half}

/-- A frame whose link check and kind are right. -/
def GoodFrame (frame : BitVec 48) : Prop :=
  (crc16 0xFFFF#16 ((answerBytes frame).take 4)).toNat = frame.toNat % 65536 ∧ frame.toNat / 2 ^ 40 = 0x52

theorem judgeAnswer_bad (bad : ¬ GoodFrame frame) : judgeAnswer frame serial late = .settles .badAnswer := by
  unfold judgeAnswer
  dsimp only
  rw [answer_check, answer_kind]
  by_cases check : (crc16 0xFFFF#16 ((answerBytes frame).take 4)).toNat = frame.toNat % 65536
  · have kind : frame.toNat / 2 ^ 40 ≠ answerKind := fun kind => bad ⟨check, kind⟩
    rw [if_neg (not_not.mpr check), if_pos kind]
  · rw [if_pos check]

theorem judgeAnswer_good (good : GoodFrame frame) :
    judgeAnswer frame serial late
      = if frame.toNat / 2 ^ 24 % 65536 = serial % 65536 then
          match answerResultOfCode (frame.toNat / 2 ^ 16 % 256) with
          | some result => .settles result
          | none => .settles .badAnswer
        else if late = some (BitVec.ofNat 16 (frame.toNat / 2 ^ 24 % 65536)) then .late else .settles .badAnswer := by
  have kind : frame.toNat / 2 ^ 40 = answerKind := good.2
  unfold judgeAnswer
  dsimp only
  rw [answer_check, answer_kind, answer_serial, answer_code, if_neg (not_not.mpr good.1), if_neg (not_not.mpr kind)]
  by_cases mine : frame.toNat / 2 ^ 24 % 65536 = serial % 65536
  · rw [if_pos mine, if_neg (not_not.mpr ((lowSerial_eq_iff _ _).mpr mine))] <;> rfl
  · have other : BitVec.ofNat 16 (frame.toNat / 2 ^ 24 % 65536) ≠ lowSerial serial := mine ∘ (lowSerial_eq_iff _ _).mp
    rw [if_neg mine, if_pos other]

theorem judgeAnswer_settles {result : PrintResult}
    (h : GoodFrame frame ∧ frame.toNat / 2 ^ 24 % 65536 = serial % 65536 ∧ 1 ≤ frame.toNat / 2 ^ 16 % 256
          ∧ frame.toNat / 2 ^ 16 % 256 ≤ 5 ∧ frame.toNat / 2 ^ 16 % 256 = printResultCode result
        ∨ (¬ GoodFrame frame
            ∨ GoodFrame frame ∧ ¬ frame.toNat / 2 ^ 24 % 65536 = serial % 65536
              ∧ ¬ (¬ frame.toNat / 2 ^ 24 % 65536 = serial % 65536
                  ∧ late = some (BitVec.ofNat 16 (frame.toNat / 2 ^ 24 % 65536)))
            ∨ GoodFrame frame ∧ frame.toNat / 2 ^ 24 % 65536 = serial % 65536
              ∧ (frame.toNat / 2 ^ 16 % 256 = 0 ∨ 5 < frame.toNat / 2 ^ 16 % 256))
          ∧ result = .badAnswer) :
    judgeAnswer frame serial late = .settles result := by
  rcases h with ⟨good, mine, low, high, code⟩ | ⟨bad | ⟨good, other, stale⟩ | ⟨good, mine, out⟩, rfl⟩
  · rw [judgeAnswer_good good, if_pos mine, answerResultOfCode_eq_some low high code]
  · exact judgeAnswer_bad bad
  · rw [judgeAnswer_good good, if_neg other, if_neg fun is => stale ⟨other, is⟩]
  · rw [judgeAnswer_good good, if_pos mine, answerResultOfCode_eq_none out]

theorem judgeAnswer_late (good : GoodFrame frame) (other : ¬ frame.toNat / 2 ^ 24 % 65536 = serial % 65536)
    (is : late = some (BitVec.ofNat 16 (frame.toNat / 2 ^ 24 % 65536))) : judgeAnswer frame serial late = .late := by
  rw [judgeAnswer_good good, if_neg other, if_pos is]

end

/-! ### The end of a read -/

/-- Settles O57: the judgement of the frame, each of its outcomes with the link's rule for it. -/
theorem answerSettlesOrIsLate : Obligations.AnswerSettlesOrIsLate := by
  constructor
  · intro lane frame s imprint ready present reading outstanding own k good serial code mine isLate
    have judged := State.answerPlan_judged (frame := frame) reading outstanding own
    refine ⟨fun result settles => ?_, fun right late fresh pace => ?_, fun right late expired => ?_⟩
    · have found : judgeAnswer frame imprint.serial (s.link lane).late = .settles result := judgeAnswer_settles settles
      rw [found] at judged
      exact exec_settles (k := s.link lane) ready rfl rfl
        (by rw [answerFramePlan_present frame .made present, judged, State.setLink_self]) outstanding rfl
    · have found : judgeAnswer frame imprint.serial (s.link lane).late = .late := judgeAnswer_late right late.1 late.2
      rw [found] at judged
      exact exec_of_eventPlan_done_unmarked ready rfl
        ((answerFramePlan_present frame pace present).trans (judged.trans (if_neg (by rw [fresh]; nofun)))) rfl
    · have found : judgeAnswer frame imprint.serial (s.link lane).late = .late := judgeAnswer_late right late.1 late.2
      rw [found] at judged
      exact exec_settles (k := { s.link lane with late := none, state := .awaiting }) ready rfl rfl
        ((answerFramePlan_present frame .made present).trans (judged.trans (if_pos expired))) outstanding rfl
  · intro lane frame pace s ready present reading
    refine ⟨fun idle => ?_, fun imprint outstanding held => ?_⟩
    · have plan : s.answerPlan lane frame = .done (s.setLink lane { s.link lane with late := none, state := .idle }) := by
        unfold State.answerPlan
        simp only [reading, idle]
      exact exec_of_eventPlan_done_unmarked ready rfl ((answerFramePlan_present frame pace present).trans plan) rfl
    · have plan : s.answerPlan lane frame
          = .done (s.setLink lane { s.link lane with late := none, heldDispatch := false, state := .sending }) := by
        unfold State.answerPlan
        simp only [reading, outstanding, held, if_true]
      exact exec_of_eventPlan_done_unmarked ready rfl ((answerFramePlan_present frame pace present).trans plan) rfl

end Sys2Proof.Machine
end

section
/-! SUPPORT. A PRINT event that debits a HELD piece and hands its imprint to the link (R41, R118, R119, R147, R148, R196). -/

namespace Sys2Proof.Machine

/-! ### The IMPRINT frame -/

theorem highFirstBytes_one (n : Nat) : highFirstBytes 1 n = [BitVec.ofNat 8 n] := rfl

theorem highFirstBytes_two (n : Nat) : highFirstBytes 2 n = [BitVec.ofNat 8 (n / 256), BitVec.ofNat 8 n] := rfl

theorem highFirstBytes_three (n : Nat) :
    highFirstBytes 3 n = [BitVec.ofNat 8 (n / 256 / 256), BitVec.ofNat 8 (n / 256), BitVec.ofNat 8 n] := rfl

theorem highFirstBytes_four (n : Nat) :
    highFirstBytes 4 n
      = [BitVec.ofNat 8 (n / 256 / 256 / 256), BitVec.ofNat 8 (n / 256 / 256), BitVec.ofNat 8 (n / 256), BitVec.ofNat 8 n] := rfl

theorem imprintFrame_eq (lane : Lane) (licence : Licence) (hold : Hold) (serial day : Nat) {e : TrackEntry} {input : InputCopy}
    {format : Nat} {offset : Int} (copied : e.input = some input) (formatted : e.format = some format)
    (set_ : e.offset = some offset) :
    imprintFrame lane licence hold serial day e
      = imprintBytes lane licence serial day hold.amount input.cls format input.slogan offset := by
  have low : BitVec.ofNat 8 (unsignedOf 8 offset) = BitVec.ofInt 8 offset :=
    (BitVec.ofNat_toNat ..).trans (BitVec.setWidth_eq _)
  have code : BitVec.ofNat 8 (laneCode lane) = if lane = .a then (0 : Byte) else 1 := by cases lane <;> rfl
  have seed : BitVec.ofNat 16 licence.seed.toNat = licence.seed.setWidth 16 := rfl
  unfold imprintFrame imprintBytes imprintBody imprintCore
  rw [copied, formatted, set_]
  simp only [Option.map_some, Option.getD_some, highFirstBytes_one, highFirstBytes_two, highFirstBytes_three,
    highFirstBytes_four, low, code, seed, Nat.div_div_eq_div_mul, pow_zero, pow_one, Nat.div_one,
    List.cons_append, List.nil_append, Nat.reducePow, Nat.reduceMul]
  rfl

/-! ### The piece dispatched -/

/-- A debited piece past PRINT, with its serial and day shown. -/
def TrackEntry.debitShown (e x : TrackEntry) : TrackEntry :=
  { x with position := .print, distance := 0, stage := .dispatched, presence := e.presence ||| 0x0060#16 }

/-- The fields that a debit writes into the slot (R118). -/
def debitFields (lane : Lane) (e : TrackEntry) (serial day index : Nat) : List Field :=
  [slotField lane index 0x2C 4 serial, slotField lane index 0x30 2 day, slotField lane index 0x02 2 (e.presence ||| 0x0060#16).toNat]

theorem debitFields_apart (lane : Lane) (e : TrackEntry) (serial day index : Nat) :
    (debitFields lane e serial day index).Pairwise Field.Apart := by
  simp [debitFields, slotField, Field.Apart]

theorem State.dispatched_steps_eq (s : State) (lane : Lane) (f g : Tracker → Tracker) (fs : List Field) (k : Link → Link) :
    (((s.onTracker lane f).writeFields fs).onTracker lane g).onLink lane k
      = { s with
          mem := (s.writeFields fs).mem, lanes := s.lanes.set lane (g (f (s.tracker lane)))
          links := s.links.set lane (k (s.link lane)) } := by
  cases lane <;> rfl

theorem debit_presence (e : TrackEntry) : [serialBit, dayBit].foldl withBit e.presence = e.presence ||| 0x0060#16 := by
  show (e.presence ||| _) ||| _ = _
  rw [BitVec.or_assoc]
  rfl

theorem State.dispatched_eq {s : State} {lane : Lane} {hold : Hold} {e : TrackEntry} {index : Nat} (of : e.seq = hold.seq)
    (slot : e.slot = some index) (serial day : Nat) (imprint : Imprint) :
    s.dispatched lane hold serial day e imprint
      = { s with
          mem := (s.writeFields (debitFields lane e serial day index)).mem
          lanes := s.lanes.set lane ((s.tracker lane).onEntry hold.seq e.debitShown)
          links := s.links.set lane ((s.link lane).dispatch imprint) } := by
  have same := (s.tracker lane).onEntry_onEntry hold.seq (fun x => { x with presence := e.presence ||| 0x0060#16 })
    (fun x => { x.pass .print with stage := .dispatched }) fun _ => rfl
  have fields : [slotField lane index 0x2C 4 serial, slotField lane index 0x30 2 day]
      ++ presenceFields lane index (e.presence ||| 0x0060#16) [serialBit, dayBit] = debitFields lane e serial day index := rfl
  unfold State.dispatched State.writeResults State.onEntry
  rw [slot, debit_presence, of]
  dsimp only
  rw [fields, State.dispatched_steps_eq]
  exact congrArg (fun r => { s with
    mem := (s.writeFields (debitFields lane e serial day index)).mem, lanes := s.lanes.set lane r
    links := s.links.set lane ((s.link lane).dispatch imprint) }) same

/-! ### The plan -/

theorem State.holdOf_eq_some {s : State} {lane : Lane} {seq : Nat} {hold : Hold} (h : s.holdOf lane seq = some hold) :
    hold.lane = lane ∧ hold.seq = seq := by
  have for_ : hold.isFor lane seq = true := List.find?_some (p := fun x : Hold => x.isFor lane seq) h
  simpa [Hold.isFor] using for_

theorem State.dispatchRefusal_passes {s : State} {lane : Lane} (linkOn : (s.tracker lane).config.link = true)
    (free : (s.link lane).outstanding = none) (room : s.items.spoiled.length + s.items.marksPresent < 64)
    (valid : s.calendar.valid = true) : s.dispatchRefusal lane = none := by
  unfold State.dispatchRefusal spoiledLimit
  simp [linkOn, free, Nat.not_le.mpr room, valid]

section
variable {s : State} {lane : Lane} {e : TrackEntry} {hold : Hold} (applies : (s.tracker lane).applies .print = some e)
  (held : e.stage = .held) (passes : s.dispatchRefusal lane = none) (has : s.holdOf lane e.seq = some hold)
include applies held passes has

theorem State.printPhotocell_debits :
    s.printPhotocell lane
      = .update (.debit lane hold (s.items.pieceCount + 1) s.calendar.imprintDay)
          (s.items.debit lane hold (s.items.pieceCount + 1) s.calendar.imprintDay) s := by
  rw [State.printPhotocell_held applies held, State.dispatchPlan, passes, has]

end

/-- The retained store once a debit is made. -/
def State.debitedStore (s : State) (lane : Lane) (hold : Hold) (serial day : Nat) : Store :=
  { items := s.items.debit lane hold serial day, latch := s.store.latch, check := (s.items.debit lane hold serial day).checkWord
    record := .empty }

theorem State.makeUpdate_debit_eq {s : State} (idle : s.inStore = none) (lane : Lane) (hold : Hold) (serial day : Nat) :
    s.makeUpdate (.debit lane hold serial day) (s.items.debit lane hold serial day)
      = { s with store := s.debitedStore lane hold serial day } := by
  unfold State.makeUpdate State.place State.debitedStore Items.newValues
  rw [← idle]
  simp [Work.setsLatch]

/-- The state of a debit made and its piece dispatched, before the rewrite of the status block. -/
theorem State.after_debit_eq {s : State} {lane : Lane} {hold : Hold} {e : TrackEntry} {index : Nat} {licence : Licence}
    (idle : s.inStore = none) (found : (s.tracker lane).find hold.seq = some e) (slot : e.slot = some index)
    (licensed : s.items.licence = some licence) (serial day : Nat) :
    (s.makeUpdate (.debit lane hold serial day) (s.items.debit lane hold serial day)).after (.debit lane hold serial day)
      = { s with
          mem := (s.writeFields (debitFields lane e serial day index)).mem
          dirty := { s.dirty with funds := true }
          lanes := s.lanes.set lane ((s.tracker lane).onEntry hold.seq e.debitShown)
          links := s.links.set lane ((s.link lane).dispatch (imprintOf lane licence hold serial day e))
          holds := withoutHold s.holds lane hold.seq
          store := s.debitedStore lane hold serial day } := by
  rw [State.makeUpdate_debit_eq idle]
  have there : (State.tracker { s with store := s.debitedStore lane hold serial day } lane).find hold.seq = some e := found
  have holds : (State.items { s with store := s.debitedStore lane hold serial day }).licence = some licence := licensed
  refine (State.afterDebit_found there holds serial day).trans ?_
  rw [State.dispatched_eq (Tracker.find_seq found) slot]
  rfl

end Sys2Proof.Machine
end

section
/-! SUPPORT. The dispatch of a HELD piece by its PRINT event (R41, R118, R119, R147). -/

namespace Sys2Proof.Machine

/-- The state after a PRINT event that debits. -/
def State.debited (s : State) (lane : Lane) (hold : Hold) : State :=
  let serial := s.items.pieceCount + 1
  let day := s.calendar.imprintDay
  ((s.makeUpdate (.debit lane hold serial day) (s.items.debit lane hold serial day)).after (.debit lane hold serial day)).flush

section
variable {s : State} {lane : Lane} {hold : Hold} {e : TrackEntry} {index : Nat} {licence : Licence}
  (idle : s.inStore = none) (found : (s.tracker lane).find hold.seq = some e) (slot : e.slot = some index)
  (licensed : s.items.licence = some licence)
include idle found slot licensed

theorem State.debited_eq (clean : s.dirty = Groups.none) :
    s.debited lane hold
      = { s with
          mem := (s.debited lane hold).mem, generation := (s.debited lane hold).generation
          lanes := s.lanes.set lane ((s.tracker lane).onEntry hold.seq e.debitShown)
          links := s.links.set lane ((s.link lane).dispatch
            (imprintOf lane licence hold (s.items.pieceCount + 1) s.calendar.imprintDay e))
          holds := withoutHold s.holds lane hold.seq
          store := s.debitedStore lane hold (s.items.pieceCount + 1) s.calendar.imprintDay } := by
  have eq := State.after_debit_eq idle found slot licensed (s.items.pieceCount + 1) s.calendar.imprintDay
  refine (flush_eq _).trans ?_
  unfold State.debited
  dsimp only
  generalize State.flush _ = t
  rw [eq, ← clean]

theorem State.debited_reads {f : Field} (hf : f ∈ debitFields lane e (s.items.pieceCount + 1) s.calendar.imprintDay index) :
    (s.debited lane hold).readField f.address f.width = f.value % 256 ^ f.width := by
  have eq := State.after_debit_eq idle found slot licensed (s.items.pieceCount + 1) s.calendar.imprintDay
  have slotted : slotAddress lane index ≤ f.address := by
    simp only [debitFields, slotField, List.mem_cons, List.not_mem_nil, or_false] at hf
    rcases hf with rfl | rfl | rfl <;> simp
  have above := slotAddress_ge lane index
  refine ((unchangedOutside_flush _).readField (by simp) fun r hr => ?_).trans
    ((readField_of_mem (s := s.writeFields (debitFields lane e (s.items.pieceCount + 1) s.calendar.imprintDay index))
      (by rw [eq]) (by rw [eq]; simp) (by rw [eq]; simp) _ _).trans
      (readField_writeFields_of_mem s (debitFields_apart ..) hf))
  rw [List.mem_singleton.mp hr]
  exact .inr ((by decide : statusBlock.1 + statusBlock.2 ≤ 0x0800).trans (above.trans slotted))

theorem State.unchangedOutside_debited :
    UnchangedOutside [statusBlock, (slotAddress lane index + 0x02, 2), (slotAddress lane index + 0x2C, 6)] s
      (s.debited lane hold) := by
  have eq := State.after_debit_eq idle found slot licensed (s.items.pieceCount + 1) s.calendar.imprintDay
  have written := unchangedOutside_writeFields s (debitFields lane e (s.items.pieceCount + 1) s.calendar.imprintDay index)
  have moved : UnchangedOutside [(slotAddress lane index + 0x02, 2), (slotAddress lane index + 0x2C, 6)] s
      (s.writeFields (debitFields lane e (s.items.pieceCount + 1) s.calendar.imprintDay index)) := by
    refine written.mono fun r hr => ?_
    simp only [debitFields, slotField, List.map_cons, List.map_nil, List.mem_cons, List.not_mem_nil, or_false] at hr
    rcases hr with rfl | rfl | rfl
    · exact ⟨_, List.mem_cons_of_mem _ List.mem_cons_self, by simp, by simp⟩
    · exact ⟨_, List.mem_cons_of_mem _ List.mem_cons_self, by simp, by simp⟩
    · exact ⟨_, List.mem_cons_self, by simp, by simp⟩
  refine (moved.mono fun r hr => ⟨r, List.mem_cons_of_mem _ hr, le_rfl, le_rfl⟩).trans
    ((UnchangedOutside.of_mem _ (by rw [eq]) (by rw [eq]; simp)).trans
      ((unchangedOutside_flush _).mono fun r hr => ⟨r, List.mem_singleton.mp hr ▸ List.mem_cons_self, le_rfl, le_rfl⟩))

end

/-- Settles O19: the debit's update, and the dispatch that follows it within the event. -/
theorem printDebitsAHeldPiece : Obligations.PrintDebitsAHeldPiece := by
  intro lane edge s e index hold licence ready senses applies found slot held has licensed linkOn free room valid serial day at_ imprint
  obtain ⟨rfl, seq⟩ := State.holdOf_eq_some has
  have there : (s.tracker hold.lane).find hold.seq = some e := by rw [seq]; exact found
  have idle := ready.2.1
  have passes := State.dispatchRefusal_passes linkOn free room valid
  have eq := State.debited_eq idle there slot licensed ready.2.2
  have plan := (printPlan_sensed senses).trans (State.printPhotocell_debits applies held passes has)
  have reads {f : Field} (hf : f ∈ debitFields hold.lane e serial day index) :
      (s.debited hold.lane hold).readField f.address f.width = f.value % 256 ^ f.width :=
    State.debited_reads idle there slot licensed hf
  have same : imprintOf hold.lane licence hold serial day e = imprint := by
    unfold imprintOf
    rw [seq]
  have link : (s.debited hold.lane hold).link hold.lane = (s.link hold.lane).dispatch imprint := by
    rw [← same, eq]
    exact PerLane.get_set_same ..
  have tracker : (s.debited hold.lane hold).tracker hold.lane = (s.tracker hold.lane).onEntry hold.seq e.debitShown := by
    rw [eq]
    exact PerLane.get_set_same ..
  refine ⟨s.debited hold.lane hold, exec_of_eventPlan_update ready rfl rfl plan, ?_, ?_, ?_, ?_, ?_, ?_, ?_, ?_, ?_, ?_, ?_, ?_,
    State.unchangedOutside_debited idle there slot licensed⟩
  · rw [eq]
    rfl
  · rw [eq]
    rfl
  · rw [eq, ← seq]
    rfl
  · rw [link]
    exact Link.dispatch_outstanding _ _
  · exact fun input format offset copied formatted set_ => imprintFrame_eq hold.lane licence hold serial day copied formatted set_
  · intro idle_
    rw [link, Link.dispatch, idle_]
  · intro reading
    rw [link]
    unfold Link.dispatch
    split
    · rfl
    · rename_i other
      exact absurd reading other
  · have shown := Tracker.find_onEntry (f := e.debitShown) there fun _ => rfl
    rw [seq] at shown tracker
    rw [tracker]
    exact shown
  · refine (reads (List.mem_cons_of_mem _ (List.mem_cons_of_mem _ List.mem_cons_self))).trans ?_
    exact Nat.mod_eq_of_lt (BitVec.isLt _)
  · exact reads List.mem_cons_self
  · refine (reads (List.mem_cons_of_mem _ List.mem_cons_self)).trans ?_
    have bound : day ≤ 65535 := Nat.min_le_right _ _
    exact Nat.mod_eq_of_lt (by show day < 65536; omega)
  · rw [link, tracker, ← same]
    have store : (s.debited hold.lane hold).store = s.debitedStore hold.lane hold serial day := by
      rw [eq]
      rfl
    have holds : (s.debited hold.lane hold).holds = withoutHold s.holds hold.lane hold.seq := by rw [eq]
    rw [store, holds]
    exact eq

end Sys2Proof.Machine
end

section
/-! SUPPORT. The rating unit's take (R52, R66) and the funds unit's taking of a hold request (R39, R114, R128). -/

namespace Sys2Proof.Machine

/-! ### TAKE -/

theorem State.take_bound {s : State} {q : QueueEntry} {rest : List QueueEntry} {e : TrackEntry} {input : InputCopy}
    (idle : s.rating = none) (queue : s.takeQueue = q :: rest) (found : (s.tracker q.lane).find q.seq = some e)
    (copied : e.input = some input) :
    s.take
      = { s with
          takeQueue := rest
          lanes := s.lanes.set q.lane ((s.tracker q.lane).onEntry q.seq fun x => { x with stage := .rating })
          useCounts := s.useCounts.set s.items.activeBank (s.useCounts.get s.items.activeBank + 1)
          rating := some
            { lane := q.lane, seq := q.seq, bank := s.items.activeBank, window := (s.tracker q.lane).config.window, input := input
              working := worked (s.items.banks.get s.items.activeBank) input (s.tracker q.lane).config.window } } := by
  have head : ((State.tracker { s with takeQueue := rest } q.lane).find q.seq).bind TrackEntry.input = some input := by
    show ((s.tracker q.lane).find q.seq).bind TrackEntry.input = some input
    rw [found]
    exact copied
  unfold State.take
  split
  case h_1 q' rest' _ queue' =>
    cases queue.symm.trans queue'
    dsimp only
    rw [head]
    cases q.lane <;> rfl
  case h_2 other => exact (other q rest idle queue).elim

/-- Settles O51: `State.take` on the head of the queue; no group of the status block is marked. -/
theorem takeBindsTheHead : Obligations.TakeBindsTheHead := by
  intro s q rest e input ready idle queue found copied bank
  exact exec_of_eventPlan_done_unmarked ready rfl (congrArg Plan.done (State.take_bound idle queue found copied)) rfl

/-! ### A hold request -/

theorem Items.accountOpen_iff (x : Items) (account : Nat) :
    x.accountOpen account = true ↔ ∃ a, x.accounts[account]? = some a ∧ a.isOpen = true := by
  unfold Items.accountOpen
  cases x.accounts[account]? <;> simp

theorem State.inspectionPasses_iff (s : State) :
    s.inspectionPasses = true
      ↔ (s.calendar.valid = true → ∀ licence, s.items.licence = some licence →
          s.calendar.day - s.items.voucherDay < licence.interval) := by
  unfold State.inspectionPasses State.daysSince
  cases valid : s.calendar.valid <;> cases licence : s.items.licence <;> simp

/-- The funds of a hold request (R114). -/
def State.Funds (s : State) (request : Hold) : Prop :=
  request.amount ≤ s.available ∧ s.items.pieceCount + s.holds.length < 4294967295

theorem State.unfunded_iff (s : State) (request : Hold) :
    (s.available < request.amount ∨ largestSerial ≤ s.items.pieceCount + s.holds.length) ↔ ¬ s.Funds request := by
  have largest : largestSerial = 4294967295 := rfl
  unfold State.Funds
  omega

section
variable {s : State} {request : Hold}

theorem State.holdRefusal_passes (open_ : ∃ x, s.items.accounts[request.account]? = some x ∧ x.isOpen = true)
    (inspected : s.calendar.valid = true → ∀ licence, s.items.licence = some licence →
      s.calendar.day - s.items.voucherDay < licence.interval) (funded : s.Funds request) : s.holdRefusal request = none := by
  unfold State.holdRefusal
  rw [(s.items.accountOpen_iff _).mpr open_, s.inspectionPasses_iff.mpr inspected,
    if_neg (by simp), if_neg (by simp), if_neg ((s.unfunded_iff request).not.mpr (not_not.mpr funded))]

theorem State.holdRefusal_of {cause : DivertCause}
    (h : let accountOpen := ∃ x, s.items.accounts[request.account]? = some x ∧ x.isOpen = true
      let inspected := s.calendar.valid = true → ∀ licence, s.items.licence = some licence →
        s.calendar.day - s.items.voucherDay < licence.interval
      ¬ accountOpen ∧ cause = .accountClosed ∨ accountOpen ∧ ¬ inspected ∧ cause = .inspectionDue
        ∨ accountOpen ∧ inspected ∧ ¬ s.Funds request ∧ cause = .noFunds) :
    s.holdRefusal request = some cause := by
  unfold State.holdRefusal
  rcases h with ⟨closed, rfl⟩ | ⟨open_, due, rfl⟩ | ⟨open_, inspected, short, rfl⟩
  · rw [if_pos]
    simpa using fun passes => closed ((s.items.accountOpen_iff _).mp passes)
  · rw [(s.items.accountOpen_iff _).mpr open_, if_neg (by simp), if_pos]
    simpa using fun passes => due (s.inspectionPasses_iff.mp passes)
  · rw [(s.items.accountOpen_iff _).mpr open_, s.inspectionPasses_iff.mpr inspected, if_neg (by simp), if_neg (by simp),
      if_pos ((s.unfunded_iff request).mpr short)]

end

/-- A hold placed, before the alert is evaluated. -/
def State.holdPlaced (s : State) (request : Hold) : State :=
  { s with
    dirty := { s.dirty with funds := true }, holds := s.holds ++ [request]
    lanes := s.lanes.set request.lane ((s.tracker request.lane).onEntry request.seq fun x =>
      { x with stage := .held, held := some request.amount }) }

theorem State.low_holdPlaced (s : State) (request : Hold) :
    ((s.holdPlaced request).low && !s.low) = true
      ↔ s.items.descending - (holdsSum s.holds + request.amount) < s.items.alert ∧ s.items.alert ≤ s.available := by
  have sum : holdsSum (s.holds ++ [request]) = holdsSum s.holds + request.amount := by simp [holdsSum]
  have after : (s.holdPlaced request).low = decide (s.items.descending - holdsSum (s.holds ++ [request]) < s.items.alert) := rfl
  have before : s.low = decide (s.available < s.items.alert) := rfl
  rw [after, before, sum]
  simp

/-- A hold placed, with the alert it raises (R114, R128). -/
theorem State.placeHold_eq (s : State) (request : Hold) :
    s.placeHold request
      = { s.holdPlaced request with
          notices :=
            if s.items.descending - (holdsSum s.holds + request.amount) < s.items.alert ∧ s.items.alert ≤ s.available
            then s.notices.raise .fundsLow else s.notices } := by
  have placed : (State.touchFunds { s with holds := s.holds ++ [request] }).onEntry request.lane request.seq (fun e =>
      { e with stage := .held, held := some request.amount }) = s.holdPlaced request := by
    cases hl : request.lane <;> simp only [State.holdPlaced, hl] <;> rfl
  unfold State.placeHold
  dsimp only
  rw [placed]
  simp only [s.low_holdPlaced request]
  split <;> rfl

theorem State.refuseHold_eq (s : State) (request : Hold) (cause : DivertCause) :
    s.refuseHold request cause
      = { s with
          notices := if cause = .noFunds then s.notices.raise .fundsOut else s.notices
          lanes := s.lanes.set request.lane ((s.tracker request.lane).onEntry request.seq fun x => x.divert cause) } := by
  unfold State.refuseHold
  dsimp only
  split
  · cases request.lane <;> rfl
  · cases request.lane <;> rfl

section
variable {s : State} {request : Hold} {rest : List Hold} {e : TrackEntry} (requests : s.requests = request :: rest)
  (found : (s.tracker request.lane).find request.seq = some e) (stage : e.stage = .rating) (asked : e.requested = true)
include requests found stage asked

theorem State.takeRequest_awaited :
    s.takeRequest = match s.holdRefusal request with
      | some cause => State.refuseHold { s with requests := rest } request cause
      | none => State.placeHold { s with requests := rest } request := by
  have awaits : ((State.tracker { s with requests := rest } request.lane).find request.seq).filter TrackEntry.awaitsHold = some e := by
    show ((s.tracker request.lane).find request.seq).filter TrackEntry.awaitsHold = some e
    rw [found]
    simp [TrackEntry.awaitsHold, stage, asked]
  unfold State.takeRequest
  rw [requests]
  dsimp only
  rw [awaits] <;> rfl

end

/-- Settles O55: the checks of R114 in their order, and the hold placed or the piece refused. -/
theorem holdRequestPlacedOrRefused : Obligations.HoldRequestPlacedOrRefused := by
  intro s request rest e ready requests found stage asked accountOpen inspected funded
  have awaited := State.takeRequest_awaited requests found stage asked
  have run : exec .holdRequest s = .next s.takeRequest.flush := exec_of_eventPlan_done ready rfl rfl
  have still : UnchangedOutside [] s s.takeRequest := by
    rw [awaited]
    cases s.holdRefusal request with
    | none =>
      dsimp only
      rw [State.placeHold_eq]
      exact .of_mem _ rfl rfl
    | some cause =>
      dsimp only
      rw [State.refuseHold_eq]
      exact .of_mem _ rfl rfl
  refine ⟨_, run, (still.mono nofun).trans (unchangedOutside_flush _), fun open_ inspects funds => ?_, fun cause first => ?_⟩
  · have passes : s.holdRefusal request = none := State.holdRefusal_passes open_ inspects funds
    rw [passes] at awaited
    dsimp only at awaited
    rw [State.placeHold_eq] at awaited
    refine (flush_eq _).trans ?_
    generalize s.takeRequest.flush = t
    rw [awaited, ← ready.2.2]
    rfl
  · have refused : s.holdRefusal request = some cause := State.holdRefusal_of first
    rw [refused] at awaited
    dsimp only at awaited
    rw [State.refuseHold_eq] at awaited
    have clean : s.takeRequest.dirty = Groups.none := by
      rw [awaited]
      exact ready.2.2
    rw [flush_clean clean, awaited]
    rfl

end Sys2Proof.Machine
end

section
/-! SUPPORT. A kept rating completion: what it writes into the slot, the entry and the batch (R55 to R57). -/

namespace Sys2Proof.Machine

theorem State.onTracker_kept_eq (s : State) (lane : Lane) (f g h : Tracker → Tracker) (fs : List Field) :
    (((s.onTracker lane f).writeFields fs).onTracker lane g).onTracker lane h
      = { s with mem := (s.writeFields fs).mem, lanes := s.lanes.set lane (h (g (f (s.tracker lane)))) } := by
  cases lane <;> rfl

/-- The lane's tracker once a result is kept: the entry's row, its presence word among it, and the sticky overflow. -/
def Tracker.resultKept (r : Tracker) (e : TrackEntry) (bits : List Nat) (row : TrackEntry → TrackEntry) (overflow : Bool) : Tracker :=
  (r.onEntry e.seq fun x => row { x with presence := bits.foldl withBit e.presence }).stickyOverflow overflow

/-- The state of a kept result. -/
def State.resultKept (s : State) (lane : Lane) (e : TrackEntry) (fields : Nat → List Field) (bits : List Nat)
    (row : TrackEntry → TrackEntry) (overflow : Bool) : State :=
  ((s.writeResults lane e fields bits).onEntry lane e.seq row).onTracker lane fun t => t.stickyOverflow overflow

section
variable {s : State} {lane : Lane} {e : TrackEntry} {fields : Nat → List Field} {bits : List Nat} {row : TrackEntry → TrackEntry}
  {overflow : Bool}

theorem State.resultKept_eq {index : Nat} (slot : e.slot = some index) :
    s.resultKept lane e fields bits row overflow
      = { s with
          mem := (s.writeFields (fields index ++ presenceFields lane index (bits.foldl withBit e.presence) bits)).mem
          lanes := s.lanes.set lane ((s.tracker lane).resultKept e bits row overflow) } := by
  have same := (s.tracker lane).onEntry_onEntry e.seq (fun x => { x with presence := bits.foldl withBit e.presence }) row fun _ => rfl
  unfold State.resultKept State.writeResults State.onEntry
  rw [slot]
  dsimp only
  rw [State.onTracker_kept_eq]
  exact congrArg (fun r => { s with
    mem := (s.writeFields (fields index ++ presenceFields lane index (bits.foldl withBit e.presence) bits)).mem
    lanes := s.lanes.set lane (Tracker.stickyOverflow r overflow) }) same

theorem State.resultKept_slotless_eq (slot : e.slot = none) :
    s.resultKept lane e fields bits row overflow
      = { s with lanes := s.lanes.set lane ((s.tracker lane).resultKept e bits row overflow) } := by
  have same := (s.tracker lane).onEntry_onEntry e.seq (fun x => { x with presence := bits.foldl withBit e.presence }) row fun _ => rfl
  unfold State.resultKept State.writeResults State.onEntry
  rw [slot]
  dsimp only
  rw [State.onTracker_thrice_eq]
  exact congrArg (fun r => { s with lanes := s.lanes.set lane (Tracker.stickyOverflow r overflow) }) same

/-- A kept result moves memory and the lane alone. -/
theorem State.resultKept_moves :
    s.resultKept lane e fields bits row overflow
      = { s with
          mem := (s.resultKept lane e fields bits row overflow).mem
          lanes := s.lanes.set lane ((s.tracker lane).resultKept e bits row overflow) } := by
  cases slot : e.slot with
  | none => rw [State.resultKept_slotless_eq slot]
  | some index => rw [State.resultKept_eq slot]

theorem State.resultKept_tracker :
    (s.resultKept lane e fields bits row overflow).tracker lane = (s.tracker lane).resultKept e bits row overflow := by
  rw [State.resultKept_moves]
  exact tracker_setTracker s lane _

theorem State.find_resultKept (found : (s.tracker lane).find e.seq = some e) (keeps : ∀ x, (row x).seq = x.seq) :
    ((s.resultKept lane e fields bits row overflow).tracker lane).find e.seq
      = some (row { e with presence := bits.foldl withBit e.presence }) := by
  rw [State.resultKept_tracker]
  exact Tracker.find_onEntry (f := fun x => row { x with presence := bits.foldl withBit e.presence }) found fun _ => keeps _

theorem State.overflow_resultKept :
    ((s.resultKept lane e fields bits row overflow).tracker lane).batch.overflow = ((s.tracker lane).batch.overflow || overflow) := by
  rw [State.resultKept_tracker]
  rfl

section
variable {index : Nat} (slot : e.slot = some index) {written : List Field}
  (fs : fields index ++ presenceFields lane index (bits.foldl withBit e.presence) bits = written)
include slot fs

theorem State.resultKept_reads (apart : written.Pairwise Field.Apart) {f : Field} (hf : f ∈ written) :
    (s.resultKept lane e fields bits row overflow).readField f.address f.width = f.value % 256 ^ f.width := by
  subst fs
  refine (readField_of_mem (s := s.writeFields _) ?_ ?_ ?_ _ _).trans (readField_writeFields_of_mem s apart hf)
  · rw [State.resultKept_eq slot]
  · rw [State.resultKept_eq slot]
    simp
  · rw [State.resultKept_eq slot]
    simp

theorem State.unchangedOutside_resultKept :
    UnchangedOutside (written.map fun f => (f.address, f.width)) s (s.resultKept lane e fields bits row overflow) := by
  subst fs
  refine (unchangedOutside_writeFields s _).trans (.of_mem _ ?_ ?_)
  · rw [State.resultKept_eq slot]
  · rw [State.resultKept_eq slot]
    simp

end

end

/-! ### The completion -/

section
variable {s : State} {record : RatingRecord} {e : TrackEntry} (rating : s.rating = some record)
  (tracks : (s.tracker record.lane).state.tracks = true) (found : (s.tracker record.lane).find record.seq = some e)
  (stage : e.stage = .rating) (unasked : e.requested = false)
include rating tracks found stage unasked

theorem State.ratingCompletion_kept :
    let bank := s.items.banks.get record.bank
    let result := record.working.result bank record.input (s.items.licence.map Licence.perPieceCap)
    s.ratingCompletion = match result.rated with
      | .priced postage format zone weight =>
        (s.endRating record).keepPriced record e bank.tableId postage format zone weight result
      | .refused cause => (s.endRating record).keepRefused record e bank.tableId cause result := by
  have kept : (s.endRating record).keptEntry record = some e := by
    have tracks' : ((s.endRating record).tracker record.lane).state.tracks = true := tracks
    have found' : ((s.endRating record).tracker record.lane).find record.seq = some e := found
    unfold State.keptEntry
    dsimp only
    rw [if_pos tracks', found']
    simp [TrackEntry.inRating, stage, unasked]
  unfold State.endRating at kept
  unfold State.ratingCompletion
  rw [rating]
  dsimp only
  rw [kept] <;> rfl

end

/-- What a piece that a rating prices is in its row (R56). -/
def TrackEntry.pricedRow (result : RatingResult) (format : Nat) (x : TrackEntry) : TrackEntry :=
  { x with offset := result.offset, format := some format, requested := true, flags := result.flags.word }

/-- What a piece that a rating refuses is in its row (R57). -/
def TrackEntry.refusedRow (result : RatingResult) (cause : DivertCause) (x : TrackEntry) : TrackEntry :=
  { x.divert cause with offset := result.offset, flags := result.flags.word }

/-- The fields of a priced piece whose bank holds a table (R56). -/
def keptPriceFields (lane : Lane) (e : TrackEntry) (tableId postage format zone weight index : Nat) (flags : Half) : List Field :=
  [slotField lane index 0x1E 2 tableId, slotField lane index 0x22 1 format, slotField lane index 0x23 1 zone,
    slotField lane index 0x24 2 weight, slotField lane index 0x28 4 postage, slotField lane index 0x20 2 flags.toNat,
    slotField lane index 0x02 2 (e.presence ||| 0x001F#16).toNat]

theorem keptPriceFields_apart (lane : Lane) (e : TrackEntry) (tableId postage format zone weight index : Nat) (flags : Half) :
    (keptPriceFields lane e tableId postage format zone weight index flags).Pairwise Field.Apart := by
  simp [keptPriceFields, slotField, Field.Apart]

theorem priced_presence {tableId : Nat} (held : tableId ≠ 0) (e : TrackEntry) :
    (tableBits tableId ++ [formatBit, zoneBit, weightBit, postageBit]).foldl withBit e.presence = e.presence ||| 0x001F#16 := by
  rw [tableBits, if_neg held]
  show ((((e.presence ||| _) ||| _) ||| _) ||| _) ||| _ = _
  simp only [BitVec.or_assoc]
  rfl

theorem pricedFields_eq {tableId : Nat} (held : tableId ≠ 0) (lane : Lane) (e : TrackEntry) (postage format zone weight index : Nat)
    (flags : Half) :
    (tableFields lane tableId index ++ pricedFields lane postage format zone weight index ++ [flagsField lane flags index])
        ++ presenceFields lane index
          ((tableBits tableId ++ [formatBit, zoneBit, weightBit, postageBit]).foldl withBit e.presence)
          (tableBits tableId ++ [formatBit, zoneBit, weightBit, postageBit])
      = keptPriceFields lane e tableId postage format zone weight index flags := by
  rw [priced_presence held, tableFields, if_neg held, presenceFields, if_neg (by simp)]
  rfl

end Sys2Proof.Machine
end

section
/-! SUPPORT. The two results of a kept completion (R56, R57). -/

namespace Sys2Proof.Machine

/-! ### A refusal's fields -/

/-- The fields of a refused piece (R57). -/
def keptRefusalFields (lane : Lane) (e : TrackEntry) (tableId index : Nat) (flags : Half) : List Field :=
  if tableId = 0 then [slotField lane index 0x20 2 flags.toNat]
  else [slotField lane index 0x1E 2 tableId, slotField lane index 0x20 2 flags.toNat,
    slotField lane index 0x02 2 (e.presence ||| 0x0001#16).toNat]

theorem keptRefusalFields_apart (lane : Lane) (e : TrackEntry) (tableId index : Nat) (flags : Half) :
    (keptRefusalFields lane e tableId index flags).Pairwise Field.Apart := by
  unfold keptRefusalFields
  split <;> simp [slotField, Field.Apart]

theorem refused_presence (tableId : Nat) (e : TrackEntry) :
    (tableBits tableId).foldl withBit e.presence = if tableId = 0 then e.presence else e.presence ||| 0x0001#16 := by
  unfold tableBits
  split <;> rfl

theorem refusedFields_eq (lane : Lane) (e : TrackEntry) (tableId index : Nat) (flags : Half) :
    (tableFields lane tableId index ++ [flagsField lane flags index])
        ++ presenceFields lane index ((tableBits tableId).foldl withBit e.presence) (tableBits tableId)
      = keptRefusalFields lane e tableId index flags := by
  rw [refused_presence]
  unfold tableFields tableBits keptRefusalFields presenceFields
  split <;> rfl

/-! ### The states of the two results -/

/-- A priced piece's state (R56). -/
def State.pricedState (s : State) (record : RatingRecord) (e : TrackEntry) (tableId postage format zone weight : Nat)
    (result : RatingResult) : State :=
  (s.endRating record).resultKept record.lane e
    (fun index => tableFields record.lane tableId index ++ pricedFields record.lane postage format zone weight index
      ++ [flagsField record.lane result.flags.word index])
    (tableBits tableId ++ [formatBit, zoneBit, weightBit, postageBit]) (TrackEntry.pricedRow result format) result.flags.overflow

theorem State.keepPriced_eq (s : State) (record : RatingRecord) (e : TrackEntry) (tableId postage format zone weight : Nat)
    (result : RatingResult) :
    (s.endRating record).keepPriced record e tableId postage format zone weight result
      = { s.pricedState record e tableId postage format zone weight result with
          requests := s.requests ++ [Hold.mk record.lane e.seq record.input.account postage] } := by
  have same : (s.pricedState record e tableId postage format zone weight result).requests = s.requests := by
    unfold State.pricedState
    rw [State.resultKept_moves]
    rfl
  rw [← same]
  rfl

/-- A refused piece's state (R57). -/
def State.refusedState (s : State) (record : RatingRecord) (e : TrackEntry) (tableId : Nat) (cause : DivertCause)
    (result : RatingResult) : State :=
  (s.endRating record).resultKept record.lane e
    (fun index => tableFields record.lane tableId index ++ [flagsField record.lane result.flags.word index])
    (tableBits tableId) (TrackEntry.refusedRow result cause) result.flags.overflow

/-! ### The completion -/

theorem exec_ratingCompletion {s t : State} (ready : s.Ready) (comes : s.ratingCompletion = t) (unmarked : t.dirty = s.dirty) :
    exec .ratingCompletion s = .next t :=
  exec_of_eventPlan_done_unmarked ready rfl (congrArg Plan.done comes) unmarked

theorem completion_prices {s : State} {record : RatingRecord} {e : TrackEntry} {index postage format zone weight : Nat}
    (ready : s.Ready) (rating : s.rating = some record) (tracks : (s.tracker record.lane).state.tracks = true)
    (found : (s.tracker record.lane).find record.seq = some e) (stage : e.stage = .rating) (unasked : e.requested = false)
    (slot : e.slot = some index) :
    let bank := s.items.banks.get record.bank
    let result := record.working.result bank record.input (s.items.licence.map Licence.perPieceCap)
    bank.tableId ≠ 0 → result.rated = .priced postage format zone weight →
    let at_ := slotAddress record.lane index
    ∃ t, exec .ratingCompletion s = .next t
      ∧ t = { s with mem := t.mem, rating := none, lanes := s.lanes.set record.lane (t.tracker record.lane)
                     useCounts := s.useCounts.set record.bank (s.useCounts.get record.bank - 1)
                     requests := s.requests
                       ++ [{ lane := record.lane, seq := e.seq, account := record.input.account, amount := postage }] }
      ∧ (t.tracker record.lane).batch.overflow = ((s.tracker record.lane).batch.overflow || result.flags.overflow)
      ∧ (t.tracker record.lane).find e.seq = some
          { e with offset := result.offset, format := some format, requested := true
                   presence := e.presence ||| 0x001F#16, flags := result.flags.word }
      ∧ t.readField (at_ + 0x02) 2 = (e.presence ||| 0x001F#16).toNat
      ∧ t.readField (at_ + 0x1E) 2 = bank.tableId % 256 ^ 2 ∧ t.readField (at_ + 0x20) 2 = result.flags.word.toNat
      ∧ t.readField (at_ + 0x22) 1 = format % 256 ∧ t.readField (at_ + 0x23) 1 = zone % 256
      ∧ t.readField (at_ + 0x24) 2 = weight % 256 ^ 2 ∧ t.readField (at_ + 0x28) 4 = postage % 256 ^ 4
      ∧ UnchangedOutside [(at_ + 0x02, 2), (at_ + 0x1E, 8), (at_ + 0x28, 4)] s t := by
  intro bank result table priced at_
  have kept := State.ratingCompletion_kept rating tracks found stage unasked
  have row : (s.tracker record.lane).find e.seq = some e := by rw [Tracker.find_seq found]; exact found
  have fields := pricedFields_eq table record.lane e postage format zone weight index result.flags.word
  have comes : s.ratingCompletion = { s.pricedState record e bank.tableId postage format zone weight result with
      requests := s.requests ++ [Hold.mk record.lane e.seq record.input.account postage] } := by
    refine kept.trans ?_
    rw [show (record.working.result (s.items.banks.get record.bank) record.input (s.items.licence.map Licence.perPieceCap)).rated
      = .priced postage format zone weight from priced]
    exact State.keepPriced_eq ..
  have moves : s.pricedState record e bank.tableId postage format zone weight result = _ := State.resultKept_moves
  have tracker : (s.pricedState record e bank.tableId postage format zone weight result).tracker record.lane = _ :=
    State.resultKept_tracker
  have there := State.find_resultKept (s := s.endRating record) (row := TrackEntry.pricedRow result format)
    (overflow := result.flags.overflow)
    (fields := fun index => tableFields record.lane bank.tableId index ++ pricedFields record.lane postage format zone weight index
      ++ [flagsField record.lane result.flags.word index])
    (bits := tableBits bank.tableId ++ [formatBit, zoneBit, weightBit, postageBit]) row fun _ => rfl
  rw [priced_presence table] at there
  have reads {f : Field} (hf : f ∈ keptPriceFields record.lane e bank.tableId postage format zone weight index result.flags.word) :
      (s.pricedState record e bank.tableId postage format zone weight result).readField f.address f.width = f.value % 256 ^ f.width :=
    State.resultKept_reads slot fields (keptPriceFields_apart ..) hf
  have changed : UnchangedOutside _ (s.endRating record) (s.pricedState record e bank.tableId postage format zone weight result) :=
    State.unchangedOutside_resultKept slot fields
  refine ⟨_, exec_ratingCompletion ready comes (by rw [moves]; rfl), ?_, State.overflow_resultKept, there, ?_, ?_, ?_, ?_, ?_, ?_, ?_, ?_⟩
  · show { s.pricedState record e bank.tableId postage format zone weight result with
        requests := s.requests ++ [Hold.mk record.lane e.seq record.input.account postage] }
      = { s with
          mem := (s.pricedState record e bank.tableId postage format zone weight result).mem, rating := none
          lanes := s.lanes.set record.lane
            ((s.pricedState record e bank.tableId postage format zone weight result).tracker record.lane)
          useCounts := s.useCounts.set record.bank (s.useCounts.get record.bank - 1)
          requests := s.requests ++ [Hold.mk record.lane e.seq record.input.account postage] }
    rw [tracker, moves]
    rfl
  · refine (reads (f := slotField record.lane index 0x02 2 (e.presence ||| 0x001F#16).toNat) (by simp [keptPriceFields])).trans ?_
    exact Nat.mod_eq_of_lt (BitVec.isLt _)
  · exact reads (f := slotField record.lane index 0x1E 2 bank.tableId) (by simp [keptPriceFields])
  · refine (reads (f := slotField record.lane index 0x20 2 result.flags.word.toNat) (by simp [keptPriceFields])).trans ?_
    exact Nat.mod_eq_of_lt (BitVec.isLt _)
  · exact reads (f := slotField record.lane index 0x22 1 format) (by simp [keptPriceFields])
  · exact reads (f := slotField record.lane index 0x23 1 zone) (by simp [keptPriceFields])
  · exact reads (f := slotField record.lane index 0x24 2 weight) (by simp [keptPriceFields])
  · exact reads (f := slotField record.lane index 0x28 4 postage) (by simp [keptPriceFields])
  · refine (UnchangedOutside.of_mem (s := s) (t := s.endRating record) _ rfl rfl).trans ((changed.mono fun r hr => ?_).trans
      (.of_mem _ rfl rfl))
    simp only [keptPriceFields, slotField, List.map_cons, List.map_nil, List.mem_cons, List.not_mem_nil, or_false] at hr
    have within : (∃ o w, r = (at_ + o, w) ∧ 0x1E ≤ o ∧ o + w ≤ 0x26) ∨ r = (at_ + 0x28, 4) ∨ r = (at_ + 0x02, 2) := by
      rcases hr with rfl | rfl | rfl | rfl | rfl | rfl | rfl
      · exact .inl ⟨_, _, rfl, by decide, by decide⟩
      · exact .inl ⟨_, _, rfl, by decide, by decide⟩
      · exact .inl ⟨_, _, rfl, by decide, by decide⟩
      · exact .inl ⟨_, _, rfl, by decide, by decide⟩
      · exact .inr (.inl rfl)
      · exact .inl ⟨_, _, rfl, by decide, by decide⟩
      · exact .inr (.inr rfl)
    rcases within with ⟨o, w, rfl, low, high⟩ | rfl | rfl
    · exact ⟨(at_ + 0x1E, 8), by simp, by dsimp only; omega, by dsimp only; omega⟩
    · exact ⟨_, by simp, le_rfl, le_rfl⟩
    · exact ⟨_, by simp, le_rfl, le_rfl⟩

end Sys2Proof.Machine
end

section
/-! SUPPORT. A completion that refuses the piece, and the statement on both results (R56, R57). -/

namespace Sys2Proof.Machine

section
variable {s : State} {record : RatingRecord} {e : TrackEntry} {tableId : Nat} {cause : DivertCause} {result : RatingResult}
  {index : Nat} (slot : e.slot = some index)
include slot

theorem State.refusedState_reads {f : Field} (hf : f ∈ keptRefusalFields record.lane e tableId index result.flags.word) :
    (s.refusedState record e tableId cause result).readField f.address f.width = f.value % 256 ^ f.width :=
  State.resultKept_reads slot (refusedFields_eq ..) (keptRefusalFields_apart ..) hf

theorem State.unchangedOutside_refusedState :
    UnchangedOutside ((keptRefusalFields record.lane e tableId index result.flags.word).map fun f => (f.address, f.width)) s
      (s.refusedState record e tableId cause result) :=
  (UnchangedOutside.of_mem (s := s) (t := s.endRating record) _ rfl rfl).trans
    (State.unchangedOutside_resultKept slot (refusedFields_eq ..))

/-- The flags word of a refused piece is shown whether or not its bank holds a table. -/
theorem State.refusedState_flags :
    (s.refusedState record e tableId cause result).readField (slotAddress record.lane index + 0x20) 2 = result.flags.word.toNat := by
  have listed : slotField record.lane index 0x20 2 result.flags.word.toNat
      ∈ keptRefusalFields record.lane e tableId index result.flags.word := by
    unfold keptRefusalFields
    split <;> simp
  exact (State.refusedState_reads slot listed).trans (Nat.mod_eq_of_lt (BitVec.isLt _))

theorem State.refusedState_shows :
    let t := s.refusedState record e tableId cause result
    t.readField (slotAddress record.lane index + 0x20) 2 = result.flags.word.toNat
      ∧ (tableId ≠ 0 → t.readField (slotAddress record.lane index + 0x1E) 2 = tableId % 256 ^ 2
          ∧ t.readField (slotAddress record.lane index + 0x02) 2 = (e.presence ||| 0x0001#16).toNat)
      ∧ UnchangedOutside [(slotAddress record.lane index + 0x02, 2), (slotAddress record.lane index + 0x1E, 4)] s t
      ∧ (tableId = 0 → UnchangedOutside [(slotAddress record.lane index + 0x20, 2)] s t) := by
  intro t
  have changed : UnchangedOutside _ s t := State.unchangedOutside_refusedState slot
  refine ⟨State.refusedState_flags slot, fun table => ⟨?_, ?_⟩, changed.mono fun r hr => ?_, fun none => ?_⟩
  · refine State.refusedState_reads slot (f := slotField record.lane index 0x1E 2 tableId) ?_
    rw [keptRefusalFields, if_neg table]
    exact List.mem_cons_self
  · refine (State.refusedState_reads slot
      (f := slotField record.lane index 0x02 2 (e.presence ||| 0x0001#16).toNat) ?_).trans (Nat.mod_eq_of_lt (BitVec.isLt _))
    rw [keptRefusalFields, if_neg table]
    simp
  · unfold keptRefusalFields at hr
    split at hr <;> simp only [slotField, List.map_cons, List.map_nil, List.mem_cons, List.not_mem_nil, or_false] at hr
    · exact ⟨_, List.mem_cons_of_mem _ List.mem_cons_self, by rw [hr]; simp, by rw [hr]; simp⟩
    · rcases hr with rfl | rfl | rfl
      · exact ⟨_, List.mem_cons_of_mem _ List.mem_cons_self, by simp, by simp⟩
      · exact ⟨_, List.mem_cons_of_mem _ List.mem_cons_self, by simp, by simp⟩
      · exact ⟨_, List.mem_cons_self, by simp, by simp⟩
  · rw [keptRefusalFields, if_pos none] at changed
    exact changed

end

theorem State.refusedState_slotless {s : State} {record : RatingRecord} {e : TrackEntry} {tableId : Nat} {cause : DivertCause}
    {result : RatingResult} (slot : e.slot = none) : (s.refusedState record e tableId cause result).mem = s.mem := by
  unfold State.refusedState
  rw [State.resultKept_slotless_eq slot]
  rfl

/-- Settles O52: the fields, the row and the frame of each result. -/
theorem completionPricesOrRefusesAPiece : Obligations.CompletionPricesOrRefusesAPiece := by
  refine ⟨fun s record e index postage format zone weight ready rating tracks found _ stage unasked slot =>
    completion_prices ready rating tracks found stage unasked slot, ?_⟩
  intro s record e cause ready rating tracks found _ stage unasked bank result refused
  have kept := State.ratingCompletion_kept rating tracks found stage unasked
  have row : (s.tracker record.lane).find e.seq = some e := by rw [Tracker.find_seq found]; exact found
  have comes : s.ratingCompletion = s.refusedState record e bank.tableId cause result := by
    refine kept.trans ?_
    rw [show (record.working.result (s.items.banks.get record.bank) record.input (s.items.licence.map Licence.perPieceCap)).rated
      = .refused cause from refused]
    rfl
  have moves : s.refusedState record e bank.tableId cause result = _ := State.resultKept_moves
  have tracker : (s.refusedState record e bank.tableId cause result).tracker record.lane = _ := State.resultKept_tracker
  have there := State.find_resultKept (s := s.endRating record) (row := TrackEntry.refusedRow result cause)
    (overflow := result.flags.overflow)
    (fields := fun index => tableFields record.lane bank.tableId index ++ [flagsField record.lane result.flags.word index])
    (bits := tableBits bank.tableId) row fun _ => rfl
  rw [refused_presence] at there
  refine ⟨_, exec_ratingCompletion ready comes (by rw [moves]; rfl), ?_, State.refusedState_slotless,
    fun index slot => State.refusedState_shows slot, State.overflow_resultKept, there⟩
  rw [tracker]
  exact moves

end Sys2Proof.Machine
end

section
/-! SUPPORT. The three reset events: what each leaves in memory, the units and the calendar (4.5, R21, R22, R183, R184). -/

namespace Sys2Proof.Machine

/-! ### The slot state bytes freed -/

theorem Memory.read_foldl_write (f : Nat → Nat) (v : Byte) (ks : List Nat) (m : Memory) (a : Nat) :
    (ks.foldl (fun m k => m.write (f k) v) m).read a = if ∃ k ∈ ks, f k = a then some v else m.read a := by
  induction ks generalizing m with
  | nil => simp
  | cons k ks ih =>
    rw [List.foldl_cons, ih]
    by_cases later : ∃ k' ∈ ks, f k' = a
    · rw [if_pos later, if_pos (later.imp fun _ h => ⟨List.mem_cons_of_mem _ h.1, h.2⟩)]
    · rw [if_neg later]
      by_cases here : f k = a
      · rw [if_pos ⟨k, List.mem_cons_self, here⟩, ← here, Memory.read_write_same]
      · have none : ¬ ∃ k' ∈ k :: ks, f k' = a := by
          rintro ⟨k', hk, eq⟩
          rcases List.mem_cons.mp hk with rfl | hk
          · exact here eq
          · exact later ⟨k', hk, eq⟩
        rw [if_neg none, Memory.read_write_other _ _ _ _ (Ne.symm here)]

/-- The address of the k-th slot state byte, lane A's first. -/
def stateByteAddress (k : Nat) : Nat := 0x0800 + 64 * (k % 32) + 0x0800 * (k / 32)

theorem read_freeSlots (m : Memory) (a : Nat) :
    (freeSlots m).read a = if ∃ k ∈ List.range 64, stateByteAddress k = a then some (slotCode .free) else m.read a :=
  Memory.read_foldl_write stateByteAddress (slotCode .free) (List.range 64) m a

theorem slotAddress_is_stateByte (lane : Lane) {index : Nat} (below : index < 32) :
    ∃ k ∈ List.range 64, stateByteAddress k = slotAddress lane index := by
  cases lane with
  | a => exact ⟨index, List.mem_range.mpr (by omega), by simp only [stateByteAddress, slotAddress, slotsBase]; omega⟩
  | b => exact ⟨index + 32, List.mem_range.mpr (by omega), by simp only [stateByteAddress, slotAddress, slotsBase]; omega⟩

theorem stateByteAddress_mem {k : Nat} (below : k < 64) : (stateByteAddress k, 1) ∈ slotStateBytes := by
  refine List.mem_flatMap.mpr ⟨k % 32, List.mem_range.mpr (Nat.mod_lt _ (by decide)), ?_⟩
  by_cases first : k < 32
  · have address : stateByteAddress k = slotAddress .a (k % 32) := by
      simp only [stateByteAddress, slotAddress, slotsBase]
      omega
    rw [address]
    exact List.mem_cons_self
  · have address : stateByteAddress k = slotAddress .b (k % 32) := by
      simp only [stateByteAddress, slotAddress, slotsBase]
      omega
    rw [address]
    exact List.mem_cons_of_mem _ List.mem_cons_self

theorem read_freeSlots_off {m : Memory} {a : Nat} (off : ∀ r ∈ slotStateBytes, ¬ Within r a) : (freeSlots m).read a = m.read a := by
  rw [read_freeSlots, if_neg]
  rintro ⟨k, hk, rfl⟩
  exact off _ (stateByteAddress_mem (List.mem_range.mp hk)) ⟨le_rfl, Nat.lt_succ_self _⟩

/-! ### The reset event -/

section
variable (s : State) (cause : ResetCause)

/-- The same part with another memory. -/
def State.withMemory (m : Memory) : State := { s with mem := m }

theorem State.resetEvent_order : (s.resetEvent cause).order = s.order := by simp [State.resetEvent]

theorem State.resetEvent_powerOns : (s.resetEvent cause).powerOns = s.powerOns := by simp [State.resetEvent]

theorem State.resetEvent_mem {m : Memory} (freed : freeSlots s.mem = m) :
    (s.resetEvent cause).mem = ((s.withMemory m).writeFields [⟨0x00, 2, 1⟩]).mem := by
  unfold State.resetEvent
  dsimp only
  rw [freed]
  rfl

/-- From the freed memory on, the reset writes the generation word alone. -/
theorem unchangedOutside_resetEvent_freed {m : Memory} (freed : freeSlots s.mem = m) :
    UnchangedOutside [(0x00, 2)] (s.withMemory m) (s.resetEvent cause) := by
  have written := unchangedOutside_writeFields (s.withMemory m) [⟨0x00, 2, 1⟩]
  exact written.trans (.of_mem _ (s.resetEvent_mem cause freed) (s.resetEvent_powerOns cause))

theorem unchangedOutside_freed {m : Memory} (freed : freeSlots s.mem = m) : UnchangedOutside slotStateBytes s (s.withMemory m) := by
  intro a off
  have read : m.read a = s.mem.read a := by rw [← freed]; exact read_freeSlots_off off
  exact congrArg (fun read => Option.getD read (Config.undefinedByte s.powerOns a)) read

theorem unchangedOutside_resetEvent : UnchangedOutside ((0x00, 2) :: slotStateBytes) s (s.resetEvent cause) := by
  obtain ⟨m, freed⟩ : ∃ m, freeSlots s.mem = m := ⟨_, rfl⟩
  refine ((unchangedOutside_freed s freed).mono fun r hr => ⟨r, List.mem_cons_of_mem _ hr, le_rfl, le_rfl⟩).trans
    ((unchangedOutside_resetEvent_freed s cause freed).mono fun r hr => ⟨r, ?_, le_rfl, le_rfl⟩)
  rw [List.mem_singleton.mp hr]
  exact List.mem_cons_self

theorem State.resetEvent_slotIs (lane : Lane) {index : Nat} (below : index < 32) :
    (s.resetEvent cause).slotIs lane index .free = true := by
  obtain ⟨m, freed⟩ : ∃ m, freeSlots s.mem = m := ⟨_, rfl⟩
  have above := slotAddress_ge lane index
  have read : m.read (slotAddress lane index) = some (slotCode .free) := by
    rw [← freed, read_freeSlots, if_pos (slotAddress_is_stateByte lane below)]
  have same : (s.resetEvent cause).readByte (slotAddress lane index) = (s.withMemory m).readByte (slotAddress lane index) := by
    refine unchangedOutside_resetEvent_freed s cause freed _ fun r hr inside => ?_
    rw [List.mem_singleton.mp hr] at inside
    exact absurd inside.2 (by simp only; omega)
  have free : (s.withMemory m).readByte (slotAddress lane index) = slotCode .free := by
    show (m.read _).getD _ = _
    rw [read]
    rfl
  exact beq_iff_eq.mpr (same.trans free)

theorem State.resetEvent_generation : (s.resetEvent cause).readField 0x00 2 = 1 := by
  obtain ⟨m, freed⟩ : ∃ m, freeSlots s.mem = m := ⟨_, rfl⟩
  have apart : [Field.mk 0x00 2 1].Pairwise Field.Apart := List.pairwise_singleton _ _
  exact (readField_of_mem (s := (s.withMemory m).writeFields [⟨0x00, 2, 1⟩]) (t := s.resetEvent cause)
    (s.resetEvent_mem cause freed) (s.resetEvent_powerOns cause) (s.resetEvent_order cause) _ _).trans
    (readField_writeFields_of_mem (s.withMemory m) apart List.mem_cons_self)

/-- What every reset leaves of the units, the slots and the generation word. -/
theorem State.afterReset_resetEvent {s₀ : State} (store : s.store = s₀.store) : s₀.AfterReset (s.resetEvent cause) cause :=
  ⟨rfl, rfl, rfl, rfl, rfl, rfl, rfl, rfl, rfl, rfl, rfl, rfl, rfl, store, fun lane _ below => s.resetEvent_slotIs cause lane below,
    s.resetEvent_generation cause⟩

end

/-- The part at a power-on, before the reset event: the straps latched and exchange memory undefined (R21, R175, R184). -/
def State.atPowerOn (s : State) (lanes : LaneCount) (order : BusOrder) : State :=
  { s with
    supply := true, laneCount := lanes, order := order, powerOns := s.powerOns + 1, mem := []
    calendar := if s.calendar.running then s.calendar else Calendar.initial }

theorem State.powerOn_eq (s : State) (lanes : LaneCount) (order : BusOrder) :
    s.powerOn lanes order = (s.atPowerOn lanes order).resetEvent .powerOn := rfl

theorem State.resetEvent_kept (s : State) (cause : ResetCause) :
    (s.resetEvent cause).supply = s.supply ∧ (s.resetEvent cause).laneCount = s.laneCount
      ∧ (s.resetEvent cause).calendar = { s.calendar with postdate := 0 } := ⟨rfl, rfl, rfl⟩

/-- Memory after a power-on holds the generation word and the slot state bytes alone. -/
theorem State.powerOn_undefined (s : State) (lanes : LaneCount) (order : BusOrder) {a : Nat}
    (off : ∀ r ∈ (0x00, 2) :: slotStateBytes, ¬ Within r a) : (s.powerOn lanes order).mem.read a = none := by
  have low : a ≠ 0 ∧ a ≠ 1 := by
    have no := off _ List.mem_cons_self
    simp only [Within] at no
    omega
  obtain ⟨m, freed⟩ : ∃ m, freeSlots (s.atPowerOn lanes order).mem = m := ⟨_, rfl⟩
  have two : ∃ x y, fieldBytes order 2 1 = [x, y] := by cases order <;> exact ⟨_, _, rfl⟩
  obtain ⟨x, y, bytes⟩ := two
  have memory : (s.powerOn lanes order).mem = (m.write 0 x).write 1 y := by
    rw [State.powerOn_eq, State.resetEvent_mem _ _ freed]
    show m.writeBytes 0x00 (fieldBytes order 2 1) = _
    rw [bytes]
    rfl
  rw [memory, Memory.read_write_other _ _ _ _ low.2, Memory.read_write_other _ _ _ _ low.1, ← freed,
    read_freeSlots_off fun r hr => off r (List.mem_cons_of_mem _ hr)]
  rfl

/-- Settles O8: the power-on reset latches the straps and is the reset event on a memory that holds nothing. -/
theorem powerOnResetLeaves : Obligations.PowerOnResetLeaves := by
  intro lanes order s
  have kept := (s.atPowerOn lanes order).resetEvent_kept .powerOn
  rw [← State.powerOn_eq] at kept
  obtain ⟨supply, laneCount, calendar⟩ := kept
  refine ⟨s.powerOn lanes order, rfl, State.afterReset_resetEvent _ _ rfl, supply, laneCount,
    State.resetEvent_order (s.atPowerOn lanes order) .powerOn, fun runs => ?_, fun stopped => ?_, fun a off => s.powerOn_undefined lanes order off⟩
  · have goes_on : (s.atPowerOn lanes order).calendar = s.calendar := if_pos runs
    rw [calendar, goes_on]
  · have begins : (s.atPowerOn lanes order).calendar = Calendar.initial := if_neg (by rw [stopped]; nofun)
    rw [calendar, begins]
    exact ⟨rfl, rfl, rfl⟩

/-! ### A line reset and a RESTART -/

section
variable (s : State)

/-- A command in progress is shown as ABORTED (R183, R184). -/
theorem State.abortCommand_frame :
    s.abortCommand = { s with mem := s.abortCommand.mem } := by
  unfold State.abortCommand
  split <;> rfl

theorem State.abortCommand_cases :
    s.abortCommand = s ∨ s.command.isSome = true ∧ s.abortCommand = s.writeStatus .aborted := by
  unfold State.abortCommand
  split
  case h_1 => exact .inl rfl
  case h_2 => exact .inl rfl
  case h_3 i _ command => exact .inr ⟨by rw [command]; rfl, rfl⟩

theorem unchangedOutside_abortCommand :
    UnchangedOutside (if s.command.isSome then [(statusAddress, 2)] else []) s s.abortCommand := by
  rcases s.abortCommand_cases with same | ⟨some, written⟩
  · rw [same]
    exact .of_mem _ rfl rfl
  · rw [if_pos some, written]
    exact unchangedOutside_writeFields s [⟨statusAddress, 2, statusCode .aborted⟩]

theorem State.abortCommand_status {i : Instr} (command : s.command = some i) (other : i ≠ .restart) :
    s.abortCommand.readField statusAddress 2 = statusCode .aborted := by
  have written : s.abortCommand = s.writeStatus .aborted := by
    unfold State.abortCommand
    rw [command]
    split
    · contradiction
    · rename_i eq
      exact absurd (Option.some.inj eq) other
    · rfl
  have apart : [Field.mk statusAddress 2 (statusCode .aborted)].Pairwise Field.Apart := List.pairwise_singleton _ _
  rw [written]
  exact (readField_writeFields_of_mem s apart List.mem_cons_self).trans (Nat.mod_eq_of_lt (by decide))

/-- Aborting and resetting, from a state with the command laid or the straps latched. -/
theorem State.aborted_reset_status {i : Instr} (cause : ResetCause) (command : s.command = some i) (other : i ≠ .restart) :
    (s.abortCommand.resetEvent cause).readField statusAddress 2 = statusCode .aborted := by
  refine ((unchangedOutside_resetEvent s.abortCommand cause).readField rfl fun r hr => ?_).trans
    (s.abortCommand_status command other)
  rcases List.mem_cons.mp hr with rfl | hr
  · exact .inr (by decide)
  · obtain ⟨k, -, hr⟩ := List.mem_flatMap.mp hr
    have low : statusAddress + 2 ≤ 0x0800 := by decide
    simp only [List.mem_cons, List.not_mem_nil, or_false] at hr
    rcases hr with rfl | rfl
    · exact .inl (low.trans (slotAddress_ge .a k))
    · exact .inl (low.trans (slotAddress_ge .b k))

theorem unchangedOutside_aborted_reset (cause : ResetCause) :
    UnchangedOutside ((0x00, 2) :: (if s.command.isSome then [(statusAddress, 2)] else []) ++ slotStateBytes) s
      (s.abortCommand.resetEvent cause) := by
  refine ((unchangedOutside_abortCommand s).mono fun r hr => ⟨r, ?_, le_rfl, le_rfl⟩).trans
    ((unchangedOutside_resetEvent s.abortCommand cause).mono fun r hr => ⟨r, ?_, le_rfl, le_rfl⟩)
  · exact List.mem_append_left _ (List.mem_cons_of_mem _ hr)
  · rcases List.mem_cons.mp hr with rfl | hr
    · exact List.mem_append_left _ List.mem_cons_self
    · exact List.mem_append_right _ hr

end

end Sys2Proof.Machine
end

section
/-! SUPPORT. A line reset and a RESTART outside a whole update (R183, R184). -/

namespace Sys2Proof.Machine

theorem resetEvent_clean (s : State) (cause : ResetCause) : (s.resetEvent cause).flush = s.resetEvent cause :=
  flush_clean (by simp [State.resetEvent])

/-- A reset at once, of a state that differs from s in the straps or in the laid command: ABORTED, and the reset event. -/
theorem State.afterReset_aborted {s u : State} (cause : ResetCause) (store : u.store = s.store) :
    s.AfterReset (u.abortCommand.resetEvent cause) cause :=
  State.afterReset_resetEvent u.abortCommand cause (by rw [State.abortCommand_frame]; exact store)

theorem State.aborted_reset_kept (u : State) (cause : ResetCause) :
    (u.abortCommand.resetEvent cause).laneCount = u.laneCount ∧ (u.abortCommand.resetEvent cause).order = u.order
      ∧ (u.abortCommand.resetEvent cause).calendar = { u.calendar with postdate := 0 } := by
  have frame := u.abortCommand_frame
  obtain ⟨-, lanes, calendar⟩ := u.abortCommand.resetEvent_kept cause
  refine ⟨lanes.trans ?_, (u.abortCommand.resetEvent_order cause).trans ?_, calendar.trans ?_⟩ <;> rw [frame]

/-- The part with the straps of a line reset latched. -/
def State.latched (s : State) (lanes : LaneCount) (order : BusOrder) : State := { s with laneCount := lanes, order := order }

theorem exec_lineReset {s : State} (supply : s.supply = true) (idle : s.inStore = none) (lanes : LaneCount) (order : BusOrder) :
    exec (.lineReset lanes order) s = .next ((s.latched lanes order).abortCommand.resetEvent .line) := by
  have run : exec (.lineReset lanes order) s = .next (s.lineReset lanes order).flush :=
    powered_on (fun s => s.lineReset lanes order) supply
  rw [run, State.lineReset_idle idle]
  exact congrArg Host.Outcome.next (resetEvent_clean _ _)

theorem exec_restart {s : State} (supply : s.supply = true) (idle : s.inStore = none) (unparked : s.part ≠ .parked) :
    exec .restart s = .next ((s.layCommand .restart).abortCommand.resetEvent .restart) := by
  have run : exec .restart s = .next (s.issue .restart).flush := powered_on (fun s => s.issue .restart) supply
  rw [run, State.issue_restart_idle idle unparked]
  exact congrArg Host.Outcome.next (resetEvent_clean _ _)

theorem unchangedOutside_layRestart (s : State) : UnchangedOutside [(0x100, 2)] s (s.layCommand .restart) := by
  have laid : s.layCommand .restart = s.writeFields [⟨commandCodeAddress, 2, ((commandCode .restart).getD 0)⟩] := rfl
  rw [laid]
  exact unchangedOutside_writeFields s [⟨commandCodeAddress, 2, ((commandCode .restart).getD 0)⟩]

/-- Settles O9: both are ABORTED, written in the order then latched, and the reset event. -/
theorem lineResetAndRestartLeave : Obligations.LineResetAndRestartLeave := by
  constructor
  · intro lanes order s supply idle
    obtain ⟨laneCount, sameOrder, calendar⟩ := (s.latched lanes order).aborted_reset_kept .line
    refine ⟨_, exec_lineReset supply idle lanes order, State.afterReset_aborted .line rfl, laneCount, sameOrder, calendar,
      fun i command other => (s.latched lanes order).aborted_reset_status .line (i := i) command other, ?_⟩
    exact (UnchangedOutside.of_mem _ rfl rfl).trans (unchangedOutside_aborted_reset (s.latched lanes order) .line)
  · intro s supply idle unparked
    have laid := s.layCommand_eq .restart
    have command : (s.layCommand .restart).command = s.command := by rw [laid]
    obtain ⟨laneCount, sameOrder, calendar⟩ := (s.layCommand .restart).aborted_reset_kept .restart
    refine ⟨_, exec_restart supply idle unparked, State.afterReset_aborted .restart (by rw [laid]), laneCount.trans (by rw [laid]),
      sameOrder.trans (by rw [laid]), calendar.trans (by rw [laid]),
      fun i there other => (s.layCommand .restart).aborted_reset_status .restart (command.trans there) other, ?_⟩
    have reset := unchangedOutside_aborted_reset (s.layCommand .restart) .restart
    rw [command] at reset
    refine ((unchangedOutside_layRestart s).mono fun r hr => ⟨r, ?_, le_rfl, le_rfl⟩).trans
      (reset.mono fun r hr => ⟨r, ?_, le_rfl, le_rfl⟩)
    · rw [List.mem_singleton.mp hr]
      exact List.mem_append_left _ (List.mem_cons_of_mem _ List.mem_cons_self)
    · rcases List.mem_append.mp hr with hr | hr
      · rcases List.mem_cons.mp hr with rfl | hr
        · exact List.mem_append_left _ List.mem_cons_self
        · exact List.mem_append_left _ (List.mem_cons_of_mem _ (List.mem_cons_of_mem _ hr))
      · exact List.mem_append_right _ hr

end Sys2Proof.Machine
end

section
/-! SUPPORT. The end of a second and a minute boundary (R106, R107, R129, R170, R171). -/

namespace Sys2Proof.Machine

theorem Calendar.nextMinute_eq (c : Calendar) :
    c.nextMinute = { c with
      day := if 1439 ≤ c.minute then min (c.day + 1) 65535 else c.day
      minute := if 1439 ≤ c.minute then 0 else c.minute + 1, second := 0, cycles := 0 } := by
  unfold Calendar.nextMinute
  by_cases last : c.minute < 1439
  · rw [if_pos last, if_neg (Nat.not_le.mpr last), if_neg (Nat.not_le.mpr last)]
  · rw [if_neg last, if_pos (Nat.not_lt.mp last), if_pos (Nat.not_lt.mp last)]

theorem Calendar.nextMinute_minute (c : Calendar) : c.nextMinute.minute ≤ 1439 := by
  rw [Calendar.nextMinute_eq]
  dsimp only
  split <;> omega

/-- The state of a minute boundary before its switch is checked. -/
def State.atMinute (s : State) : State := State.inspect (State.touchCalendar { s with calendar := s.calendar.nextMinute })

/-- The retained store once the banks have switched (R106). -/
def State.switchedStore (s : State) : Store :=
  { items := s.items.switchBanks, latch := s.store.latch, check := s.items.switchBanks.checkWord, record := .empty }

/-- The state of a minute boundary, its switch made when one is due. -/
def State.minuteDone (s : State) (due : Bool) : State :=
  { s with
    calendar := s.calendar.nextMinute
    dirty := { s.dirty with calendar := true, banks := if due then true else s.dirty.banks }, notice := s.atMinute.notice
    notices := if due then s.atMinute.notices.raise .rateSwitch else s.atMinute.notices
    store := if due then s.switchedStore else s.store }

section
variable (s : State)

theorem State.atMinute_eq :
    s.atMinute = { s with
      calendar := s.calendar.nextMinute, dirty := { s.dirty with calendar := true }, notice := s.atMinute.notice
      notices := s.atMinute.notices } := by
  have inspected := State.inspect_eq (State.touchCalendar { s with calendar := s.calendar.nextMinute })
  exact inspected

theorem State.switchDue_atMinute : s.atMinute.switchDue = (State.switchDue { s with calendar := s.calendar.nextMinute }) := by
  rw [State.atMinute_eq]
  rfl

theorem State.switchPlan_atMinute (idle : s.inStore = none) :
    s.atMinute.switchPlan.carryOut .made
      = s.minuteDone (State.switchDue { s with calendar := s.calendar.nextMinute }) := by
  have eq := s.atMinute_eq
  unfold State.switchPlan
  rw [State.switchDue_atMinute]
  unfold State.minuteDone
  split
  case isTrue due =>
    show State.afterSwitch (s.atMinute.makeUpdate .bankSwitch s.atMinute.items.switchBanks) = _
    generalize s.atMinute.notice = notice, s.atMinute.notices = notices at eq
    rw [eq]
    unfold State.makeUpdate State.place State.afterSwitch State.switchedStore Items.newValues
    rw [← idle]
    simp [Work.setsLatch, State.touchBanks, State.raise, State.items]
  case isFalse => exact eq

end

/-! ### The statement -/

section
variable {s : State}

theorem exec_minuteBoundary_start (ready : s.Ready) (running : s.calendar.running = true) (start : s.part = .start) :
    exec (.minuteBoundary .made) s = .next { s with calendar := s.calendar.nextMinute } := by
  have counts : s.minuteBoundary .made = { s with calendar := s.calendar.nextMinute } := by
    unfold State.minuteBoundary
    rw [if_pos running]
    exact if_neg fun shown => shown.2 start
  show Host.Outcome.next (s.minuteBoundary .made).flush = _
  rw [counts, flush_clean]
  exact ready.2.2

theorem exec_minuteBoundary_shown (ready : s.Ready) (running : s.calendar.running = true) (started : s.part ≠ .start) :
    exec (.minuteBoundary .made) s
      = .next (s.minuteDone (State.switchDue { s with calendar := s.calendar.nextMinute })).flush := by
  have rest : s.atMinute.inStore = none := by
    rw [State.atMinute_eq]
    exact ready.2.1
  have counts : s.minuteBoundary .made = s.minuteDone (State.switchDue { s with calendar := s.calendar.nextMinute }) := by
    unfold State.minuteBoundary
    rw [if_pos running]
    refine (if_pos ⟨ready.1, started⟩).trans ?_
    exact (State.takeEvent_idle rest _ _ _).trans (s.switchPlan_atMinute ready.2.1)
  show Host.Outcome.next (s.minuteBoundary .made).flush = _
  rw [counts]

theorem minuteDone_flush_eq (ready : s.Ready) (due : Bool) :
    (s.minuteDone due).flush = { s with
      mem := (s.minuteDone due).flush.mem, generation := (s.minuteDone due).flush.generation, notice := s.atMinute.notice
      notices := if due then s.atMinute.notices.raise .rateSwitch else s.atMinute.notices, calendar := s.calendar.nextMinute
      store := if due then s.switchedStore else s.store } := by
  refine (flush_eq _).trans ?_
  generalize (s.minuteDone due).flush = t
  rw [← ready.2.2]
  rfl

theorem minuteDone_shows (started : s.part ≠ .start) (due : Bool) {f : Field}
    (hf : f ∈ calendarFields (s.minuteDone due)) : (s.minuteDone due).flush.readField f.address f.width = f.value % 256 ^ f.width :=
  readField_flush (s := s.minuteDone due) started (mem_dirtyFields.mpr ⟨.calendar, rfl, hf⟩)

theorem minuteDone_rateSwitch (due : Bool) :
    (s.minuteDone due).notices.flag .rateSwitch = (s.notices.flag .rateSwitch || due) := by
  have inspected : s.atMinute.notices.flag .rateSwitch = s.notices.flag .rateSwitch :=
    State.inspect_flag_other (State.touchCalendar { s with calendar := s.calendar.nextMinute }) (by decide)
  cases due with
  | false => simpa [State.minuteDone] using inspected
  | true => simp [State.minuteDone, Notices.flag_raise]

theorem minuteDone_noticeEvaluated {t : State} (due : Bool) (notice : t.notice = s.atMinute.notice)
    (notices : t.notices = (s.minuteDone due).notices) :
    s.NoticeEvaluated t s.calendar.nextMinute s.items.voucherDay s.items.licence := by
  refine noticeEvaluated_of_inspect (u := State.touchCalendar { s with calendar := s.calendar.nextMinute }) rfl rfl notice ?_
  rw [notices]
  cases due with
  | false => rfl
  | true => exact Notices.flag_raise_other _ (by decide)

end

/-- Settles O60: the second below 59, the boundary, and its switch within its event. -/
theorem calendarCounts : Obligations.CalendarCounts := by
  constructor
  · intro pace s settled
    refine ⟨fun running below => ?_, fun running last => ?_, fun stopped => ?_⟩
    · have counts : s.calendarSecond pace = { s with calendar := { s.calendar with second := s.calendar.second + 1, cycles := 0 } } := by
        unfold State.calendarSecond
        rw [if_pos running, if_pos below]
      show Host.Outcome.next (s.calendarSecond pace).flush = _
      rw [counts, flush_clean]
      exact settled
    · have counts : s.calendarSecond pace = s.minuteBoundary pace := by
        unfold State.calendarSecond
        rw [if_pos running, if_neg (by rw [last]; decide)]
      show Host.Outcome.next (s.calendarSecond pace).flush = Host.Outcome.next (s.minuteBoundary pace).flush
      rw [counts]
    · have still : ¬ s.calendar.running = true := by rw [stopped]; nofun
      have second : s.calendarSecond pace = s := if_neg still
      have minute : s.minuteBoundary pace = s := if_neg still
      refine ⟨?_, ?_⟩
      · show Host.Outcome.next (s.calendarSecond pace).flush = _
        rw [second, flush_clean settled]
      · show Host.Outcome.next (s.minuteBoundary pace).flush = _
        rw [minute, flush_clean settled]
  · intro s ready running midnight c due
    have next : s.calendar.nextMinute = c := s.calendar.nextMinute_eq
    refine ⟨fun start => ?_, fun started => ?_⟩
    · rw [exec_minuteBoundary_start ready running start, next]
    · have run := exec_minuteBoundary_shown ready running started
      rw [show State.switchDue { s with calendar := s.calendar.nextMinute } = due by rw [next]] at run
      have eq := minuteDone_flush_eq ready due
      have shows {f : Field} (hf : f ∈ calendarFields (s.minuteDone due)) := minuteDone_shows started due hf
      have said : (s.minuteDone due).flush.notices = (s.minuteDone due).notices := by rw [eq]; rfl
      have minute : c.minute ≤ 1439 := next ▸ s.calendar.nextMinute_minute
      have calendar : (s.minuteDone due).flush.calendar = c := by rw [eq, ← next]
      have store : (s.minuteDone due).flush.store = if due then s.switchedStore else s.store := by rw [eq]
      have day := shows (f := ⟨0x04, 2, s.calendar.nextMinute.day⟩) List.mem_cons_self
      have clock := shows (f := ⟨0x06, 2, s.calendar.nextMinute.minute⟩) (List.mem_cons_of_mem _ List.mem_cons_self)
      rw [next] at day clock
      refine ⟨(s.minuteDone due).flush, run, calendar, day, clock.trans (Nat.mod_eq_of_lt (minute.trans_lt (by decide : 1439 < 256 ^ 2))), ?_,
        next ▸ minuteDone_noticeEvaluated due (by rw [eq]) said, ?_, ?_, ?_⟩
      · rw [State.items, store]
        split <;> rfl
      · rw [said]
        exact minuteDone_rateSwitch due
      · have notices : (s.minuteDone due).flush.notices = if due then s.atMinute.notices.raise .rateSwitch else s.atMinute.notices := by
          rw [eq]
        have notice : (s.minuteDone due).flush.notice = s.atMinute.notice := by rw [eq]
        rw [store, notices, notice, ← next]
        exact eq
      · exact (UnchangedOutside.of_mem _ rfl rfl).trans (unchangedOutside_flush _)

end Sys2Proof.Machine
end

section
/-! SUPPORT. O25: a line controller write to exchange memory (R1, R2, R14, R98). -/

namespace Sys2Proof.Machine

/-! ### Two bytes written -/

/-- Writes at two addresses come to the same memory in either order. -/
theorem Memory.write_write_comm (m : Memory) {a b : Nat} (v w : Byte) (apart : a ≠ b) :
    (m.write a v).write b w = (m.write b w).write a v := by
  induction m with
  | nil =>
    rcases Nat.lt_or_gt_of_ne apart with h | h
    · simp [Memory.write, h, Nat.not_lt.mpr h.le, apart.symm]
    · simp [Memory.write, h, Nat.not_lt.mpr h.le, apart]
  | cons cell rest ih =>
    obtain ⟨x, u⟩ := cell
    rcases Nat.lt_trichotomy a x with ha | rfl | ha
    · rcases Nat.lt_trichotomy b x with hb | rfl | hb
      · rcases Nat.lt_or_gt_of_ne apart with h | h
        · simp [Memory.write, ha, hb, h, Nat.not_lt.mpr h.le, apart.symm]
        · simp [Memory.write, ha, hb, h, Nat.not_lt.mpr h.le, apart]
      · simp [Memory.write, ha, Nat.not_lt.mpr ha.le, apart.symm]
      · have := Nat.lt_trans ha hb
        simp [Memory.write, ha, hb.ne', Nat.not_lt.mpr hb.le, this.ne', Nat.not_lt.mpr this.le]
    · rcases Nat.lt_or_gt_of_ne apart with h | h
      · simp [Memory.write, h.ne', Nat.not_lt.mpr h.le]
      · simp [Memory.write, h, h.ne', Nat.not_lt.mpr h.le]
    · rcases Nat.lt_trichotomy b x with hb | rfl | hb
      · have := Nat.lt_trans hb ha
        simp [Memory.write, hb, ha.ne', Nat.not_lt.mpr ha.le, this.ne', Nat.not_lt.mpr this.le]
      · simp [Memory.write, ha.ne', Nat.not_lt.mpr ha.le]
      · simp [Memory.write, ha.ne', hb.ne', Nat.not_lt.mpr ha.le, Nat.not_lt.mpr hb.le, ih]

theorem State.writeByte_comm (s : State) {a b : Nat} (v w : Byte) (apart : a ≠ b) :
    (s.writeByte a v).writeByte b w = (s.writeByte b w).writeByte a v := by
  simp [State.writeByte, Memory.write_write_comm s.mem v w apart]

/-- The strobed bytes of a word, each stored at its own address (R2). -/
def State.storeWord (s : State) (low high : Nat) (value : Half) (strobes : Strobes) : State :=
  let s := if strobes.low then s.writeByte low (value.setWidth 8) else s
  if strobes.high then s.writeByte high ((value >>> 8).setWidth 8) else s

theorem State.storeWord_eq (s : State) (low high : Nat) (value : Half) (strobes : Strobes) :
    s.storeWord low high value strobes = { s with mem := (s.storeWord low high value strobes).mem } := by
  obtain ⟨l, h⟩ := strobes
  cases l <;> cases h <;> rfl

theorem readByte_storeWord_low (s : State) {low high : Nat} (value : Half) (strobes : Strobes) (apart : low ≠ high) :
    (s.storeWord low high value strobes).readByte low
      = if strobes.low then value.setWidth 8 else s.readByte low := by
  obtain ⟨l, h⟩ := strobes
  cases l <;> cases h <;> simp [State.storeWord, readByte_writeByte_same, readByte_writeByte_other _ _ _ _ apart]

theorem readByte_storeWord_high (s : State) {low high : Nat} (value : Half) (strobes : Strobes) (apart : low ≠ high) :
    (s.storeWord low high value strobes).readByte high
      = if strobes.high then (value >>> 8).setWidth 8 else s.readByte high := by
  obtain ⟨l, h⟩ := strobes
  cases l <;> cases h <;> simp [State.storeWord, readByte_writeByte_same, readByte_writeByte_other _ _ _ _ apart.symm]

theorem unchangedOutside_storeWord (s : State) {a low high : Nat} (value : Half) (strobes : Strobes)
    (lowWithin : a ≤ low ∧ low < a + 2) (highWithin : a ≤ high ∧ high < a + 2) :
    UnchangedOutside [(a, 2)] s (s.storeWord low high value strobes) := by
  have written : ∀ (s : State) (b : Nat) (v : Byte), a ≤ b ∧ b < a + 2 → UnchangedOutside [(a, 2)] s (s.writeByte b v) :=
    fun s b v within => (unchangedOutside_writeByte s b v).mono fun r hr =>
      ⟨(a, 2), List.mem_cons_self, by rw [List.mem_singleton.mp hr]; exact within.1,
        by rw [List.mem_singleton.mp hr]; exact Nat.succ_le_of_lt within.2⟩
  have same : ∀ s : State, UnchangedOutside [(a, 2)] s s := fun s => .of_mem _ rfl rfl
  unfold State.storeWord
  obtain ⟨l, h⟩ := strobes
  cases l with
  | false =>
    cases h with
    | false => exact same s
    | true => exact written s high _ highWithin
  | true =>
    cases h with
    | false => exact written s low _ lowWithin
    | true => exact (written s low _ lowWithin).trans (written _ high _ highWithin)

/-! ### Where the bytes of a word lie -/

theorem State.lowByteAddress_eq (s : State) (a : Nat) :
    s.lowByteAddress a = if s.order = .lowFirst then a else a + 1 := by
  unfold State.lowByteAddress
  cases s.order <;> rfl

theorem State.highByteAddress_eq (s : State) (a : Nat) :
    s.highByteAddress a = if s.order = .lowFirst then a + 1 else a := by
  unfold State.highByteAddress
  cases s.order <;> rfl

/-- The byte beside an even address is no slot state byte. -/
theorem managedSlot_odd {a : Nat} (even : a % 2 = 0) : managedSlot (a + 1) = none := by
  unfold managedSlot
  rw [if_pos (by omega)]

theorem managedSlot_slotAddress (lane : Lane) {index : Nat} (small : index < 32) :
    managedSlot (slotAddress lane index) = some (lane, index) := by
  cases lane with
  | a =>
    have lies : slotAddress .a index = 0x0800 + 64 * index := rfl
    rw [lies, managedSlot, if_neg (by omega), if_pos (by omega)]
    exact congrArg (fun k => some (Lane.a, k)) (by omega)
  | b =>
    have lies : slotAddress .b index = 0x1000 + 64 * index := rfl
    rw [lies, managedSlot, if_neg (by omega), if_neg (by omega), if_pos (by omega)]
    exact congrArg (fun k => some (Lane.b, k)) (by omega)

/-- A slot state byte lies below the staging area. -/
theorem managedSlot_staging {a : Nat} (staging : 0x2000 ≤ a) : managedSlot a = none := by
  unfold managedSlot
  split
  · rfl
  · rw [if_neg (by omega), if_neg (by omega)]

/-- A byte that is no slot state byte of a present lane is stored (R1, R3, R14). -/
theorem State.hostByte_plain {s : State} {a : Nat} (value : Byte)
    (plain : ∀ lane index, managedSlot a = some (lane, index) → s.present lane = false) :
    s.hostByte a value = s.writeByte a value := by
  unfold State.hostByte
  split
  next lane index managed =>
    have lies : slotAddress lane index = a := by
      unfold managedSlot at managed
      split at managed
      · cases managed
      · split at managed
        · cases managed
          simp only [slotAddress, slotsBase]
          omega
        · split at managed
          · cases managed
            simp only [slotAddress, slotsBase]
            omega
          · cases managed
    rw [State.transitionRequest, if_pos (.inl (plain lane index managed)), lies]
  next => rfl

/-- The strobed bytes of a word that holds no slot state byte of a present lane. -/
theorem State.hostBytes_plain {s : State} {a : Nat} (value : Half) (strobes : Strobes) (even : a % 2 = 0)
    (plain : ∀ lane index, managedSlot a = some (lane, index) → s.present lane = false) :
    (let t := if strobes.low then s.hostByte (s.lowByteAddress a) (value.setWidth 8) else s
      if strobes.high then t.hostByte (t.highByteAddress a) ((value >>> 8).setWidth 8) else t)
      = s.storeWord (s.lowByteAddress a) (s.highByteAddress a) value strobes := by
  have stored : ∀ (t : State) (b : Nat) (v : Byte), t.laneCount = s.laneCount → b = a ∨ b = a + 1 → t.hostByte b v = t.writeByte b v := by
    intro t b v count at_
    refine State.hostByte_plain v fun lane index managed => ?_
    have same : t.present lane = s.present lane := by simp [State.present, count]
    rcases at_ with rfl | rfl
    · exact same.trans (plain lane index managed)
    · rw [managedSlot_odd even] at managed
      cases managed
  have lowAt : ∀ t : State, t.lowByteAddress a = a ∨ t.lowByteAddress a = a + 1 := by
    intro t
    unfold State.lowByteAddress
    split <;> simp
  have highAt : ∀ t : State, t.highByteAddress a = a ∨ t.highByteAddress a = a + 1 := by
    intro t
    unfold State.highByteAddress
    split <;> simp
  unfold State.storeWord
  obtain ⟨l, h⟩ := strobes
  cases l <;> cases h
  · rfl
  · exact stored s _ _ rfl (highAt s)
  · exact stored s _ _ rfl (lowAt s)
  · dsimp only [if_true]
    rw [if_pos rfl, if_pos rfl, if_pos rfl, if_pos rfl, stored s _ _ rfl (lowAt s)]
    exact stored _ _ _ rfl (highAt s)

/-! ### The bus write -/

/-- A bus write below the register window is a write to exchange memory. -/
theorem exec_exchangeMemoryWrite {s : State} {address : Half} (value : Half) (strobes : Strobes) (supply : s.supply = true)
    (even : address.toNat % 2 = 0) (below : address.toNat < 0xFFF0) :
    exec (.exchangeMemoryWrite address value strobes) s = .next (s.hostWord address.toNat value strobes).flush := by
  refine (powered_on (fun s => s.busWrite address value strobes) supply).trans (congrArg (fun t : State => Host.Outcome.next t.flush) ?_)
  unfold State.busWrite
  dsimp only
  rw [even, Nat.sub_zero, if_neg (by simp only [registerWindow]; omega)]

/-- A bus write to the register window. -/
theorem exec_registerWrite {s : State} {address : Half} (value : Half) (strobes : Strobes) (supply : s.supply = true)
    (even : address.toNat % 2 = 0) (window : 0xFFF0 ≤ address.toNat) :
    exec (.exchangeMemoryWrite address value strobes) s = .next (s.registerWrite address.toNat value strobes).flush := by
  refine (powered_on (fun s => s.busWrite address value strobes) supply).trans (congrArg (fun t : State => Host.Outcome.next t.flush) ?_)
  unfold State.busWrite
  dsimp only
  rw [even, Nat.sub_zero, if_pos (by simpa only [registerWindow] using window)]

theorem even_of_wf {address value : Half} {strobes : Strobes}
    (wf : (Instr.exchangeMemoryWrite address value strobes).wf = true) : address.toNat % 2 = 0 := by
  have both : (busWord address && strobes.wf) = true := wf
  simp only [Bool.and_eq_true, busWord, beq_iff_eq] at both
  exact both.1

/-- The word stored, no load reading. -/
theorem State.hostWord_plain {s : State} {a : Nat} (value : Half) (strobes : Strobes) (still : s.load = none ∨ a < 0x2000)
    (even : a % 2 = 0) (plain : ∀ lane index, managedSlot a = some (lane, index) → s.present lane = false) :
    s.hostWord a value strobes = s.storeWord (s.lowByteAddress a) (s.highByteAddress a) value strobes := by
  have unread : (if stagingAddress ≤ a then s.advanceLoad else s) = s := by
    split
    next staging =>
      have none := still.resolve_right (by simp only [stagingAddress] at staging; omega)
      unfold State.advanceLoad
      rw [none]
    next => rfl
  unfold State.hostWord
  rw [unread]
  exact State.hostBytes_plain value strobes even plain

/-! ### A load that reads meanwhile (R98) -/

theorem State.staged_four (s : State) (copy : List Byte) :
    s.staged copy 4 = [s.stagingByte copy 0, s.stagingByte copy 1, s.stagingByte copy 2, s.stagingByte copy 3] := by
  match copy with
  | [] => rfl
  | [_] => rfl
  | [_, _] => rfl
  | [_, _, _] => rfl
  | _ :: _ :: _ :: _ :: _ => simp [State.staged, State.stagingByte]

/-- The bytes a load has read when a write to the staging area meets it: no fewer than before, and no further than a whole word
or the end of the image. -/
theorem State.advanceLoad_reads {s : State} {load : LoadRecord} (loads : s.load = some load) :
    ∃ more, s.advanceLoad = { s with load := some { copy := load.copy ++ more }, freeCount := s.freeCount + 1 }
      ∧ more = s.readBytes (0x2000 + load.copy.length) more.length
      ∧ (more = [] ∨ (load.copy ++ more).length ≤ s.imageEnd load.copy
          ∧ ((load.copy ++ more).length % 2 = 0 ∨ (load.copy ++ more).length = s.imageEnd load.copy)) := by
  unfold State.advanceLoad
  rw [loads]
  dsimp only
  generalize reached : max load.copy.length (min (2 * Config.loadReadPoint s.freeCount) (s.imageEnd load.copy)) = n
  refine ⟨_, rfl, by rw [length_readBytes]; rfl, ?_⟩
  simp only [List.length_append, length_readBytes]
  by_cases further : load.copy.length < n
  · exact .inr (by omega)
  · refine .inl (List.length_eq_zero_iff.mp ?_)
    rw [length_readBytes]
    omega

/-! ### The statement's three clauses -/

/-- What a stored word leaves, read where the latched strap puts each byte. -/
theorem storeWord_shows (s : State) (a : Nat) (value : Half) (strobes : Strobes) :
    let lowAt := if s.order = .lowFirst then a else a + 1
    let highAt := if s.order = .lowFirst then a + 1 else a
    let t := s.storeWord (s.lowByteAddress a) (s.highByteAddress a) value strobes
    t.readByte lowAt = (if strobes.low then value.setWidth 8 else s.readByte lowAt)
      ∧ t.readByte highAt = (if strobes.high then (value >>> 8).setWidth 8 else s.readByte highAt)
      ∧ UnchangedOutside [(a, 2)] s t := by
  intro lowAt highAt t
  have apart : lowAt ≠ highAt := by
    simp only [lowAt, highAt]
    split <;> omega
  have addresses : t = s.storeWord lowAt highAt value strobes := by
    simp only [t, lowAt, highAt, State.lowByteAddress_eq, State.highByteAddress_eq]
  rw [addresses]
  refine ⟨readByte_storeWord_low s value strobes apart, readByte_storeWord_high s value strobes apart,
    unchangedOutside_storeWord s value strobes ?_ ?_⟩ <;>
  · simp only [lowAt, highAt]
    split <;> omega

theorem exec_stores {address value : Half} {strobes : Strobes} {s : State} (ready : s.Ready)
    (still : s.load = none ∨ address.toNat < 0x2000) (wf : (Instr.exchangeMemoryWrite address value strobes).wf = true)
    (below : address.toNat < 0xFFF0)
    (plain : ∀ lane index, managedSlot address.toNat = some (lane, index) → s.present lane = false) :
    exec (.exchangeMemoryWrite address value strobes) s
      = .next (s.storeWord (s.lowByteAddress address.toNat) (s.highByteAddress address.toNat) value strobes) := by
  rw [exec_exchangeMemoryWrite value strobes ready.1 (even_of_wf wf) below,
    State.hostWord_plain value strobes still (even_of_wf wf) plain,
    flush_clean (by rw [State.storeWord_eq]; exact ready.2.2)]

theorem State.refuseSlotWrite_writeByte (s : State) (lane : Lane) (a : Nat) (v : Byte) :
    (s.writeByte a v).refuseSlotWrite lane = (s.refuseSlotWrite lane).writeByte a v := by
  unfold State.refuseSlotWrite State.changeLane
  show (if laneFields 0 { s.tracker lane with refusals := count16 (s.tracker lane).refusals }
    = laneFields 0 (s.tracker lane) then _ else _ : State).raise _ = _
  split
  · rfl
  · cases lane <;> rfl

/-- The byte beside a state byte may be stored before the transition request or after it. -/
theorem State.transitionRequest_writeByte (s : State) (lane : Lane) (index : Nat) (code v : Byte) :
    (s.writeByte (slotAddress lane index + 1) v).transitionRequest lane index code
      = (s.transitionRequest lane index code).writeByte (slotAddress lane index + 1) v := by
  have reads : ∀ state, (s.writeByte (slotAddress lane index + 1) v).slotIs lane index state = s.slotIs lane index state := by
    intro state
    unfold State.slotIs
    rw [readByte_writeByte_other _ _ _ _ (by omega)]
  have moves : (s.writeByte (slotAddress lane index + 1) v).mayMove lane index code = s.mayMove lane index code := by
    simp only [State.mayMove, reads]
  unfold State.transitionRequest
  rw [moves]
  show (if s.present lane = false ∨ s.mayMove lane index code then _ else _) = _
  split
  · exact s.writeByte_comm _ _ (by omega)
  · exact s.refuseSlotWrite_writeByte lane _ v

/-- The word that holds a slot's state byte, written with the state byte's strobe: SLOT_STATE_WRITE. -/
theorem State.hostWord_requests {s : State} {lane : Lane} {index : Nat} {value : Half} {strobes : Strobes} (small : index < 32)
    {code : Byte} {beside : Option Byte}
    (bytes : (s.order = .lowFirst ∧ strobes.low = true ∧ code = value.setWidth 8
        ∧ beside = if strobes.high then some ((value >>> 8).setWidth 8) else none)
      ∨ s.order = .highFirst ∧ strobes.high = true ∧ code = (value >>> 8).setWidth 8
        ∧ beside = if strobes.low then some (value.setWidth 8) else none) :
    s.hostWord (slotAddress lane index) value strobes = s.slotStateWrite lane index code beside := by
  have below : (if stagingAddress ≤ slotAddress lane index then s.advanceLoad else s) = s :=
    if_neg (by cases lane <;> simp only [stagingAddress, slotAddress, slotsBase] <;> omega)
  have even : slotAddress lane index % 2 = 0 := by cases lane <;> simp only [slotAddress, slotsBase] <;> omega
  have requests : ∀ (t : State) (v : Byte), t.hostByte (slotAddress lane index) v = t.transitionRequest lane index v := by
    intro t v
    unfold State.hostByte
    rw [managedSlot_slotAddress lane small]
  have stores : ∀ (t : State) (v : Byte), t.hostByte (slotAddress lane index + 1) v = t.writeByte (slotAddress lane index + 1) v := by
    intro t v
    unfold State.hostByte
    rw [managedSlot_odd even]
  have sameOrder : ∀ (t : State) (v : Byte), (t.transitionRequest lane index v).order = t.order := by
    intro t v
    unfold State.transitionRequest
    split
    · rfl
    · rw [State.refuseSlotWrite_eq]
  obtain ⟨l, h⟩ := strobes
  unfold State.hostWord
  rw [below]
  rcases bytes with ⟨order, strobe, rfl, rfl⟩ | ⟨order, strobe, rfl, rfl⟩
  · have low : l = true := strobe
    subst low
    cases h with
    | false => simp [State.lowByteAddress, order, requests, State.slotStateWrite]
    | true =>
      simp [State.lowByteAddress, State.highByteAddress, order, requests, stores, sameOrder, State.slotStateWrite]
  · have high : h = true := strobe
    subst high
    cases l with
    | false => simp [State.highByteAddress, order, requests, State.slotStateWrite]
    | true =>
      have lowAt : s.lowByteAddress (slotAddress lane index) = slotAddress lane index + 1 := by simp [State.lowByteAddress, order]
      have highAt : ∀ v, (s.writeByte (slotAddress lane index + 1) v).highByteAddress (slotAddress lane index)
          = slotAddress lane index := fun v => by simp [State.highByteAddress, State.writeByte, order]
      dsimp only
      rw [if_pos rfl, if_pos rfl, lowAt, stores, highAt, requests, State.transitionRequest_writeByte]
      rfl

/-- The word that holds a slot's state byte, written beside the state byte alone. -/
theorem State.hostWord_beside {s : State} {lane : Lane} {index : Nat} {value : Half} {strobes : Strobes} (small : index < 32)
    {other : Byte}
    (bytes : (s.order = .lowFirst ∧ strobes.low = false ∧ strobes.high = true ∧ other = (value >>> 8).setWidth 8)
      ∨ s.order = .highFirst ∧ strobes.high = false ∧ strobes.low = true ∧ other = value.setWidth 8) :
    s.hostWord (slotAddress lane index) value strobes = s.writeByte (slotAddress lane index + 1) other := by
  have below : (if stagingAddress ≤ slotAddress lane index then s.advanceLoad else s) = s :=
    if_neg (by cases lane <;> simp only [stagingAddress, slotAddress, slotsBase] <;> omega)
  have even : slotAddress lane index % 2 = 0 := by cases lane <;> simp only [slotAddress, slotsBase] <;> omega
  obtain ⟨l, h⟩ := strobes
  unfold State.hostWord
  rw [below]
  rcases bytes with ⟨order, unstrobed, strobe, rfl⟩ | ⟨order, unstrobed, strobe, rfl⟩
  · obtain ⟨rfl, rfl⟩ : l = false ∧ h = true := ⟨unstrobed, strobe⟩
    simp [State.highByteAddress, order, State.hostByte, managedSlot_odd even]
  · obtain ⟨rfl, rfl⟩ : h = false ∧ l = true := ⟨unstrobed, strobe⟩
    simp [State.lowByteAddress, order, State.hostByte, managedSlot_odd even]

/-- A slot's address as a bus address. -/
theorem toNat_slotAddress (lane : Lane) (slot : BitVec 5) :
    (BitVec.ofNat 16 (slotAddress lane slot.toNat)).toNat = slotAddress lane slot.toNat := by
  have small := slot.isLt
  rw [BitVec.toNat_ofNat, Nat.mod_eq_of_lt]
  cases lane <;> simp only [slotAddress, slotsBase] <;> omega

theorem exec_slotWord {lane : Lane} {slot : BitVec 5} (value : Half) (strobes : Strobes) {s : State} (ready : s.Ready) :
    exec (.exchangeMemoryWrite (BitVec.ofNat 16 (slotAddress lane slot.toNat)) value strobes) s
      = .next (s.hostWord (slotAddress lane slot.toNat) value strobes).flush := by
  have small := slot.isLt
  have at_ := toNat_slotAddress lane slot
  rw [exec_exchangeMemoryWrite value strobes ready.1, at_] <;> rw [at_] <;>
    cases lane <;> simp only [slotAddress, slotsBase] <;> omega

/-- Settles O25. -/
theorem exchangeMemoryWriteStores : Obligations.ExchangeMemoryWriteStores := by
  refine ⟨fun address value strobes s ready still wf below plain => ?_,
    fun address value strobes s load ready loads wf staging below => ?_,
    fun value strobes lane slot s ready present canonical wf => ?_⟩
  · intro a lowAt highAt
    exact ⟨_, exec_stores ready still wf below plain, State.storeWord_eq .., storeWord_shows s a value strobes⟩
  · intro a lowAt highAt length stop
    have even := even_of_wf wf
    obtain ⟨more, advanced, read, bound⟩ := State.advanceLoad_reads loads
    obtain ⟨u, hu⟩ : ∃ u, s.advanceLoad = u := ⟨_, rfl⟩
    rw [hu] at advanced
    have run : exec (.exchangeMemoryWrite address value strobes) s
        = .next (u.storeWord (u.lowByteAddress a) (u.highByteAddress a) value strobes) := by
      rw [exec_exchangeMemoryWrite value strobes ready.1 even below]
      have word : s.hostWord a value strobes = u.storeWord (u.lowByteAddress a) (u.highByteAddress a) value strobes := by
        have reads : (if stagingAddress ≤ a then s.advanceLoad else s) = u := (if_pos staging).trans hu
        unfold State.hostWord
        rw [reads]
        exact State.hostBytes_plain value strobes even fun lane index managed => by
          rw [managedSlot_staging staging] at managed
          cases managed
      rw [word, flush_clean (by rw [State.storeWord_eq, advanced]; exact ready.2.2)]
    have order : u.order = s.order := by rw [advanced]
    have shows := storeWord_shows u a value strobes
    rw [order] at shows
    have sameBytes : ∀ b, u.readByte b = s.readByte b := fun b => by rw [advanced]; rfl
    simp only [sameBytes] at shows
    obtain ⟨low, high, rest⟩ := shows
    refine ⟨_, more, run, ?_, read, ?_, low, high, fun b outside => (rest b outside).trans (sameBytes b)⟩
    · rw [State.storeWord_eq, advanced]
    · have ends : s.imageEnd load.copy = stop := by
        unfold State.imageEnd State.imageLength
        rw [← State.staged_four]
        rfl
      exact ends ▸ bound
  · intro a low high request beside write
    have run := exec_slotWord (lane := lane) (slot := slot) value strobes ready
    refine ⟨fun code asked => ?_, fun other unasked stored => ?_⟩
    · refine run.trans ((congrArg (fun t : State => Host.Outcome.next t.flush) ?_).trans (exec_slotStateWrite ready ..).symm)
      refine State.hostWord_requests slot.isLt ?_
      cases order : s.order with
      | lowFirst =>
        simp only [request, beside, order, if_true, low, high] at asked ⊢
        cases strobe : strobes.low <;> simp_all
      | highFirst =>
        simp only [request, beside, order, low, high] at asked ⊢
        cases strobe : strobes.high <;> simp_all
    · have word : s.hostWord a value strobes = s.writeByte (a + 1) other := by
        refine State.hostWord_beside slot.isLt ?_
        cases order : s.order with
        | lowFirst =>
          simp only [request, beside, order, if_true, low, high] at unasked stored
          cases strobe : strobes.low <;> cases strobe' : strobes.high <;> simp_all
        | highFirst =>
          simp only [request, beside, order, low, high] at unasked stored
          cases strobe : strobes.low <;> cases strobe' : strobes.high <;> simp_all
      refine ⟨_, run.trans (by rw [word]; exact congrArg Host.Outcome.next (flush_clean (s := s.writeByte (a + 1) other) ready.2.2)), rfl, readByte_writeByte_same s _ other,
        unchangedOutside_writeByte s _ other⟩

end Sys2Proof.Machine
end

section
/-! SUPPORT. Two states that differ at most in the status block: every effect leaves them so (R4, R5). The bus and the events held for
the store need it, since a rewrite of the status block may fall before an effect or after it. -/

namespace Sys2Proof.Machine

/-- Two states that differ at most in the status block, its generation word and its marks, and in what waits for the
store. -/
structure State.Alike (s t : State) : Prop where
  rest : t = { s with mem := t.mem, generation := t.generation, dirty := t.dirty, heldReset := t.heldReset, held := t.held }
  shown : UnchangedOutside [statusBlock] s t

/-- Two plans that come to the same but for the status block. -/
inductive Plan.Alike : Plan → Plan → Prop where
  | done {s t : State} (h : s.Alike t) : Plan.Alike (.done s) (.done t)
  | update {s t : State} (h : s.Alike t) (work : Work) (values : Items) (other : work.ofStart = false) :
    Plan.Alike (.update work values s) (.update work values t)

theorem State.Alike.refl (s : State) : s.Alike s := ⟨rfl, fun _ _ => rfl⟩

theorem State.Alike.symm {s t : State} (h : s.Alike t) : t.Alike s where
  rest := by rw [h.rest]
  shown a outside := (h.shown a outside).symm

theorem State.Alike.trans {s t u : State} (first : s.Alike t) (second : t.Alike u) : s.Alike u where
  rest := by rw [second.rest, first.rest]
  shown := first.shown.trans second.shown

theorem State.Alike.elim {s t : State} (h : s.Alike t) :
    ∃ mem generation dirty reset held,
      t = { s with mem := mem, generation := generation, dirty := dirty, heldReset := reset, held := held } :=
  ⟨_, _, _, _, _, h.rest⟩

/-- The same reset and the same events wait for the store. -/
def State.WaitsAlike (s t : State) : Prop := t.heldReset = s.heldReset ∧ t.held = s.held

/-- With the marks and what waits the same, only exchange memory and the generation word differ. -/
theorem State.Alike.rest_of_marks {s t : State} (h : s.Alike t) (marks : t.dirty = s.dirty) (same : s.WaitsAlike t) :
    t = { s with mem := t.mem, generation := t.generation } := h.rest.trans (by rw [marks, same.1, same.2])

theorem flush_waitsAlike (s : State) : s.WaitsAlike s.flush := by
  rw [flush_eq]
  exact ⟨rfl, rfl⟩

theorem State.WaitsAlike.symm {s t : State} (same : s.WaitsAlike t) : t.WaitsAlike s := ⟨same.1.symm, same.2.symm⟩

theorem State.WaitsAlike.trans {s t u : State} (first : s.WaitsAlike t) (second : t.WaitsAlike u) : s.WaitsAlike u :=
  ⟨second.1.trans first.1, second.2.trans first.2⟩

/-- A rewrite of the status block. -/
theorem State.alike_flush (s : State) : s.Alike s.flush := ⟨(flush_eq s).trans (by rw [flush_dirty, (flush_waitsAlike s).1, (flush_waitsAlike s).2]), unchangedOutside_flush s⟩

namespace State.Alike

section
variable {s t : State} (h : s.Alike t)
include h

/-! ### What they agree on -/

/-- What does not look at the status block, the generation word or the marks. -/
theorem agree {α : Type} (f : State → α)
    (blind : ∀ s mem generation dirty reset held,
      f { s with mem := mem, generation := generation, dirty := dirty, heldReset := reset, held := held } = f s) : f t = f s := by
  obtain ⟨m, g, d, r, w, rfl⟩ := h.elim
  exact blind s m g d r w

theorem tracker (lane : Lane) : t.tracker lane = s.tracker lane := h.agree (State.tracker · lane) fun _ _ _ _ _ _ => rfl
theorem link (lane : Lane) : t.link lane = s.link lane := h.agree (State.link · lane) fun _ _ _ _ _ _ => rfl
theorem present (lane : Lane) : t.present lane = s.present lane := h.agree (State.present · lane) fun _ _ _ _ _ _ => rfl
theorem supply : t.supply = s.supply := h.agree State.supply fun _ _ _ _ _ _ => rfl
theorem part : t.part = s.part := h.agree State.part fun _ _ _ _ _ _ => rfl
theorem store : t.store = s.store := h.agree State.store fun _ _ _ _ _ _ => rfl
theorem items : t.items = s.items := h.agree State.items fun _ _ _ _ _ _ => rfl
theorem calendar : t.calendar = s.calendar := h.agree State.calendar fun _ _ _ _ _ _ => rfl
theorem order : t.order = s.order := h.agree State.order fun _ _ _ _ _ _ => rfl
theorem powerWarn : t.powerWarn = s.powerWarn := h.agree State.powerWarn fun _ _ _ _ _ _ => rfl
theorem holds : t.holds = s.holds := h.agree State.holds fun _ _ _ _ _ _ => rfl
theorem takeQueue : t.takeQueue = s.takeQueue := h.agree State.takeQueue fun _ _ _ _ _ _ => rfl
theorem rating : t.rating = s.rating := h.agree State.rating fun _ _ _ _ _ _ => rfl
theorem useCounts : t.useCounts = s.useCounts := h.agree State.useCounts fun _ _ _ _ _ _ => rfl
theorem requests : t.requests = s.requests := h.agree State.requests fun _ _ _ _ _ _ => rfl
theorem load : t.load = s.load := h.agree State.load fun _ _ _ _ _ _ => rfl
theorem command : t.command = s.command := h.agree State.command fun _ _ _ _ _ _ => rfl
theorem inStore : t.inStore = s.inStore := h.agree State.inStore fun _ _ _ _ _ _ => rfl
theorem unbegun : t.unbegun = s.unbegun := h.agree State.unbegun fun _ _ _ _ _ _ => rfl
theorem notices : t.notices = s.notices := h.agree State.notices fun _ _ _ _ _ _ => rfl
theorem powerOns : t.powerOns = s.powerOns := h.agree State.powerOns fun _ _ _ _ _ _ => rfl
theorem busy : t.busy = s.busy := h.agree State.busy fun _ _ _ _ _ _ => rfl
theorem available : t.available = s.available := h.agree State.available fun _ _ _ _ _ _ => rfl
theorem low : t.low = s.low := h.agree State.low fun _ _ _ _ _ _ => rfl
theorem daysSince : t.daysSince = s.daysSince := h.agree State.daysSince fun _ _ _ _ _ _ => rfl
theorem switchDue : t.switchDue = s.switchDue := h.agree State.switchDue fun _ _ _ _ _ _ => rfl
theorem inactiveUse : t.inactiveUse = s.inactiveUse := h.agree State.inactiveUse fun _ _ _ _ _ _ => rfl

/-- A byte above the status block. -/
theorem readByte {a : Nat} (above : 0x0100 ≤ a) : t.readByte a = s.readByte a := h.shown a (byte_above_statusBlock above)

/-- A field above the status block. -/
theorem readField {a width : Nat} (above : 0x0100 ≤ a) : t.readField a width = s.readField a width :=
  h.shown.readField h.order fun r hr => .inr (by rw [List.mem_singleton.mp hr]; simpa [statusBlock] using above)

theorem slotIs (lane : Lane) (index : Nat) (state : SlotState) : t.slotIs lane index state = s.slotIs lane index state := by
  have above := slotAddress_ge lane index
  unfold State.slotIs
  rw [h.readByte (by omega)]

theorem inputCopy (lane : Lane) (index : Nat) : t.inputCopy lane index = s.inputCopy lane index := by
  have above := slotAddress_ge lane index
  have read : ∀ offset width, t.readField (slotAddress lane index + offset) width = s.readField (slotAddress lane index + offset) width :=
    fun offset width => h.readField (by omega)
  have byte : ∀ offset, t.readByte (slotAddress lane index + offset) = s.readByte (slotAddress lane index + offset) :=
    fun offset => h.readByte (by omega)
  simp only [State.inputCopy, read, byte]

theorem validateImage (copy : List Byte) : t.validateImage copy = s.validateImage copy := by
  refine State.validateImage_congr h.order (funext fun offset => ?_)
  unfold State.stagingByte
  split
  · rfl
  · exact h.readByte (by simp only [stagingAddress]; omega)

/-! ### Changes of what they agree on -/

theorem raise (c : Cause) : (s.raise c).Alike (t.raise c) := ⟨by obtain ⟨m, g, d, r, w, rfl⟩ := h.elim; rfl, h.shown⟩
theorem setTracker (lane : Lane) (r : Tracker) : (s.setTracker lane r).Alike (t.setTracker lane r) :=
  ⟨by obtain ⟨m, g, d, r, w, rfl⟩ := h.elim; rfl, h.shown⟩
theorem onTracker (lane : Lane) (f : Tracker → Tracker) : (s.onTracker lane f).Alike (t.onTracker lane f) :=
  ⟨by obtain ⟨m, g, d, r, w, rfl⟩ := h.elim; rfl, h.shown⟩
theorem onEntry (lane : Lane) (seq : Nat) (f : TrackEntry → TrackEntry) : (s.onEntry lane seq f).Alike (t.onEntry lane seq f) :=
  h.onTracker lane _
theorem setLink (lane : Lane) (k : Link) : (s.setLink lane k).Alike (t.setLink lane k) :=
  ⟨by obtain ⟨m, g, d, r, w, rfl⟩ := h.elim; rfl, h.shown⟩
theorem onLink (lane : Lane) (f : Link → Link) : (s.onLink lane f).Alike (t.onLink lane f) :=
  ⟨by obtain ⟨m, g, d, r, w, rfl⟩ := h.elim; rfl, h.shown⟩
theorem touchLane (lane : Lane) : (s.touchLane lane).Alike (t.touchLane lane) :=
  ⟨by obtain ⟨m, g, d, r, w, rfl⟩ := h.elim; cases lane <;> rfl, by cases lane <;> exact h.shown⟩
theorem touchFunds : s.touchFunds.Alike t.touchFunds := ⟨by obtain ⟨m, g, d, r, w, rfl⟩ := h.elim; rfl, h.shown⟩
theorem touchSpoiled : s.touchSpoiled.Alike t.touchSpoiled := ⟨by obtain ⟨m, g, d, r, w, rfl⟩ := h.elim; rfl, h.shown⟩
theorem touchBanks : s.touchBanks.Alike t.touchBanks := ⟨by obtain ⟨m, g, d, r, w, rfl⟩ := h.elim; rfl, h.shown⟩
theorem touchCalendar : s.touchCalendar.Alike t.touchCalendar := ⟨by obtain ⟨m, g, d, r, w, rfl⟩ := h.elim; rfl, h.shown⟩
theorem setPart (part : PartState) : (s.setPart part).Alike (t.setPart part) :=
  ⟨by obtain ⟨m, g, d, r, w, rfl⟩ := h.elim; rfl, h.shown⟩
theorem withHolds (holds : List Hold) : { s with holds := holds }.Alike { t with holds := holds } :=
  ⟨by obtain ⟨m, g, d, r, w, rfl⟩ := h.elim; rfl, h.shown⟩
theorem withTakeQueue (queue : List QueueEntry) : { s with takeQueue := queue }.Alike { t with takeQueue := queue } :=
  ⟨by obtain ⟨m, g, d, r, w, rfl⟩ := h.elim; rfl, h.shown⟩
theorem withRequests (requests : List Hold) : { s with requests := requests }.Alike { t with requests := requests } :=
  ⟨by obtain ⟨m, g, d, r, w, rfl⟩ := h.elim; rfl, h.shown⟩
theorem withRating (rating : Option RatingRecord) (counts : PerBank Nat) :
    { s with rating := rating, useCounts := counts }.Alike { t with rating := rating, useCounts := counts } :=
  ⟨by obtain ⟨m, g, d, r, w, rfl⟩ := h.elim; rfl, h.shown⟩
theorem withNotice (notice : Notice) : { s with notice := notice }.Alike { t with notice := notice } :=
  ⟨by obtain ⟨m, g, d, r, w, rfl⟩ := h.elim; rfl, h.shown⟩
theorem withCalendar (calendar : Calendar) : { s with calendar := calendar }.Alike { t with calendar := calendar } :=
  ⟨by obtain ⟨m, g, d, r, w, rfl⟩ := h.elim; rfl, h.shown⟩
theorem withLoad (load : Option LoadRecord) : { s with load := load }.Alike { t with load := load } :=
  ⟨by obtain ⟨m, g, d, r, w, rfl⟩ := h.elim; rfl, h.shown⟩
theorem withCommand (command : Option Instr) : { s with command := command }.Alike { t with command := command } :=
  ⟨by obtain ⟨m, g, d, r, w, rfl⟩ := h.elim; rfl, h.shown⟩
theorem withUnbegun (unbegun : Option (List Nat)) : { s with unbegun := unbegun }.Alike { t with unbegun := unbegun } :=
  ⟨by obtain ⟨m, g, d, r, w, rfl⟩ := h.elim; rfl, h.shown⟩
theorem withHeld (held held' : List HeldEvent) : { s with held := held }.Alike { t with held := held' } :=
  ⟨by obtain ⟨m, g, d, r, w, rfl⟩ := h.elim; rfl, h.shown⟩
theorem place (values : NewValues) : (s.place values).Alike (t.place values) :=
  ⟨by obtain ⟨m, g, d, r, w, rfl⟩ := h.elim; rfl, h.shown⟩
theorem inspect : s.inspect.Alike t.inspect := by
  unfold State.inspect
  rw [h.daysSince, h.items, h.agree State.notice fun _ _ _ _ _ _ => rfl]
  split
  · have either : ∀ (raised : Bool) (notice : Notice),
        (if raised then { s with notice := notice }.raise .inspectionDue else { s with notice := notice }).Alike
          (if raised then { t with notice := notice }.raise .inspectionDue else { t with notice := notice }) := by
      intro raised notice
      cases raised with
      | false => exact h.withNotice notice
      | true => exact (h.withNotice notice).raise _
    exact either _ _
  · exact h
theorem faultFound : s.faultFound.Alike t.faultFound := ⟨by obtain ⟨m, g, d, r, w, rfl⟩ := h.elim; rfl, h.shown⟩

/-! ### Writes to exchange memory -/

theorem writeByte (a : Nat) (v : Byte) : (s.writeByte a v).Alike (t.writeByte a v) := by
  refine ⟨by obtain ⟨m, g, d, r, w, rfl⟩ := h.elim; rfl, fun b outside => ?_⟩
  by_cases same : b = a
  · rw [same, readByte_writeByte_same, readByte_writeByte_same]
  · rw [readByte_writeByte_other _ _ _ _ same, readByte_writeByte_other _ _ _ _ same]
    exact h.shown b outside

theorem writeBytes (a : Nat) (vs : List Byte) :
    { s with mem := s.mem.writeBytes a vs }.Alike { t with mem := t.mem.writeBytes a vs } := by
  induction vs generalizing s t a with
  | nil => exact h
  | cons v vs ih => exact ih (h.writeByte a v) (a + 1)

theorem writeFieldsIn (order : BusOrder) (fs : List Field) :
    { s with mem := s.mem.writeFields order fs }.Alike { t with mem := t.mem.writeFields order fs } := by
  induction fs generalizing s t with
  | nil => exact h
  | cons f fs ih => exact ih (h.writeBytes f.address _)

theorem writeFields (fs : List Field) : (s.writeFields fs).Alike (t.writeFields fs) := by
  have written : t.writeFields fs = { t with mem := t.mem.writeFields s.order fs } := by rw [State.writeFields, h.order]
  rw [written]
  exact h.writeFieldsIn s.order fs

theorem setSlot (lane : Lane) (index : Nat) (state : SlotState) : (s.setSlot lane index state).Alike (t.setSlot lane index state) :=
  h.writeByte _ _
theorem writeStatus (status : Status) : (s.writeStatus status).Alike (t.writeStatus status) := h.writeFields _
theorem writeLoadReport (report : LoadReport) : (s.writeLoadReport report).Alike (t.writeLoadReport report) := h.writeFields _
theorem complete (status : Status) : (s.complete status).Alike (t.complete status) :=
  ((h.writeStatus status).withCommand none).raise _

theorem writeResults (lane : Lane) (e : TrackEntry) (fields : Nat → List Field) (bits : List Nat) :
    (s.writeResults lane e fields bits).Alike (t.writeResults lane e fields bits) := by
  unfold State.writeResults
  dsimp only
  cases e.slot with
  | none => exact h.onEntry lane _ _
  | some index => exact (h.onEntry lane _ _).writeFields _

theorem changeLane (lane : Lane) (f : Tracker → Tracker) : (s.changeLane lane f).Alike (t.changeLane lane f) := by
  unfold State.changeLane
  rw [h.tracker lane]
  split
  · exact h.onTracker lane f
  · exact (h.onTracker lane f).touchLane lane

end

end State.Alike
end Sys2Proof.Machine
end

section
/-! SUPPORT. Every event that the store may hold comes to the same on two states that differ at most in the status block. -/

namespace Sys2Proof.Machine
namespace State.Alike

section
variable {s t : State} (h : s.Alike t)
include h

/-! ### The belt -/

theorem stray (lane : Lane) : (s.stray lane).Alike (t.stray lane) := (h.changeLane lane _).raise _

theorem endBatch (lane : Lane) : (s.endBatch lane).Alike (t.endBatch lane) := by
  unfold State.endBatch
  dsimp only
  rw [h.tracker lane, h.calendar]
  split
  · exact ((h.writeFields _).raise _).onTracker lane _
  · exact h

theorem slotDone (lane : Lane) (e : TrackEntry) (index : Nat) (outcome : PieceOutcome) (cause : Option DivertCause) :
    (s.slotDone lane e index outcome cause).Alike (t.slotDone lane e index outcome cause) := by
  unfold State.slotDone
  dsimp only
  rw [h.tracker lane, h.order]
  exact ((((((h.writeResults lane e _ _).setSlot lane index .done).onTracker lane _).touchLane lane).raise _).endBatch lane)

theorem endEntry (lane : Lane) (e : TrackEntry) (outcome : PieceOutcome) (cause : Option DivertCause) :
    (s.endEntry lane e outcome cause).Alike (t.endEntry lane e outcome cause) := by
  unfold State.endEntry
  cases e.slot with
  | none => exact h.onTracker lane _
  | some index => exact (h.slotDone lane e index outcome cause).onTracker lane _

theorem drainCheck (lane : Lane) : (s.drainCheck lane).Alike (t.drainCheck lane) := by
  unfold State.drainCheck
  dsimp only
  rw [h.tracker lane]
  split
  · exact (h.setTracker lane _).touchLane lane
  · exact h

theorem endEntries (lane : Lane) (otherwise : DivertCause) (es : List TrackEntry) :
    (s.endEntries lane otherwise es).Alike (t.endEntries lane otherwise es) := by
  induction es generalizing s t with
  | nil => exact h
  | cons e es ih => exact ih (h.endEntry lane e _ _)

theorem emptyHalted (lane : Lane) : (s.emptyHalted lane).Alike (t.emptyHalted lane) := by
  unfold State.emptyHalted
  dsimp only
  rw [h.tracker lane, h.link lane]
  split
  · exact ((h.endEntries lane .jammed _).onTracker lane _).touchLane lane
  · exact h

theorem releaseLane (lane : Lane) : (s.releaseLane lane).Alike (t.releaseLane lane) := by
  unfold State.releaseLane
  rw [h.holds]
  split
  · exact (h.withHolds _).touchFunds
  · exact h

theorem halt (lane : Lane) (cause : HaltCause) : (s.halt lane cause).Alike (t.halt lane cause) := by
  unfold State.halt
  dsimp only
  rw [h.tracker lane]
  split
  · have set := h.setTracker lane
      { s.tracker lane with state := .halting, haltCause := some cause, queue := (s.tracker lane).queue.map TrackEntry.jam }
    rw [set.takeQueue]
    exact ((((set.withTakeQueue _).releaseLane lane).touchLane lane).raise _).emptyHalted lane
  · exact h

theorem openSlot (lane : Lane) : (s.openSlot lane).Alike (t.openSlot lane) := by
  unfold State.openSlot
  dsimp only
  rw [h.tracker lane]
  exact ((((h.writeFields _).setSlot lane _ _).raise _).onTracker lane _).touchLane lane

theorem enterWithoutSlot (lane : Lane) (cause : DivertCause) : (s.enterWithoutSlot lane cause).Alike (t.enterWithoutSlot lane cause) := by
  unfold State.enterWithoutSlot
  dsimp only
  split
  · exact (((h.onTracker lane _).touchLane lane).onTracker lane _).raise _
  · exact (h.onTracker lane _).touchLane lane

theorem enter (lane : Lane) : (s.enter lane).Alike (t.enter lane) := by
  have refusal : t.entryRefusal lane = s.entryRefusal lane := by
    unfold State.entryRefusal
    simp only [h.tracker lane, h.slotIs]
  unfold State.enter
  rw [h.tracker lane, refusal]
  split
  · exact h.halt lane _
  · cases s.entryRefusal lane with
    | some cause => exact h.enterWithoutSlot lane cause
    | none => exact h.openSlot lane

/-- What R36 makes of an entry whose slot is TAKEN. -/
theorem queued (lane : Lane) (seq : Nat) :
    (if takeQueueLimit ≤ s.takeQueue.length then s.onEntry lane seq (fun e => e.divert .rateQueueFull)
      else if s.powerWarn then s.onEntry lane seq (fun e => e.divert .powerWarning)
      else { s with takeQueue := s.takeQueue ++ [QueueEntry.mk lane seq] }.onEntry lane seq (fun e => { e with stage := .queued })).Alike
    (if takeQueueLimit ≤ t.takeQueue.length then t.onEntry lane seq (fun e => e.divert .rateQueueFull)
      else if t.powerWarn then t.onEntry lane seq (fun e => e.divert .powerWarning)
      else { t with takeQueue := t.takeQueue ++ [QueueEntry.mk lane seq] }.onEntry lane seq (fun e => { e with stage := .queued })) := by
  by_cases full : takeQueueLimit ≤ s.takeQueue.length
  · have full' : takeQueueLimit ≤ t.takeQueue.length := by rwa [h.takeQueue]
    rw [if_pos full, if_pos full']
    exact h.onEntry lane _ _
  · have full' : ¬ takeQueueLimit ≤ t.takeQueue.length := by rwa [h.takeQueue]
    rw [if_neg full, if_neg full']
    by_cases warns : s.powerWarn = true
    · have warns' : t.powerWarn = true := h.powerWarn.trans warns
      rw [if_pos warns, if_pos warns']
      exact h.onEntry lane _ _
    · have warns' : ¬ t.powerWarn = true := by rwa [h.powerWarn]
      rw [if_neg warns, if_neg warns', h.takeQueue]
      exact (h.withTakeQueue _).onEntry lane _ _

theorem rateFilled (lane : Lane) (e : TrackEntry) (index : Nat) : (s.rateFilled lane e index).Alike (t.rateFilled lane e index) := by
  unfold State.rateFilled
  dsimp only
  rw [h.inputCopy]
  have passed := (h.setSlot lane index .taken).onEntry lane e.seq
    (fun e => { e.pass .rate with input := some (s.inputCopy lane index) })
  exact passed.queued lane e.seq

theorem ratePhotocell (lane : Lane) : (s.ratePhotocell lane).Alike (t.ratePhotocell lane) := by
  unfold State.ratePhotocell
  rw [h.tracker lane]
  cases (s.tracker lane).applies .rate with
  | none => exact h.stray lane
  | some e =>
    dsimp only
    split
    · rw [h.slotIs]
      split
      · exact h.rateFilled lane e _
      · exact (h.setSlot lane _ _).onEntry lane _ _
    · exact h.onEntry lane _ _

theorem releaseHold (lane : Lane) (seq : Nat) : (s.releaseHold lane seq).Alike (t.releaseHold lane seq) := by
  unfold State.releaseHold
  rw [h.holds]
  exact (h.withHolds _).touchFunds

theorem dispatchPlan (lane : Lane) (e : TrackEntry) : (s.dispatchPlan lane e).Alike (t.dispatchPlan lane e) := by
  have refusal : t.dispatchRefusal lane = s.dispatchRefusal lane := h.agree (State.dispatchRefusal · lane) fun _ _ _ _ _ _ => rfl
  have hold : t.holdOf lane e.seq = s.holdOf lane e.seq := h.agree (State.holdOf · lane e.seq) fun _ _ _ _ _ _ => rfl
  unfold State.dispatchPlan
  rw [refusal, hold, h.items, h.calendar]
  cases s.dispatchRefusal lane with
  | some cause => exact .done ((h.releaseHold lane e.seq).onEntry lane _ _)
  | none =>
    cases s.holdOf lane e.seq with
    | none => exact .done (h.onEntry lane _ _)
    | some hold => exact .update h _ _ rfl

theorem leaveTakeQueue (lane : Lane) (seq : Nat) : (s.leaveTakeQueue lane seq).Alike (t.leaveTakeQueue lane seq) := by
  unfold State.leaveTakeQueue
  rw [h.takeQueue]
  exact h.withTakeQueue _

theorem printPhotocell (lane : Lane) : (s.printPhotocell lane).Alike (t.printPhotocell lane) := by
  unfold State.printPhotocell
  rw [h.tracker lane]
  cases (s.tracker lane).applies .print with
  | none => exact .done (h.stray lane)
  | some e =>
    dsimp only
    split
    · exact h.dispatchPlan lane e
    · exact .done ((h.leaveTakeQueue lane e.seq).onEntry lane _ _)
    · exact .done (h.onEntry lane _ _)
    · exact .done (h.onEntry lane _ _)

theorem driveGate (lane : Lane) (e : TrackEntry) : (s.driveGate lane e).Alike (t.driveGate lane e) :=
  ((h.onTracker lane _).writeResults lane e _ _).onEntry lane _ _

theorem endAtExit (lane : Lane) (e : TrackEntry) : (s.endAtExit lane e).Alike (t.endAtExit lane e) := by
  unfold State.endAtExit
  split
  · exact h
  all_goals exact h.endEntry lane e _ _

theorem exitPhotocell (lane : Lane) : (s.exitPhotocell lane).Alike (t.exitPhotocell lane) := by
  unfold State.exitPhotocell
  rw [h.tracker lane]
  cases (s.tracker lane).applies .exit with
  | none => exact h.stray lane
  | some e =>
    have driven := h.driveGate lane e
    dsimp only
    rw [driven.tracker lane]
    cases ((s.driveGate lane e).tracker lane).find e.seq with
    | none => exact driven
    | some e => exact (driven.endAtExit lane e).drainCheck lane

theorem encoderCount (lane : Lane) : (s.encoderCount lane).Alike (t.encoderCount lane) := by
  unfold State.encoderCount
  dsimp only
  rw [h.tracker lane, h.present lane]
  split
  · split
    · exact (h.setTracker lane _).halt lane _
    · exact h.setTracker lane _
  · exact h

theorem moveLane (lane : Lane) (state : LaneState) : (s.moveLane lane state).Alike (t.moveLane lane state) :=
  (h.onTracker lane _).touchLane lane

theorem runWrite (lane : Lane) (value : Bool) : (s.runWrite lane value).Alike (t.runWrite lane value) := by
  unfold State.runWrite
  rw [h.present lane, h.tracker lane, h.part]
  split
  · split
    · split
      · exact h.moveLane lane _
      · exact h
    · exact (h.moveLane lane _).drainCheck lane
    · exact h.moveLane lane _
    · exact h.moveLane lane _
    · exact h
  · exact h

theorem sensorPlan (lane : Lane) (photocell : Position) (edge : Edge) (tracked : State → Plan)
    (tracks : (tracked s).Alike (tracked t)) :
    (s.sensorPlan lane photocell edge tracked).Alike (t.sensorPlan lane photocell edge tracked) := by
  unfold State.sensorPlan
  dsimp only
  rw [h.present lane, h.tracker lane]
  split
  · exact .done h
  · split
    · exact tracks
    · exact .done (h.stray lane)

/-! ### The links -/

theorem settlePlan (lane : Lane) (result : PrintResult) (expired : Bool) :
    (s.settlePlan lane result expired).Alike (t.settlePlan lane result expired) := by
  unfold State.settlePlan
  rw [h.link lane, h.items]
  cases (s.link lane).outstanding with
  | none => exact .done h
  | some imprint => exact .update h _ _ rfl

theorem answerPlan (lane : Lane) (frame : BitVec 48) : (s.answerPlan lane frame).Alike (t.answerPlan lane frame) := by
  unfold State.answerPlan
  dsimp only
  rw [h.link lane]
  split
  · split
    · exact .done (h.setLink lane _)
    · split
      · exact .done (h.setLink lane _)
      · split
        · exact h.settlePlan lane _ _
        · split
          · exact (h.setLink lane _).settlePlan lane _ _
          · exact .done (h.setLink lane _)
  · exact .done h

theorem expiryPlan (lane : Lane) : (s.expiryPlan lane).Alike (t.expiryPlan lane) := by
  unfold State.expiryPlan
  dsimp only
  rw [h.link lane]
  split
  · exact .done h
  · split
    · exact h.settlePlan lane _ _
    · exact .done (h.setLink lane _)
    · exact .done h

theorem linkPlan (lane : Lane) (plan : State → Plan) (plans : (plan s).Alike (plan t)) :
    (s.linkPlan lane plan).Alike (t.linkPlan lane plan) := by
  unfold State.linkPlan
  rw [h.present lane]
  split
  · exact plans
  · exact .done h

theorem frameSent (lane : Lane) : (s.frameSent lane).Alike (t.frameSent lane) := by
  unfold State.frameSent
  dsimp only
  rw [h.link lane, h.tracker lane]
  split
  · exact h.setLink lane _
  · exact h

theorem answerReady (lane : Lane) : (s.answerReady lane).Alike (t.answerReady lane) := by
  unfold State.answerReady
  dsimp only
  rw [h.link lane]
  split
  · exact h.setLink lane _
  · split
    · exact h.setLink lane _
    · exact h
  · exact h

theorem settleEntry (lane : Lane) (seq : Nat) (result : PrintResult) : (s.settleEntry lane seq result).Alike (t.settleEntry lane seq result) := by
  unfold State.settleEntry
  rw [h.tracker lane]
  cases (s.tracker lane).find seq with
  | none => exact h
  | some e =>
    dsimp only
    have shown := ((h.onEntry lane seq (fun e => { e with stage := if result = .printed then Stage.printed else Stage.spoiled })).writeResults
      lane e (fun index => [slotField lane index 0x26 1 (printResultCode result)]) [printResultBit])
    rw [shown.tracker lane]
    split
    · split
      · exact shown.endEntry lane _ _ _
      · exact shown
    · exact shown

/-! ### The rating unit and the funds unit -/

/-- The head of the take queue bound to the active bank. -/
theorem bound (q : QueueEntry) (rest : List QueueEntry) (idle : s.rating = none) (queue : s.takeQueue = q :: rest) : s.take.Alike t.take := by
  have rested := h.withTakeQueue rest
  unfold State.take
  split
  next p rest₁ _ queue₁ =>
    cases queue₁.symm.trans queue
    split
    next p rest₁ _ queue₁ =>
      cases queue₁.symm.trans (h.takeQueue.trans queue)
      dsimp only
      rw [rested.tracker, rested.items]
      split
      · exact rested
      · rw [rested.useCounts]
        exact (rested.onEntry q.lane q.seq _).withRating _ _
    next busy => exact (busy q rest (h.rating.trans idle) (h.takeQueue.trans queue)).elim
  next busy => exact (busy q rest idle queue).elim

theorem take : s.take.Alike t.take := by
  by_cases bound : ∃ q rest, s.rating = none ∧ s.takeQueue = q :: rest
  · obtain ⟨q, rest, idle, queue⟩ := bound
    exact h.bound q rest idle queue
  · have still : ∀ u : State, u.rating = s.rating → u.takeQueue = s.takeQueue → u.take = u := by
      intro u rating takeQueue
      unfold State.take
      split
      next q rest idle queue => exact absurd ⟨q, rest, rating.symm.trans idle, takeQueue.symm.trans queue⟩ bound
      next => rfl
    rw [still s rfl rfl, still t h.rating h.takeQueue]
    exact h

theorem request (hold : Hold) : { s with requests := s.requests ++ [hold] }.Alike { t with requests := t.requests ++ [hold] } := by
  rw [h.requests]
  exact h.withRequests _

theorem keepPriced (record : RatingRecord) (e : TrackEntry) (tableId postage format zone weight : Nat) (result : RatingResult) :
    (s.keepPriced record e tableId postage format zone weight result).Alike
      (t.keepPriced record e tableId postage format zone weight result) :=
  (((h.writeResults record.lane e _ _).onEntry _ _ _).onTracker _ _).request _

theorem keepRefused (record : RatingRecord) (e : TrackEntry) (tableId : Nat) (cause : DivertCause) (result : RatingResult) :
    (s.keepRefused record e tableId cause result).Alike (t.keepRefused record e tableId cause result) := by
  unfold State.keepRefused
  exact ((h.writeResults record.lane e _ _).onEntry _ _ _).onTracker _ _

theorem ratingCompletion : s.ratingCompletion.Alike t.ratingCompletion := by
  unfold State.ratingCompletion
  rw [h.rating, h.useCounts]
  cases s.rating with
  | none => exact h
  | some record =>
    have idle := h.withRating none (s.useCounts.set record.bank (s.useCounts.get record.bank - 1))
    dsimp only
    have kept := idle.agree (State.keptEntry · record) fun _ _ _ _ _ _ => rfl
    rw [kept, idle.items]
    split
    · exact idle
    · split
      · exact idle.keepPriced record _ _ _ _ _ _ _
      · exact idle.keepRefused record _ _ _ _

theorem placeHold (request : Hold) : (s.placeHold request).Alike (t.placeHold request) := by
  unfold State.placeHold
  dsimp only
  rw [h.holds, h.low]
  have placed := (h.withHolds (s.holds ++ [request])).touchFunds.onEntry request.lane request.seq
    (fun e => { e with stage := .held, held := some request.amount })
  rw [placed.low]
  split
  · exact placed.raise _
  · exact placed

theorem takeRequest : s.takeRequest.Alike t.takeRequest := by
  unfold State.takeRequest
  rw [h.requests]
  cases s.requests with
  | nil => exact h
  | cons request rest =>
    have rested := h.withRequests rest
    have refusal := rested.agree (State.holdRefusal · request) fun _ _ _ _ _ _ => rfl
    dsimp only
    rw [rested.tracker, refusal]
    split
    · exact rested
    · split
      · unfold State.refuseHold
        dsimp only
        split
        · exact (rested.onEntry _ _ _).raise _
        · exact rested.onEntry _ _ _
      · exact rested.placeHold request

end
end State.Alike
end Sys2Proof.Machine
end

section
/-! SUPPORT. Commands, whole updates, resets and held events on two states that differ at most in the status block. -/

namespace Sys2Proof.Machine
namespace State.Alike

section
variable {s t : State} (h : s.Alike t)
include h

/-! ### The rest of a whole update -/

theorem afterDebit (lane : Lane) (hold : Hold) (serial day : Nat) :
    (s.afterDebit lane hold serial day).Alike (t.afterDebit lane hold serial day) := by
  unfold State.afterDebit
  dsimp only
  rw [h.holds]
  have released := (h.withHolds (withoutHold s.holds lane hold.seq)).touchFunds
  rw [released.tracker lane, released.items]
  split
  · exact ((released.writeResults lane _ _ _).onEntry lane _ _).onLink lane _
  · exact released

theorem afterSettle (lane : Lane) (result : PrintResult) (expired : Bool) :
    (s.afterSettle lane result expired).Alike (t.afterSettle lane result expired) := by
  unfold State.afterSettle
  rw [h.link lane]
  cases (s.link lane).outstanding with
  | none => exact h
  | some imprint =>
    have idle := h.onLink lane (fun k => k.settle imprint result expired)
    have rest : ∀ {u v : State}, u.Alike v →
        (((if result ≠ .printed ∧ ((u.settleEntry lane imprint.seq result).link lane).faults = 3
            then (u.settleEntry lane imprint.seq result).halt lane .printerFault
            else u.settleEntry lane imprint.seq result).emptyHalted lane).drainCheck lane).Alike
          (((if result ≠ .printed ∧ ((v.settleEntry lane imprint.seq result).link lane).faults = 3
            then (v.settleEntry lane imprint.seq result).halt lane .printerFault
            else v.settleEntry lane imprint.seq result).emptyHalted lane).drainCheck lane) := by
      intro u v like
      have settled := like.settleEntry lane imprint.seq result
      rw [settled.link lane]
      split
      · exact ((settled.halt lane _).emptyHalted lane).drainCheck lane
      · exact (settled.emptyHalted lane).drainCheck lane
    refine rest ?_
    split
    · exact idle
    · exact idle.touchSpoiled

theorem abandonRating : s.abandonRating.Alike t.abandonRating := by
  refine ⟨?_, h.shown⟩
  obtain ⟨m, g, d, r, w, rfl⟩ := h.elim
  rfl

theorem parkLane (lane : Lane) : (s.parkLane lane).Alike (t.parkLane lane) := by
  have recorded : ∀ {u v : State}, u.Alike v →
      ((((u.endEntries lane .parked (u.tracker lane).queue).onTracker lane
          (fun r => { r with state := .stopped, haltCause := none })).onLink lane Link.park).touchLane lane).Alike
        ((((v.endEntries lane .parked (v.tracker lane).queue).onTracker lane
          (fun r => { r with state := .stopped, haltCause := none })).onLink lane Link.park).touchLane lane) := by
    intro u v like
    rw [like.tracker lane]
    exact (((like.endEntries lane _ _).onTracker lane _).onLink lane _).touchLane lane
  unfold State.parkLane
  dsimp only
  rw [h.link lane, h.tracker lane]
  refine recorded ?_
  split
  · exact h
  · split
    · exact h
    · exact h.writeResults lane _ _ _

theorem afterPark : s.afterPark.Alike t.afterPark :=
  (((((((h.withHolds []).abandonRating).parkLane .a).parkLane .b).touchFunds.touchSpoiled).complete .done).setPart .parked)

theorem afterSetAlert (before : Nat) : (s.afterSetAlert before).Alike (t.afterSetAlert before) := by
  unfold State.afterSetAlert
  rw [h.low, h.available]
  dsimp only
  split
  · exact (h.raise _).complete _
  · exact h.complete _

theorem afterSwitch : s.afterSwitch.Alike t.afterSwitch := h.touchBanks.raise _

theorem afterCommit (active : Bool) : (s.afterCommit active).Alike (t.afterCommit active) := by
  have freed := (h.withLoad none).touchBanks
  cases active with
  | false => exact (freed.writeLoadReport _).complete _
  | true => exact ((freed.raise _).writeLoadReport _).complete _

theorem setCalendar (day minute second : Nat) : (s.setCalendar day minute second).Alike (t.setCalendar day minute second) := by
  unfold State.setCalendar
  rw [h.calendar]
  exact (h.withCalendar _).touchCalendar.inspect

theorem beginUpdate (work : Work) (values : Items) (phase : Phase) :
    (s.beginUpdate work values phase).Alike (t.beginUpdate work values phase) :=
  ⟨by obtain ⟨m, g, d, r, w, rfl⟩ := h.elim; rfl, h.shown⟩

theorem after (work : Work) (other : work.ofStart = false) : (s.after work).Alike (t.after work) := by
  cases work with
  | debit lane hold serial day => exact h.afterDebit lane hold serial day
  | settle lane result expired => exact h.afterSettle lane result expired
  | park => exact h.afterPark
  | claim removed =>
    cases removed with
    | false => exact h.complete _
    | true => exact h.touchSpoiled.complete _
  | credit => exact (h.withNotice _).touchFunds.complete _
  | install => exact ((h.withNotice _).touchFunds.touchSpoiled.complete _).setPart _
  | setAccount => exact h.complete _
  | setAlert before => exact h.afterSetAlert before
  | closePeriod => exact h.complete _
  | commit active => exact h.afterCommit active
  | bankSwitch => exact h.afterSwitch
  | setDate day minute second => exact (h.setCalendar day minute second).afterSwitch.complete _
  | startClear => cases other
  | startConversion stop => cases other
  | startSwitch => cases other

/-! ### The commands -/

theorem answerWith (status : Status) : (s.answerWith status).Alike (t.answerWith status) := .done (h.complete status)

theorem commandWork (i : Instr) : (commandWork i s).Alike (commandWork i t) := by
  cases i with
  | setDate day minute second pace =>
    show (setDatePlan _ _ _ s).Alike (setDatePlan _ _ _ t)
    unfold setDatePlan
    have due : ({ t with calendar := t.calendar.setTo day.toNat minute.toNat second.toNat } : State).switchDue
        = ({ s with calendar := s.calendar.setTo day.toNat minute.toNat second.toNat } : State).switchDue :=
      h.agree (fun s : State => ({ s with calendar := s.calendar.setTo day.toNat minute.toNat second.toNat } : State).switchDue)
        fun _ _ _ _ _ _ => rfl
    rw [due, h.items]
    split
    · exact h.answerWith _
    · split
      · exact .update h _ _ rfl
      · exact .done ((h.setCalendar _ _ _).complete _)
  | configureLane x =>
    show (configureLanePlan x s).Alike (configureLanePlan x t)
    unfold configureLanePlan
    split
    · exact h.answerWith _
    · rw [h.part, h.tracker, h.present]
      split
      · exact h.answerWith _
      · split
        · exact .done ((h.onTracker _ _).complete _)
        · exact h.answerWith _
  | closeSetup => exact .done ((h.complete _).setPart _)
  | installLicence x pace =>
    show (installLicencePlan x s).Alike (installLicencePlan x t)
    unfold installLicencePlan
    rw [h.items, h.calendar]
    split
    · exact h.answerWith _
    · exact .update h _ _ rfl
  | loadRates =>
    show (loadRatesPlan s).Alike (loadRatesPlan t)
    unfold loadRatesPlan
    rw [h.inactiveUse]
    split
    · exact .done ((h.writeLoadReport _).complete _)
    · exact .done (h.withLoad _)
  | applyVoucher x pace =>
    show (applyVoucherPlan x s).Alike (applyVoucherPlan x t)
    unfold applyVoucherPlan
    rw [h.items, h.calendar]
    split
    · exact h.answerWith _
    · split
      · exact h.answerWith _
      · split
        · exact h.answerWith _
        · exact .update h _ _ rfl
  | setAccount account state pace =>
    show (setAccountPlan account state s).Alike (setAccountPlan account state t)
    unfold setAccountPlan
    rw [h.items]
    split
    · exact .update h _ _ rfl
    · exact h.answerWith _
  | setFundsAlert threshold pace =>
    show (setFundsAlertPlan threshold.toNat s).Alike (setFundsAlertPlan threshold.toNat t)
    unfold setFundsAlertPlan
    rw [h.items]
    split
    · exact .update h _ _ rfl
    · exact h.answerWith _
  | reportFunds =>
    have report : fundsReport t = fundsReport s := h.agree fundsReport fun _ _ _ _ _ _ => rfl
    show (reportFundsPlan s).Alike (reportFundsPlan t)
    unfold reportFundsPlan
    rw [report]
    exact .done ((h.writeFields _).complete _)
  | readAccounts =>
    have report : accountsReport t .read = accountsReport s .read := h.agree (accountsReport · .read) fun _ _ _ _ _ _ => rfl
    show (readAccountsPlan s).Alike (readAccountsPlan t)
    unfold readAccountsPlan
    rw [report]
    exact .done ((h.writeFields _).complete _)
  | openBatch lane id =>
    have named : t.namedLane lane = s.namedLane lane := h.agree (State.namedLane · lane) fun _ _ _ _ _ _ => rfl
    show (openBatchPlan lane id.toNat s).Alike (openBatchPlan lane id.toNat t)
    unfold openBatchPlan
    rw [named, h.calendar]
    split
    · exact h.answerWith _
    · rw [h.tracker]
      split
      · exact .done ((h.onTracker _ _).complete _)
      · exact h.answerWith _
  | closeBatch lane =>
    have named : t.namedLane lane = s.namedLane lane := h.agree (State.namedLane · lane) fun _ _ _ _ _ _ => rfl
    show (closeBatchPlan lane s).Alike (closeBatchPlan lane t)
    unfold closeBatchPlan
    rw [named]
    split
    · exact h.answerWith _
    · rw [h.tracker]
      split
      · exact .done (((h.onTracker _ _).endBatch _).complete _)
      · exact h.answerWith _
  | resumeLane lane =>
    have named : t.namedLane lane = s.namedLane lane := h.agree (State.namedLane · lane) fun _ _ _ _ _ _ => rfl
    show (resumeLanePlan lane s).Alike (resumeLanePlan lane t)
    unfold resumeLanePlan
    rw [named]
    split
    · exact h.answerWith _
    · rw [h.tracker]
      split
      · exact .done ((((h.onTracker _ _).onLink _ _).touchLane _).complete _)
      · exact h.answerWith _
  | setPostdate offset =>
    show (setPostdatePlan offset.toNat s).Alike (setPostdatePlan offset.toNat t)
    unfold setPostdatePlan
    split
    · exact h.answerWith _
    · have set : ∀ {u v : State}, u.Alike v → { u with calendar := { u.calendar with postdate := offset.toNat } }.Alike
          { v with calendar := { v.calendar with postdate := offset.toNat } } := by
        intro u v like
        rw [like.calendar]
        exact like.withCalendar _
      exact .done ((set h).complete _)
  | closePeriod pace =>
    have report : accountsReport t .close = accountsReport s .close := h.agree (accountsReport · .close) fun _ _ _ _ _ _ => rfl
    show (closePeriodPlan s).Alike (closePeriodPlan t)
    unfold closePeriodPlan
    rw [report, h.items]
    exact .update (h.writeFields _) _ _ rfl
  | claimSpoiled limit pace =>
    have report : spoiledReport t limit.toNat = spoiledReport s limit.toNat :=
      h.agree (spoiledReport · limit.toNat) fun _ _ _ _ _ _ => rfl
    have reported := h.writeFields (spoiledReport s limit.toNat)
    show (claimSpoiledPlan limit.toNat s).Alike (claimSpoiledPlan limit.toNat t)
    unfold claimSpoiledPlan claimPlan
    rw [report, h.items, reported.items]
    exact .update reported _ _ rfl
  | park pace =>
    show (parkPlan s).Alike (parkPlan t)
    unfold parkPlan
    rw [h.part, h.items]
    split
    · exact .done h
    · exact h.answerWith _
    · split
      · exact .done h.afterPark
      · exact .update h _ _ rfl
  | unknownCommand code => exact h.answerWith _
  | _ => exact .done h

theorem commandPlan (i : Instr) : (commandPlan i s).Alike (commandPlan i t) := by
  unfold Machine.commandPlan
  rw [h.part]
  split
  · exact h.commandWork i
  · exact h.answerWith _

theorem loadRatesCompletionPlan : (loadRatesCompletionPlan s).Alike (loadRatesCompletionPlan t) := by
  unfold Machine.loadRatesCompletionPlan
  rw [h.load]
  split
  · exact .done h
  · rw [h.validateImage]
    split
    · exact .done (((h.withLoad none).writeLoadReport _).complete _)
    · rw [h.inactiveUse]
      split
      · exact .done (((h.withLoad none).writeLoadReport _).complete _)
      · rw [h.calendar, h.items]
        exact .update h _ _ rfl

theorem eventPlan (i : Instr) : (eventPlan i s).Alike (eventPlan i t) := by
  cases i with
  | entry lane edge => exact h.sensorPlan lane _ edge (fun s => .done (s.enter lane)) (.done (h.enter lane))
  | rate lane edge => exact h.sensorPlan lane _ edge (fun s => .done (s.ratePhotocell lane)) (.done (h.ratePhotocell lane))
  | print lane edge pace => exact h.sensorPlan lane _ edge (fun s => s.printPhotocell lane) (h.printPhotocell lane)
  | exit lane edge => exact h.sensorPlan lane _ edge (fun s => .done (s.exitPhotocell lane)) (.done (h.exitPhotocell lane))
  | encoderCount lane => exact .done (h.encoderCount lane)
  | run lane value => exact .done (h.runWrite lane value)
  | loadRatesCompletion pace => exact h.loadRatesCompletionPlan
  | take => exact .done h.take
  | ratingCompletion => exact .done h.ratingCompletion
  | holdRequest => exact .done h.takeRequest
  | frameSent lane => exact h.linkPlan lane (fun s => .done (s.frameSent lane)) (.done (h.frameSent lane))
  | answerReady lane => exact h.linkPlan lane (fun s => .done (s.answerReady lane)) (.done (h.answerReady lane))
  | answer lane frame pace => exact h.linkPlan lane (fun s => s.answerPlan lane frame) (h.answerPlan lane frame)
  | answerTimerExpiry lane pace => exact h.linkPlan lane (fun s => s.expiryPlan lane) (h.expiryPlan lane)
  | _ => exact h.commandPlan _

theorem switchPlan : s.switchPlan.Alike t.switchPlan := by
  unfold State.switchPlan
  rw [h.switchDue, h.items]
  split
  · exact .update h _ _ rfl
  · exact .done h

/-! ### Held events -/

theorem takeHeld (e : HeldEvent) : (s.takeHeld e).Alike (t.takeHeld e) := by
  have carried : ∀ {p q : Plan}, p.Alike q → (p.carryOut .made).Alike (q.carryOut .made) := by
    intro p q like
    cases like with
    | done like => exact like
    | update like work values other => exact (like.place _).after work other
  cases e with
  | event i => exact carried (h.eventPlan i)
  | switchCheck => exact carried h.switchPlan

/-- An effect followed by a rewrite of the status block. -/
theorem flush : s.flush.Alike t.flush := s.alike_flush.symm.trans (h.trans t.alike_flush)

/-! ### Resets -/

theorem abortCommand : s.abortCommand.Alike t.abortCommand := by
  unfold State.abortCommand
  rw [h.command]
  split
  · exact h
  · exact h
  · exact h.writeStatus _

end

end State.Alike
end Sys2Proof.Machine
end

section
/-! SUPPORT. Resets, posts and RUN values on two states that differ at most in the status block. -/

namespace Sys2Proof.Machine

theorem Plan.Alike.asks {p q : Plan} (like : p.Alike q) : q.asks = p.asks := by
  cases like <;> rfl

theorem Plan.Alike.carryOut {p q : Plan} (like : p.Alike q) (pace : Pace) : (p.carryOut pace).Alike (q.carryOut pace) := by
  cases like with
  | done like => exact like
  | update like work values other =>
    cases pace with
    | made => exact (like.place _).after work other
    | inSteps phase => exact like.beginUpdate work values phase

namespace State.Alike

section
variable {s t : State} (h : s.Alike t)
include h

/-! ### Resets -/

/-- Other memories that agree outside the status block. -/
theorem withMem {m n : Memory}
    (reads : ∀ a, (∀ r ∈ [statusBlock], ¬ Within r a)
      → (n.read a).getD (Config.undefinedByte s.powerOns a) = (m.read a).getD (Config.undefinedByte s.powerOns a)) :
    { s with mem := m }.Alike { t with mem := n } := by
  obtain ⟨x, g, d, r, w, rfl⟩ := h.elim
  exact ⟨rfl, reads⟩

theorem freeSlots : { s with mem := freeSlots s.mem }.Alike { t with mem := Machine.freeSlots t.mem } := by
  refine h.withMem fun a outside => ?_
  rw [read_freeSlots, read_freeSlots]
  split
  · rfl
  · have same := h.shown a outside
    rw [State.readByte, State.readByte, h.powerOns] at same
    exact same

theorem resetEvent (cause : ResetCause) : (s.resetEvent cause).Alike (t.resetEvent cause) := by
  have written := h.freeSlots.writeFields [⟨0x00, 2, 1⟩]
  unfold State.resetEvent
  generalize Machine.freeSlots s.mem = m at written ⊢
  generalize Machine.freeSlots t.mem = n at written ⊢
  obtain ⟨x, g, d, r, w, rfl⟩ := h.elim
  exact ⟨rfl, written.shown⟩

theorem lineResetNow (lanes : LaneCount) (order : BusOrder) : (s.lineResetNow lanes order).Alike (t.lineResetNow lanes order) := by
  have latched : (s.latched lanes order).Alike (t.latched lanes order) :=
    ⟨by obtain ⟨m, g, d, r, w, rfl⟩ := h.elim; rfl, h.shown⟩
  exact latched.abortCommand.resetEvent .line

theorem restartNow : s.restartNow.Alike t.restartNow := h.abortCommand.resetEvent .restart

theorem restart : s.restart.Alike t.restart := by
  unfold State.restart
  rw [h.busy]
  split
  · exact ⟨by obtain ⟨m, g, d, r, w, rfl⟩ := h.elim; rfl, h.shown⟩
  · exact h.restartNow

/-! ### An event taken or held -/

theorem mustWait (same : s.WaitsAlike t) (e : HeldEvent) (asks : Bool) : t.mustWait e asks = s.mustWait e asks := by
  unfold State.mustWait State.waits
  rw [h.busy, h.inStore, same.2]

theorem takeEvent (same : s.WaitsAlike t) (e : HeldEvent) (pace : Pace) {plan : State → Plan} (plans : (plan s).Alike (plan t)) :
    (s.takeEvent e pace plan).Alike (t.takeEvent e pace plan) := by
  unfold State.takeEvent
  rw [plans.asks, h.mustWait same]
  split
  · exact h.withHeld _ _
  · exact plans.carryOut pace

/-! ### Posts -/

theorem takeWithoutUpdate (i : Instr) : (s.takeWithoutUpdate i).Alike (t.takeWithoutUpdate i) := by
  unfold State.takeWithoutUpdate
  split
  next limit pace =>
    have report : spoiledReport t limit.toNat = spoiledReport s limit.toNat :=
      h.agree (spoiledReport · limit.toNat) fun _ _ _ _ _ _ => rfl
    rw [report, h.items]
    exact (h.writeFields _).withUnbegun _
  next => exact h.withUnbegun _

theorem takeUp (same : s.WaitsAlike t) (i : Instr) : (s.takeUp i).Alike (t.takeUp i) := by
  have late : ∀ asks, t.tooLate i asks = s.tooLate i asks := by
    intro asks
    unfold State.tooLate
    rw [same.1, h.mustWait same]
  unfold State.takeUp
  dsimp only
  rw [(h.commandPlan i).asks, h.mustWait same, late]
  split
  · exact h.takeWithoutUpdate i
  · exact h.takeEvent same _ _ (h.commandPlan i)

theorem takeCommand (same : s.WaitsAlike t) (i : Instr) : (s.takeCommand i).Alike (t.takeCommand i) := by
  have taken := (h.withCommand (some i)).writeStatus .inProgress
  unfold State.takeCommand
  dsimp only
  rw [taken.agree (State.refusalAtPost · i) fun s _ _ _ _ _ => by cases i <;> rfl]
  split
  · exact taken.complete _
  · exact taken.takeUp same i

theorem postRestart : s.postRestart.Alike t.postRestart := by
  unfold State.postRestart
  by_cases parked : s.part = .parked
  · rw [if_pos parked, if_pos (h.part.trans parked)]
    exact ((h.withCommand _).writeStatus _).complete _
  · have unparked : ¬ t.part = .parked := by rwa [h.part]
    rw [if_neg parked, if_neg unparked]
    exact h.restart

theorem post (same : s.WaitsAlike t) (i : Instr) : (s.post i).Alike (t.post i) := by
  unfold State.post
  split
  · exact h.postRestart
  · rw [h.command]
    split
    · exact h.raise _
    · exact h.takeCommand same i

/-- The command block lies above the status block. -/
theorem laidCommand : t.laidCommand = s.laidCommand := by
  have code : t.readField commandCodeAddress 2 = s.readField commandCodeAddress 2 := h.readField (by decide)
  have argument : ∀ offset width, t.argument offset width = s.argument offset width :=
    fun offset width => h.readField (by simp only [argumentAddress]; omega)
  unfold State.laidCommand
  simp only [code, argument]

end

end State.Alike

/-! ### What a post leaves of what waits -/

theorem Plan.carryOut_waitsAlike {plan : Plan} {s : State} (same : SameOutside s plan.state) (other : plan.NotOfStart) (pace : Pace) :
    s.WaitsAlike (plan.carryOut pace) := by
  obtain ⟨-, -, -, -, -, -, -, reset, -, held, -⟩ := same
  cases plan with
  | done t => exact ⟨reset, held⟩
  | update work values t =>
    cases pace with
    | made =>
      obtain ⟨-, -, -, -, -, -, -, reset', -, held', -⟩ := State.after_sameOutside (t.makeUpdate work values) other
      exact ⟨reset'.trans reset, held'.trans held⟩
    | inSteps phase => exact ⟨reset, held⟩

/-- A post but RESTART keeps what waits. -/
theorem State.post_waitsAlike {s : State} (idle : s.inStore = none) {i : Instr} (other : i ≠ .restart) : s.WaitsAlike (s.post i) := by
  have posted : s.post i = if s.command.isSome then s.raise .commandOverrun else s.takeCommand i := by
    cases i with
    | restart => exact absurd rfl other
    | _ => rfl
  rw [posted]
  split
  · exact ⟨rfl, rfl⟩
  · unfold State.takeCommand
    dsimp only
    split
    · exact ⟨rfl, rfl⟩
    · unfold State.takeUp
      dsimp only
      split
      · unfold State.takeWithoutUpdate
        split <;> exact ⟨rfl, rfl⟩
      · have idle' : (State.writeStatus { s with command := some i } .inProgress).inStore = none := idle
        rw [State.takeEvent_idle idle']
        exact Plan.carryOut_waitsAlike (s := State.writeStatus { s with command := some i } .inProgress)
          (commandPlan_sameOutside i _) (commandPlan_notOfStart i _) _

/-- A RESTART outside a whole update leaves nothing waiting, or in PARKED what waits. -/
theorem State.post_restart_waits {s : State} (idle : s.inStore = none) :
    (s.part = .parked → s.WaitsAlike (s.post .restart))
      ∧ (s.part ≠ .parked → (s.post .restart).heldReset = none ∧ (s.post .restart).held = []) := by
  have posted : s.post .restart = s.postRestart := rfl
  rw [posted, State.postRestart]
  refine ⟨fun parked => ?_, fun unparked => ?_⟩
  · rw [if_pos parked]
    exact ⟨rfl, rfl⟩
  · have at_once : s.restart = s.restartNow := by simp [State.restart, State.busy, idle]
    rw [if_neg unparked, at_once]
    exact ⟨rfl, rfl⟩

theorem State.Alike.post_waitsAlike {s t : State} (h : s.Alike t) (idle : s.inStore = none) (same : s.WaitsAlike t) (i : Instr) :
    (s.post i).WaitsAlike (t.post i) := by
  have idle' : t.inStore = none := h.inStore.trans idle
  by_cases restart : i = .restart
  · subst restart
    by_cases parked : s.part = .parked
    · exact ((State.post_restart_waits idle).1 parked).symm.trans
        (same.trans ((State.post_restart_waits idle').1 (h.part.trans parked)))
    · obtain ⟨reset, held⟩ := (State.post_restart_waits idle).2 parked
      obtain ⟨reset', held'⟩ := (State.post_restart_waits idle').2 (by rwa [h.part])
      exact ⟨reset'.trans reset.symm, held'.trans held.symm⟩
  · exact (State.post_waitsAlike idle restart).symm.trans (same.trans (State.post_waitsAlike idle' restart))

end Sys2Proof.Machine
end

section
/-! SUPPORT. O26: the register window (R25, R179, R185 to R190). -/

namespace Sys2Proof.Machine

/-! ### Bits under byte strobes -/

theorem strobeBits_getLsbD (strobes : Strobes) :
    ∀ k < 16, (strobeBits strobes).getLsbD k = if k < 8 then strobes.low else strobes.high := by
  obtain ⟨low, high⟩ := strobes
  cases low <;> cases high <;> decide

theorem strobed_getLsbD (old value : Half) (strobes : Strobes) :
    ∀ k < 16, (strobed old value strobes).getLsbD k
      = if (if k < 8 then strobes.low else strobes.high) then value.getLsbD k else old.getLsbD k := by
  intro k small
  have bit := strobeBits_getLsbD strobes k small
  simp only [strobed, BitVec.getLsbD_or, BitVec.getLsbD_and, BitVec.getLsbD_not, bit, small, decide_true, Bool.true_and]
  cases (if k < 8 then strobes.low else strobes.high) <;> simp

theorem cleared_getLsbD (old value : Half) (strobes : Strobes) :
    ∀ k < 16, (old &&& ~~~(value &&& strobeBits strobes)).getLsbD k
      = (old.getLsbD k && !(value.getLsbD k && if k < 8 then strobes.low else strobes.high)) := by
  intro k small
  have bit := strobeBits_getLsbD strobes k small
  simp only [BitVec.getLsbD_and, BitVec.getLsbD_not, bit, small, decide_true, Bool.true_and]

/-! ### CAUSE, MASK, GROUP and the registers that ignore writes -/

/-- A write that marks no group for a rewrite. -/
theorem exec_register_quiet {i : Instr} {s u : State} (ready : s.Ready) (wrote : effect i s = u) (clean : u.dirty = s.dirty) :
    exec i s = .next u := by
  rw [exec_effect ready.1, wrote, flush_clean (clean.trans ready.2.2)]

theorem exec_window_quiet {s u : State} {address value : Half} {strobes : Strobes} (ready : s.Ready)
    (even : address.toNat % 2 = 0) (window : 0xFFF0 ≤ address.toNat)
    (wrote : s.registerWrite address.toNat value strobes = u) (clean : u.dirty = s.dirty) :
    exec (.exchangeMemoryWrite address value strobes) s = .next u := by
  rw [exec_registerWrite value strobes ready.1 even window, wrote, flush_clean (clean.trans ready.2.2)]

theorem causeWrite_clears (value : Half) (strobes : Strobes) (s : State) (ready : s.Ready) :
    ∃ t, exec (.causeWrite value strobes) s = .next t
      ∧ t = { s with notices := { s.notices with cause := t.notices.cause } }
      ∧ (∀ k < 16, t.notices.cause.getLsbD k
          = (s.notices.cause.getLsbD k && !(value.getLsbD k && if k < 8 then strobes.low else strobes.high)))
      ∧ exec (.exchangeMemoryWrite 0xFFF6 value strobes) s = .next t :=
  ⟨s.causeWrite value strobes, exec_register_quiet ready rfl rfl, rfl, cleared_getLsbD _ _ _,
    exec_window_quiet ready (by decide) (by decide) rfl rfl⟩

theorem maskWrite_takes (value : Half) (strobes : Strobes) (s : State) (ready : s.Ready) :
    ∃ t, exec (.maskWrite value strobes) s = .next t
      ∧ t = { s with notices := { s.notices with mask := t.notices.mask } }
      ∧ (∀ k < 16, t.notices.mask.getLsbD k
          = if (if k < 8 then strobes.low else strobes.high) then value.getLsbD k else s.notices.mask.getLsbD k)
      ∧ exec (.exchangeMemoryWrite 0xFFF8 value strobes) s = .next t :=
  ⟨s.maskWrite value strobes, exec_register_quiet ready rfl rfl, rfl, strobed_getLsbD _ _ _,
    exec_window_quiet ready (by decide) (by decide) rfl rfl⟩

theorem groupWrite_takes (value : Half) (strobes : Strobes) (s : State) (ready : s.Ready) :
    ∃ t, exec (.groupWrite value strobes) s = .next t
      ∧ t = { s with notices := { s.notices with group := t.notices.group } } ∧ t.notices.int = s.notices.int
      ∧ (∀ k < 16, t.notices.group.getLsbD k
          = if (if k < 8 then strobes.low else strobes.high) then value.getLsbD k else s.notices.group.getLsbD k)
      ∧ exec (.exchangeMemoryWrite 0xFFFA value strobes) s = .next t :=
  ⟨s.groupWrite value strobes, exec_register_quiet ready rfl rfl, rfl, rfl, strobed_getLsbD _ _ _,
    exec_window_quiet ready (by decide) (by decide) rfl rfl⟩

theorem readOnly_ignores (register : ReadOnlyRegister) (address value : Half) (strobes : Strobes) (s : State) (ready : s.Ready) :
    exec (.registerWriteIgnored register value strobes) s = .next s
      ∧ (address = 0xFFF0 ∨ address = 0xFFF2 ∨ address = 0xFFFC ∨ address = 0xFFFE →
          exec (.exchangeMemoryWrite address value strobes) s = .next s) := by
  refine ⟨exec_register_quiet ready rfl rfl, ?_⟩
  rintro (rfl | rfl | rfl | rfl) <;> exact exec_window_quiet ready (by decide) (by decide) rfl rfl

/-! ### CONTROL (R25, R179, R186) -/

/-- A RUN value changes its lane and nothing else but the marks. -/
theorem State.runWrite_frame (s : State) (lane : Lane) (value : Bool) :
    s.runWrite lane value
      = { s with dirty := (s.runWrite lane value).dirty, lanes := (s.runWrite lane value).lanes } := by
  cases present : s.present lane with
  | false => rw [State.runWrite_absent present]
  | true =>
    rw [State.runWrite_eq present]
    cases runMoves (s.tracker lane).state value s.part (s.tracker lane).queue.isEmpty with
    | none => rfl
    | some state =>
      show s.moveLane lane state = _
      cases lane <;> rfl

theorem State.runWrite_tracker_other (s : State) {lane other : Lane} (value : Bool) (differ : other ≠ lane) :
    (s.runWrite lane value).tracker other = s.tracker other := by
  cases present : s.present lane with
  | false => rw [State.runWrite_absent present]
  | true =>
    rw [State.runWrite_eq present]
    cases runMoves (s.tracker lane).state value s.part (s.tracker lane).queue.isEmpty with
    | none => rfl
    | some state =>
      show (s.moveLane lane state).tracker other = _
      rw [State.moveLane_eq]
      exact PerLane.get_set_other s.lanes _ differ

/-- What a RUN value makes of its lane (R25 to R27). -/
theorem State.runWrite_tracker (s : State) (lane : Lane) (value : Bool) :
    (s.present lane = true → ∀ state,
      runMoves (s.tracker lane).state value s.part (s.tracker lane).queue.isEmpty = some state →
        (s.runWrite lane value).tracker lane = { s.tracker lane with state := state, haltCause := none })
      ∧ (s.present lane = false
          ∨ runMoves (s.tracker lane).state value s.part (s.tracker lane).queue.isEmpty = none →
        (s.runWrite lane value).tracker lane = s.tracker lane) := by
  refine ⟨fun present state moves => ?_, fun still => ?_⟩
  · rw [State.runWrite_eq present, moves]
    exact State.tracker_moveLane s lane state
  · cases present : s.present lane with
    | false => rw [State.runWrite_absent present]
    | true =>
      rw [State.runWrite_eq present, still.resolve_left (by rw [present]; decide)]
      rfl

/-- The RUN values of both lanes, written outside a whole update. -/
def State.runBoth (s : State) (value : Half) : State := (s.runWrite .a (value.getLsbD 8)).runWrite .b (value.getLsbD 9)

theorem State.runEvent_idle {s : State} (idle : s.inStore = none) (lane : Lane) (value : Bool) :
    s.runEvent lane value = s.runWrite lane value := by
  unfold State.runEvent
  exact State.takeEvent_idle idle _ _ _

theorem State.runEvents_eq {s : State} (idle : s.inStore = none) (value : Half) :
    (s.runEvent .a (value.getLsbD 8)).runEvent .b (value.getLsbD 9) = s.runBoth value := by
  rw [State.runEvent_idle idle, State.runEvent_idle (by rw [State.runWrite_frame]; exact idle)]
  rfl

theorem State.runBoth_frame (s : State) (value : Half) :
    s.runBoth value = { s with dirty := (s.runBoth value).dirty, lanes := (s.runBoth value).lanes } := by
  unfold State.runBoth
  rw [State.runWrite_frame, State.runWrite_frame s]

theorem State.runBoth_tracker (s : State) (value : Half) (lane : Lane) :
    let r := s.tracker lane
    let moved := runMoves r.state (value.getLsbD (if lane = .a then 8 else 9)) s.part r.queue.isEmpty
    (s.present lane = true → ∀ state, moved = some state → (s.runBoth value).tracker lane = { r with state := state, haltCause := none })
      ∧ (s.present lane = false ∨ moved = none → (s.runBoth value).tracker lane = r) := by
  cases lane with
  | a =>
    have kept : (s.runBoth value).tracker .a = (s.runWrite .a (value.getLsbD 8)).tracker .a :=
      State.runWrite_tracker_other _ _ (by decide)
    dsimp only
    rw [kept]
    exact s.runWrite_tracker .a _
  | b =>
    have moved := (s.runWrite .a (value.getLsbD 8)).runWrite_tracker .b (value.getLsbD 9)
    have part : (s.runWrite .a (value.getLsbD 8)).part = s.part := by rw [State.runWrite_frame]
    have present : (s.runWrite .a (value.getLsbD 8)).present .b = s.present .b := by rw [State.runWrite_frame]; rfl
    rw [State.runWrite_tracker_other s (value.getLsbD 8) (show Lane.b ≠ Lane.a by decide), part, present] at moved
    exact moved

/-- CONTROL written outside a whole update. -/
theorem State.controlWrite_idle {s : State} (idle : s.inStore = none) (value : Half) (strobes : Strobes) :
    s.controlWrite value strobes
      = (let u := if strobes.high then s.runBoth value else s
        if strobes.low && value.getLsbD 0 then u.post u.laidCommand else u) := by
  unfold State.controlWrite
  rw [State.runEvents_eq idle]

theorem exec_control {s : State} (supply : s.supply = true) (value : Half) (strobes : Strobes) :
    exec (.exchangeMemoryWrite 0xFFF4 value strobes) s = .next (s.controlWrite value strobes).flush :=
  exec_registerWrite value strobes supply (by decide) (by decide)

theorem control_runs (value : Half) (low : Bool) (s : State) (ready : s.Ready) (unposted : low = false ∨ value.getLsbD 0 = false) :
    exec (.exchangeMemoryWrite 0xFFF4 value ⟨low, false⟩) s = .next s
      ∧ ∃ t, exec (.exchangeMemoryWrite 0xFFF4 value ⟨low, true⟩) s = .next t
        ∧ (∀ lane, let r := s.tracker lane
            let moved := runMoves r.state (value.getLsbD (if lane = .a then 8 else 9)) s.part r.queue.isEmpty
            (s.present lane = true → ∀ state, moved = some state → t.tracker lane = { r with state := state, haltCause := none })
              ∧ (s.present lane = false ∨ moved = none → t.tracker lane = r))
        ∧ t = { s with mem := t.mem, generation := t.generation, lanes := t.lanes } ∧ UnchangedOutside [statusBlock] s t := by
  have silent : (low && value.getLsbD 0) = false := by
    rcases unposted with rfl | bit
    · rfl
    · rw [bit, Bool.and_false]
  have frame := s.runBoth_frame value
  refine ⟨?_, (s.runBoth value).flush, ?_, fun lane => ?_, ?_, ?_⟩
  · rw [exec_control ready.1, State.controlWrite_idle ready.2.1]
    dsimp only
    rw [silent]
    exact congrArg Host.Outcome.next (flush_clean ready.2.2)
  · rw [exec_control ready.1, State.controlWrite_idle ready.2.1]
    dsimp only
    rw [silent]
    rfl
  · have same : (s.runBoth value).flush.tracker lane = (s.runBoth value).tracker lane :=
      (State.alike_flush _).tracker lane
    rw [same]
    exact s.runBoth_tracker value lane
  · refine (flush_eq _).trans ?_
    have lanes : (s.runBoth value).flush.lanes = (s.runBoth value).lanes := (State.alike_flush _).agree State.lanes fun _ _ _ _ _ _ => rfl
    rw [lanes]
    generalize (s.runBoth value).flush = t
    generalize s.runBoth value = u at frame ⊢
    rw [frame, ready.2.2]
  · exact (UnchangedOutside.of_mem _ (by rw [frame]) (by rw [frame])).trans (unchangedOutside_flush _)

theorem layCommand_madeAtOnce (i : Instr) (s : State) : s.layCommand (madeAtOnce i) = s.layCommand i := by
  cases i <;> rfl

theorem commandCode_madeAtOnce (i : Instr) : commandCode (madeAtOnce i) = commandCode i := by
  cases i <;> rfl

theorem control_posts (i : Instr) (value : Half) (s : State) (supply : s.supply = true) (command : (commandCode i).isSome = true)
    (wf : i.wf = true) (bit : value.getLsbD 0 = true) :
    exec (.exchangeMemoryWrite 0xFFF4 value ⟨true, false⟩) (s.layCommand i) = exec (madeAtOnce i) s := by
  have laid : (s.layCommand i).laidCommand = madeAtOnce i := laidCommandReadsBack i s command wf
  have written : (s.layCommand i).controlWrite value ⟨true, false⟩ = (s.layCommand i).post (madeAtOnce i) := by
    simp [State.controlWrite, bit, laid]
  rw [exec_control (by rw [State.layCommand_eq]; exact supply), written, exec_effect supply,
    effect_command (by rw [commandCode_madeAtOnce]; exact command), State.issue, layCommand_madeAtOnce]

/-- The RUN values first and the post after them, in one write or in two (R186). -/
theorem control_in_two (value : Half) (s : State) (ready : s.Ready) :
    ∃ r t u, exec (.exchangeMemoryWrite 0xFFF4 value ⟨false, true⟩) s = .next r
      ∧ exec (.exchangeMemoryWrite 0xFFF4 value ⟨true, false⟩) r = .next t
      ∧ exec (.exchangeMemoryWrite 0xFFF4 value ⟨true, true⟩) s = .next u
      ∧ u = { t with mem := u.mem, generation := u.generation } ∧ UnchangedOutside [statusBlock] t u := by
  have rewritten := (s.runBoth value).alike_flush
  have supply : (s.runBoth value).flush.supply = true := by
    rw [rewritten.supply, State.runBoth_frame]
    exact ready.1
  have idle : (s.runBoth value).flush.inStore = none := by
    rw [rewritten.inStore, State.runBoth_frame]
    exact ready.2.1
  refine ⟨(s.runBoth value).flush, _, _, ?_, exec_control supply value _, exec_control ready.1 value _, ?_⟩
  · rw [exec_control ready.1, State.controlWrite_idle ready.2.1]
    simp
  · rw [State.controlWrite_idle ready.2.1, State.controlWrite_idle idle]
    have same := flush_waitsAlike (s.runBoth value)
    have posted : (if (true && value.getLsbD 0) = true then (s.runBoth value).flush.post (s.runBoth value).flush.laidCommand
          else (s.runBoth value).flush).Alike
        (if (true && value.getLsbD 0) = true then (s.runBoth value).post (s.runBoth value).laidCommand else s.runBoth value) := by
      rw [rewritten.laidCommand]
      split
      · exact rewritten.symm.post same.symm _
      · exact rewritten.symm
    have kept : (if (true && value.getLsbD 0) = true then (s.runBoth value).flush.post (s.runBoth value).flush.laidCommand
          else (s.runBoth value).flush).WaitsAlike
        (if (true && value.getLsbD 0) = true then (s.runBoth value).post (s.runBoth value).laidCommand else s.runBoth value) := by
      rw [rewritten.laidCommand]
      split
      · exact rewritten.symm.post_waitsAlike idle same.symm _
      · exact same.symm
    have shown := posted.flush
    exact ⟨shown.rest_of_marks ((flush_dirty _).trans (flush_dirty _).symm)
      ((flush_waitsAlike _).symm.trans (kept.trans (flush_waitsAlike _))), shown.shown⟩

/-! ### What the registers show (R185) -/

theorem stateRegister_bits (part : PartState) (busy warns single : Bool) : ∀ k < 16,
    (BitVec.ofNat 16 (partCode part + flagBit busy 3 + flagBit warns 4 + flagBit single 5)).getLsbD k
      = if k < 3 then (partCode part).testBit k else if k = 3 then busy else if k = 4 then warns else k == 5 && single := by
  cases part <;> cases busy <;> cases warns <;> cases single <;> decide

theorem controlRegister_bits (busy a b : Bool) : ∀ k < 16,
    (BitVec.ofNat 16 (flagBit busy 0 + flagBit a 8 + flagBit b 9)).getLsbD k
      = if k = 0 then busy else if k = 8 then a else k == 9 && b := by
  cases busy <;> cases a <;> cases b <;> decide

theorem busRead_ident (s : State) :
    ∃ revision, 1 ≤ revision ∧ revision < 256 ∧ s.busRead 0xFFF0 = BitVec.ofNat 16 (0x2200 + revision) := by
  have bound := Config.revisionStep.isLt
  exact ⟨1 + Config.revisionStep.val, by omega, by omega, rfl⟩

/-- Settles O26. -/
theorem registerWrites : Obligations.RegisterWrites := by
  refine ⟨causeWrite_clears, fun value strobes s ready => ⟨maskWrite_takes value strobes s ready, groupWrite_takes value strobes s ready⟩,
    readOnly_ignores, control_runs, control_posts, control_in_two, fun s => ⟨busRead_ident s, ?_, ?_, rfl, rfl, rfl, rfl, rfl⟩⟩
  · exact stateRegister_bits s.part s.command.isSome s.powerWarn (s.laneCount == .one)
  · intro k small
    have bits := controlRegister_bits s.command.isSome ((s.tracker .a).state == .running)
      (s.present .b && (s.tracker .b).state == .running) k small
    rw [← Bool.and_assoc] at bits
    exact bits

end Sys2Proof.Machine
end

section
/-! SUPPORT. O10: a whole update ends, then the events held for the store, and then a held reset (R133, R134, R183). -/

namespace Sys2Proof.Machine

/-! ### The end of an update in its steps -/

/-- With a reset held START goes no further than the update just made (R134, R177). -/
theorem State.after_held {s : State} (reset : s.heldReset.isSome = true) :
    s.after .startClear = s.faultFound ∧ (∀ stop, s.after (.startConversion stop) = s) ∧ s.after .startSwitch = s.afterSwitch := by
  have kept : ∀ {u : State} (steps : State → State), u.heldReset = s.heldReset → u.goOn steps = u := by
    intro u steps same
    rw [State.goOn, if_pos (by rwa [same])]
  exact ⟨kept (u := s.faultFound) _ rfl, fun stop => kept (u := s) (fun s => s.startFrom6 stop) rfl, kept (u := s.afterSwitch) _ rfl⟩

/-- The rest of an update leaves the store at rest and what waits as it was, but for START going on. -/
theorem State.after_rests (s : State) {work : Work} (ends : work.ofStart = false ∨ s.heldReset.isSome = true) :
    SameOutside s (s.after work) ∧ (s.after work).items = s.items := by
  rcases ends with other | reset
  · exact ⟨s.after_sameOutside other, congrArg Store.items (s.after_store other)⟩
  · obtain ⟨clear, conversion, switch⟩ := State.after_held reset
    cases work with
    | startClear =>
      rw [clear]
      exact ⟨by simp [SameOutside, State.faultFound], rfl⟩
    | startConversion stop =>
      rw [conversion]
      exact ⟨.refl s, rfl⟩
    | startSwitch =>
      rw [switch]
      exact ⟨by simp [SameOutside], rfl⟩
    | _ => exact ⟨s.after_sameOutside rfl, congrArg Store.items (s.after_store rfl)⟩

/-- What a made update and the rest of its event leave before the events held are taken. -/
def State.updateDone (s : State) (work : Work) (values : NewValues) : State := { (s.place values).after work with held := [] }

/-- The update, then the events held, then a held reset. -/
theorem State.updateRecordEmpty_ends {s : State} {work : Work} {phase : Phase} {values : NewValues} (busy : s.inStore = some work)
    (record : s.store.record = .inSteps phase values) (ends : work.ofStart = false ∨ s.heldReset.isSome = true) :
    s.updateRecordEmpty = ((s.updateDone work values).takeAllHeld s.held).takeHeldReset := by
  have ends' : work.ofStart = false ∨ (s.place values).heldReset.isSome = true := ends
  obtain ⟨⟨-, -, -, -, -, -, -, -, idle, held, -⟩, -⟩ := (s.place values).after_rests ends'
  have rest : ((s.place values).after work).busy = false := by rw [State.busy, idle]; rfl
  rw [State.updateRecordEmpty_inSteps busy record, rest, held]
  rfl

theorem State.updateDone_sameOutside {s : State} {work : Work} {values : NewValues}
    (ends : work.ofStart = false ∨ s.heldReset.isSome = true) :
    (s.updateDone work values).inStore = none ∧ (s.updateDone work values).heldReset = s.heldReset
      ∧ (s.updateDone work values).supply = s.supply ∧ (s.updateDone work values).laneCount = s.laneCount
      ∧ (s.updateDone work values).order = s.order ∧ (s.updateDone work values).items = values.items := by
  have ends' : work.ofStart = false ∨ (s.place values).heldReset.isSome = true := ends
  obtain ⟨⟨supply, -, -, lanes, order, -, -, reset, idle, -, -⟩, items⟩ := (s.place values).after_rests ends'
  exact ⟨idle, reset, supply, lanes, order, items⟩

theorem exec_recordEmpty {s : State} (supply : s.supply = true) : exec .updateRecordEmpty s = .next s.updateRecordEmpty.flush :=
  exec_effect supply

/-! ### A reset once taken -/

theorem State.abortCommand_none {s : State} (free : s.command = none) : s.abortCommand = s := by
  unfold State.abortCommand
  rw [free]

/-- The reset event does not touch the status of the command block. -/
theorem readField_resetEvent_status (s : State) (cause : ResetCause) :
    (s.resetEvent cause).readField statusAddress 2 = s.readField statusAddress 2 := by
  refine (unchangedOutside_resetEvent s cause).readField rfl fun r hr => ?_
  rcases List.mem_cons.mp hr with rfl | hr
  · exact .inr (by decide)
  · obtain ⟨k, -, hr⟩ := List.mem_flatMap.mp hr
    have low : statusAddress + 2 ≤ 0x0800 := by decide
    simp only [List.mem_cons, List.not_mem_nil, or_false] at hr
    rcases hr with rfl | rfl
    · exact .inl (low.trans (slotAddress_ge .a k))
    · exact .inl (low.trans (slotAddress_ge .b k))

/-- A line reset that meets an update in its steps is held behind it (R134). -/
theorem exec_lineReset_busy {s : State} (supply : s.supply = true) (clean : s.dirty = Groups.none) (busy : s.inStore.isSome = true)
    (lanes : LaneCount) (order : BusOrder) :
    exec (.lineReset lanes order) s = .next { s with heldReset := some (.line lanes order) } := by
  have waits : s.lineReset lanes order = { s with heldReset := some (.line lanes order) } := if_pos busy
  have run : exec (.lineReset lanes order) s = .next (s.lineReset lanes order).flush := exec_effect supply
  rw [run, waits]
  exact congrArg Host.Outcome.next (flush_clean (s := { s with heldReset := some (.line lanes order) }) clean)

/-- A RESTART that meets an update in its steps is held behind it, as the command when no other is in progress (R183). -/
theorem exec_restart_busy {s : State} (supply : s.supply = true) (clean : s.dirty = Groups.none) (busy : s.inStore.isSome = true)
    (unparked : s.part ≠ .parked) (unheld : s.heldReset = none) :
    exec .restart s = .next { s with
      mem := (s.layCommand .restart).mem, heldReset := some .restart, command := some (s.command.getD .restart) } := by
  have posted : s.issue .restart = { s with
      mem := (s.layCommand .restart).mem, heldReset := some .restart, command := some (s.command.getD .restart) } := by
    show (s.layCommand .restart).postRestart = _
    rw [State.postRestart, State.layCommand_eq, if_neg unparked]
    have held : ({ s with mem := (s.layCommand .restart).mem } : State).restart = _ := if_pos busy
    rw [held, unheld]
    rfl
  have run : exec .restart s = .next (s.issue .restart).flush := exec_effect supply
  rw [run, posted]
  exact congrArg Host.Outcome.next (flush_clean (by exact clean))

/-! ### SET ACCOUNT in its steps -/

theorem commandPlan_setAccount {account state : Byte} (pace : CommandPace) {s : State} (setup : s.part = .setup)
    (inRange : account.toNat < 32) (code : state.toNat ≤ 1) :
    commandPlan (.setAccount account state pace) s
      = .update .setAccount (s.items.setAccount account.toNat (state == 1)) s := by
  rw [commandPlan_of_taken (by rw [setup]; rfl)]
  exact if_pos ⟨inRange, code⟩

/-- SET ACCOUNT's update record becomes EMPTY: its values stand, and it completes. -/
theorem setAccount_completes (phase : Phase) (values : NewValues) (s : State) (supply : s.supply = true) (settled : s.Settled)
    (busy : s.inStore = some .setAccount) (record : s.store.record = .inSteps phase values) (held : s.held = [])
    (unheld : s.heldReset = none) :
    ∃ t, exec .updateRecordEmpty s = .next t ∧ t.readField statusAddress 2 = statusCode .done
      ∧ t = { s with
                mem := t.mem, inStore := none, command := none, notices := s.notices.raise .commandDone
                store := { items := values.items, latch := s.store.latch || values.setsLatch, check := values.check,
                           record := .empty } }
      ∧ UnchangedOutside [(statusAddress, 2)] s t := by
  have ended : s.updateRecordEmpty = (s.place values).complete .done := by
    rw [State.updateRecordEmpty_ends busy record (.inl rfl), held]
    have none : (s.updateDone .setAccount values).heldReset = none := unheld
    have rest : (s.updateDone .setAccount values).takeHeldReset = s.updateDone .setAccount values := by
      rw [State.takeHeldReset, none]
    refine rest.trans ?_
    unfold State.updateDone
    rw [← held]
    rfl
  have clean : ((s.place values).complete .done).dirty = Groups.none := settled
  obtain ⟨status, -, -⟩ := completed_complete (s.place values) .done
  refine ⟨_, (exec_recordEmpty supply).trans (by rw [ended, flush_clean clean]), status, rfl, ?_⟩
  exact unchangedOutside_writeFields s [⟨statusAddress, 2, statusCode .done⟩]

/-- SET ACCOUNT taken with its update left in its steps. -/
theorem exec_setAccount_begun {account state : Byte} {phase : Phase} {s : State} (takes : s.TakesCommands) (setup : s.part = .setup)
    (inRange : account.toNat < 32) (code : state.toNat ≤ 1) :
    exec (.setAccount account state (.atOnce (.inSteps phase))) s
      = .next ((s.inProgress (.setAccount account state (.atOnce (.inSteps phase)))).beginUpdate .setAccount
          (s.items.setAccount account.toNat (state == 1)) phase) := by
  have plan : commandWork (.setAccount account state (.atOnce (.inSteps phase)))
        (s.inProgress (.setAccount account state (.atOnce (.inSteps phase))))
      = .update .setAccount (s.items.setAccount account.toNat (state == 1))
          (s.inProgress (.setAccount account state (.atOnce (.inSteps phase)))) := by
    rw [← s.inProgress_items (.setAccount account state (.atOnce (.inSteps phase)))]
    exact if_pos ⟨inRange, code⟩
  rw [exec_of_work_begun (i := .setAccount account state (.atOnce (.inSteps phase))) takes rfl nofun nofun nofun (by rw [setup]; rfl) rfl rfl plan]
  exact congrArg Host.Outcome.next (flush_clean (by simpa [State.beginUpdate] using takes.1.2.2))

/-- A whole update whose event completes a command, with a reset held behind it: the command completes, and the reset follows. -/
theorem setAccount_then_reset {account state : Byte} {phase : Phase} {s u : State} (takes : s.TakesCommands) (held : s.held = [])
    {reset : HeldReset} {m : Memory} {i : Instr}
    (base : u = { (s.inProgress i).beginUpdate .setAccount (s.items.setAccount account.toNat (state == 1)) phase with
      mem := m, heldReset := some reset }) :
    ∃ w : State, exec .updateRecordEmpty u = .next w.takeHeldReset ∧ w.heldReset = some reset ∧ w.command = none
      ∧ w.items = s.items.setAccount account.toNat (state == 1) ∧ w.laneCount = s.laneCount ∧ w.order = s.order
      ∧ w.readField statusAddress 2 = statusCode .done := by
  obtain ⟨⟨supply, -, -⟩, -⟩ := takes
  have supply' : u.supply = true := by rw [base]; simpa [State.beginUpdate] using supply
  have busy : u.inStore = some .setAccount := by rw [base]; rfl
  have record : u.store.record = .inSteps phase ((s.items.setAccount account.toNat (state == 1)).newValues Work.setAccount.setsLatch) := by
    rw [base]; rfl
  have held' : u.held = [] := by rw [base]; simpa [State.beginUpdate] using held
  have ended := State.updateRecordEmpty_ends busy record (.inl rfl)
  rw [held'] at ended
  have w_held : (u.updateDone .setAccount ((s.items.setAccount account.toNat (state == 1)).newValues Work.setAccount.setsLatch)).heldReset
      = some reset := by rw [base]; rfl
  have resets : ∀ w : State, w.heldReset = some reset → w.takeHeldReset.flush = w.takeHeldReset := by
    intro w some
    refine flush_clean ?_
    unfold State.takeHeldReset
    rw [some]
    cases reset <;> rfl
  refine ⟨_, (exec_recordEmpty supply').trans (by rw [ended]; exact congrArg Host.Outcome.next (resets _ w_held)), w_held, rfl, rfl, ?_, ?_, ?_⟩
  · rw [base]; simp [State.updateDone, State.after, State.place, State.beginUpdate]
  · rw [base]; simp [State.updateDone, State.after, State.place, State.beginUpdate]
  · obtain ⟨status, -, -⟩ := completed_complete (u.place ((s.items.setAccount account.toNat (state == 1)).newValues Work.setAccount.setsLatch)) .done
    exact status

theorem lineReset_waits_for_setAccount (account state : Byte) (phase : Phase) (lanes : LaneCount) (order : BusOrder) (s : State)
    (takes : s.TakesCommands) (held : s.held = []) (_ : s.heldReset = none) (setup : s.part = .setup)
    (inRange : account.toNat < 32) (code : state.toNat ≤ 1) :
    ∃ r u t, exec (.setAccount account state (.atOnce (.inSteps phase))) s = .next r
      ∧ exec (.lineReset lanes order) r = .next u
      ∧ u = { r with heldReset := some (.line lanes order) } ∧ u.items = s.items ∧ exec .updateRecordEmpty u = .next t
      ∧ t.items = s.items.setAccount account.toNat (state == 1) ∧ t.part = .start ∧ t.resetCause = .line
      ∧ t.notices = Notices.reset ∧ t.command = none
      ∧ (order = s.order → t.readField statusAddress 2 = statusCode .done) := by
  obtain ⟨w, run, reset, free, items, -, w_order, status⟩ := setAccount_then_reset (account := account) (state := state) (phase := phase)
    (i := .setAccount account state (.atOnce (.inSteps phase))) (reset := .line lanes order)
    (m := (s.inProgress (.setAccount account state (.atOnce (.inSteps phase)))).mem) takes held rfl
  have taken : w.takeHeldReset = (w.latched lanes order).resetEvent .line := by
    rw [State.takeHeldReset, reset]
    show (w.latched lanes order).abortCommand.resetEvent .line = _
    rw [State.abortCommand_none (by exact free)]
  rw [taken] at run
  refine ⟨_, _, _, exec_setAccount_begun takes setup inRange code,
    exec_lineReset_busy (by simpa [State.beginUpdate] using takes.1.1) (by simpa [State.beginUpdate] using takes.1.2.2) rfl lanes order,
    rfl, by simp [State.beginUpdate, State.items], run, items, rfl, rfl, rfl, rfl, fun same => ?_⟩
  rw [readField_resetEvent_status]
  refine Eq.trans ?_ status
  exact readField_of_mem (s := w) (t := w.latched lanes order) rfl rfl (same.trans w_order.symm) _ _

theorem restart_waits_for_setAccount (account state : Byte) (phase : Phase) (s : State) (takes : s.TakesCommands) (held : s.held = [])
    (unheld : s.heldReset = none) (setup : s.part = .setup) (inRange : account.toNat < 32) (code : state.toNat ≤ 1) :
    ∃ r u t, exec (.setAccount account state (.atOnce (.inSteps phase))) s = .next r ∧ exec .restart r = .next u
      ∧ u = { r with mem := u.mem, heldReset := some .restart } ∧ exec .updateRecordEmpty u = .next t
      ∧ t.items = s.items.setAccount account.toNat (state == 1) ∧ t.AfterReset t .restart ∧ t.laneCount = s.laneCount
      ∧ t.order = s.order ∧ t.readField statusAddress 2 = statusCode .done := by
  have restarts := exec_restart_busy
    (s := (s.inProgress (.setAccount account state (.atOnce (.inSteps phase)))).beginUpdate .setAccount
          (s.items.setAccount account.toNat (state == 1)) phase)
    (by simpa [State.beginUpdate] using takes.1.1) (by simpa [State.beginUpdate] using takes.1.2.2) rfl
    (by simp [State.beginUpdate, setup]) (by simpa [State.beginUpdate] using unheld)
  obtain ⟨w, run, reset, free, items, w_lanes, w_order, status⟩ := setAccount_then_reset (account := account) (state := state)
    (phase := phase) (i := .setAccount account state (.atOnce (.inSteps phase))) (reset := .restart)
    (m := (((s.inProgress (.setAccount account state (.atOnce (.inSteps phase)))).beginUpdate .setAccount
          (s.items.setAccount account.toNat (state == 1)) phase).layCommand .restart).mem) takes held rfl
  have taken : w.takeHeldReset = w.resetEvent .restart := by
    rw [State.takeHeldReset, reset]
    show w.abortCommand.resetEvent .restart = _
    rw [State.abortCommand_none free]
  rw [taken] at run
  refine ⟨_, _, w.resetEvent .restart, exec_setAccount_begun takes setup inRange code, restarts, ?_, ?_, items, ?_, w_lanes, ?_, ?_⟩
  · simp [State.beginUpdate]
  · refine Eq.trans (congrArg (exec .updateRecordEmpty) ?_) run
    simp [State.beginUpdate]
  · exact State.afterReset_resetEvent (s₀ := w.resetEvent .restart) w .restart rfl
  · exact (w.resetEvent_order .restart).trans w_order
  · rw [readField_resetEvent_status]
    exact status

end Sys2Proof.Machine
end

section
/-! SUPPORT. O10: commands posted while an update is in its steps, and resets that meet one (R130, R133, R134, R143, R159, R183). -/

namespace Sys2Proof.Machine

/-! ### SET ACCOUNT posted while a switch is in its steps -/

theorem issue_accepted {i : Instr} {s : State} (supply : s.supply = true) (command : (commandCode i).isSome = true)
    (free : s.command = none) (other : i ≠ .restart) (accepted : s.refusalAtPost i = none) :
    exec i s = .next ((s.inProgress i).takeUp i).flush := by
  rw [exec_effect supply, effect_command command, State.issue_free free other, State.takeCommand_accepted accepted]

/-- A command that asks for an update has to wait for the store while another is in its steps. -/
theorem State.mustWait_busy {s : State} (busy : s.inStore.isSome = true) (e : HeldEvent) : s.mustWait e true = true := by
  unfold State.mustWait State.busy
  rw [busy]
  rfl

theorem State.takeEvent_held {s : State} {e : HeldEvent} {pace : Pace} {plan : State → Plan}
    (waits : s.mustWait e (plan s).asks = true) : s.takeEvent e pace plan = s.hold e := if_pos waits

theorem setAccount_too_late (account state : Byte) (pace : CommandPace) (lanes : LaneCount) (values : NewValues) (phase : Phase)
    (s : State) (supply : s.supply = true) (settled : s.Settled) (free : s.command = none) (setup : s.part = .setup)
    (inRange : account.toNat < 32) (code : state.toNat ≤ 1) (busy : s.inStore = some .bankSwitch)
    (record : s.store.record = .inSteps phase values) (held : s.held = []) (reset : s.heldReset = some (.line lanes s.order)) :
    ∃ r t, exec (.setAccount account state pace) s = .next r ∧ exec .updateRecordEmpty r = .next t
      ∧ t.items = values.items ∧ t.part = .start ∧ t.command = none ∧ t.readField statusAddress 2 = statusCode .aborted := by
  generalize instr : Instr.setAccount account state pace = i
  have plan : commandPlan i (s.inProgress i) = .update .setAccount ((s.inProgress i).items.setAccount account.toNat (state == 1)) (s.inProgress i) := by
    rw [← instr]
    exact commandPlan_setAccount pace (by simpa using setup) inRange code
  have waits : (s.inProgress i).mustWait (.event i) true = true := State.mustWait_busy (by simp [busy]) _
  have late : (s.inProgress i).tooLate i true = true := by
    unfold State.tooLate
    rw [waits, ← instr]
    simp [reset, asksForACommand]
  have taken : (s.inProgress i).takeUp i = { s.inProgress i with unbegun := some [] } := by
    unfold State.takeUp
    rw [plan]
    dsimp only [Plan.asks]
    rw [late, Bool.true_or, if_pos rfl, ← instr]
    rfl
  have accepted : s.refusalAtPost i = none := by
    rw [← instr]
    exact refusalAtPost_of_taken (by rw [setup]; rfl) nofun nofun
  have run : exec i s = .next { s.inProgress i with unbegun := some [] } := by
    rw [issue_accepted supply (by rw [← instr]; rfl) free (by rw [← instr]; nofun) accepted, taken]
    exact congrArg Host.Outcome.next (flush_clean (by simpa using (show s.dirty = Groups.none from settled)))
  have ended := State.updateRecordEmpty_ends (s := { s.inProgress i with unbegun := some [] }) (work := .bankSwitch) (phase := phase)
    (values := values) (by simpa using busy) (by simpa using record) (.inl rfl)
  have noneHeld : ({ s.inProgress i with unbegun := some [] } : State).held = [] := by simpa using held
  rw [noneHeld] at ended
  generalize done : ({ s.inProgress i with unbegun := some [] } : State).updateDone .bankSwitch values = w at ended
  have w_reset : w.heldReset = some (.line lanes s.order) := by rw [← done]; simpa [State.updateDone, State.after, State.afterSwitch, State.place, State.raise, State.touchBanks] using reset
  have w_command : w.command = some i := by rw [← done]; simp [State.updateDone, State.after, State.afterSwitch, State.place, State.raise, State.touchBanks]
  have reset_now : (w.takeAllHeld []).takeHeldReset = (w.latched lanes s.order).abortCommand.resetEvent .line := by
    show w.takeHeldReset = _
    rw [State.takeHeldReset, w_reset]
    rfl
  refine ⟨_, (w.latched lanes s.order).abortCommand.resetEvent .line, run, ?_, ?_, rfl, rfl, ?_⟩
  · rw [exec_recordEmpty (by simpa using supply), ended, reset_now, resetEvent_clean]
  · show (w.latched lanes s.order).abortCommand.items = _
    rw [State.abortCommand_frame, ← done]
    rfl
  · exact (w.latched lanes s.order).aborted_reset_status .line (i := i) w_command (by rw [← instr]; nofun)

theorem setAccount_waits_for_switch (account state : Byte) (pace : CommandPace) (phase : Phase) (values : NewValues) (s : State)
    (supply : s.supply = true) (settled : s.Settled) (free : s.command = none) (setup : s.part = .setup)
    (inRange : account.toNat < 32) (code : state.toNat ≤ 1) (busy : s.inStore = some .bankSwitch)
    (record : s.store.record = .inSteps phase values) (held : s.held = []) (unheld : s.heldReset = none) :
    let i := Instr.setAccount account state pace
    ∃ r t, exec i s = .next r ∧ r = { s with mem := r.mem, command := some i, held := [.event i] }
      ∧ r.readField statusAddress 2 = statusCode .inProgress ∧ exec .updateRecordEmpty r = .next t
      ∧ t.items = values.items.setAccount account.toNat (state == 1) ∧ t.Completed .done := by
  intro i
  have plan : commandPlan i (s.inProgress i) = .update .setAccount ((s.inProgress i).items.setAccount account.toNat (state == 1)) (s.inProgress i) :=
    commandPlan_setAccount pace (by simpa using setup) inRange code
  have waits : (s.inProgress i).mustWait (.event i) true = true := State.mustWait_busy (by simp [busy]) _
  have intime : (s.inProgress i).tooLate i true = false := by simp [State.tooLate, unheld]
  have taken : (s.inProgress i).takeUp i = { s.inProgress i with held := [.event i] } := by
    unfold State.takeUp
    rw [plan]
    dsimp only [Plan.asks]
    have asks : (commandPlan i (s.inProgress i)).asks = true := by rw [plan]; rfl
    rw [intime, waits, Bool.not_true, Bool.and_false, Bool.or_false, if_neg Bool.false_ne_true,
      State.takeEvent_held (by rw [asks]; exact waits), State.hold]
    simp [held]
  have run : exec i s = .next { s.inProgress i with held := [.event i] } := by
    have accepted : s.refusalAtPost i = none := refusalAtPost_of_taken (by rw [setup]; rfl) nofun nofun
    rw [issue_accepted (i := i) supply rfl free nofun accepted, taken]
    exact congrArg Host.Outcome.next (flush_clean (by simpa using (show s.dirty = Groups.none from settled)))
  have ended := State.updateRecordEmpty_ends (s := { s.inProgress i with held := [.event i] }) (work := .bankSwitch) (phase := phase)
    (values := values) (by simpa using busy) (by simpa using record) (.inl rfl)
  generalize done : ({ s.inProgress i with held := [.event i] } : State).updateDone .bankSwitch values = w at ended
  have w_items : w.items = values.items := by rw [← done]; rfl
  have w_part : w.part = .setup := by rw [← done]; simpa [State.updateDone, State.after, State.afterSwitch, State.place, State.raise, State.touchBanks] using setup
  have w_reset : w.heldReset = none := by rw [← done]; simpa [State.updateDone, State.after, State.afterSwitch, State.place, State.raise, State.touchBanks] using unheld
  have completes : (w.takeAllHeld [.event i]).takeHeldReset
      = (w.makeUpdate .setAccount (values.items.setAccount account.toNat (state == 1))).complete .done := by
    have planned : eventPlan i w = .update .setAccount (values.items.setAccount account.toNat (state == 1)) w := by
      rw [← w_items]
      exact commandPlan_setAccount pace w_part inRange code
    have took : w.takeAllHeld [.event i] = (w.makeUpdate .setAccount (values.items.setAccount account.toNat (state == 1))).complete .done := by
      show (eventPlan i w).carryOut .made = _
      rw [planned]
      rfl
    have reset : ((w.makeUpdate .setAccount (values.items.setAccount account.toNat (state == 1))).complete .done).heldReset = none := w_reset
    rw [took, State.takeHeldReset, reset]
  refine ⟨_, _, run, ?_, ?_, (exec_recordEmpty (by simpa using supply)).trans (by rw [ended, completes]), ?_, (completed_complete _ _).flush⟩
  · dsimp only
    rw [State.inProgress_eq]
  · exact readField_inProgress s i
  · exact (State.alike_flush _).items

/-! ### A RESTART that meets an update in its steps -/

theorem restart_waits (work : Work) (phase : Phase) (values : NewValues) (s : State) (supply : s.supply = true) (settled : s.Settled)
    (busy : s.inStore = some work) (record : s.store.record = .inSteps phase values) (unheld : s.heldReset = none)
    (free : s.command = none) (unparked : s.part ≠ .parked) :
    ∃ u t, exec .restart s = .next u
      ∧ u = { s with mem := u.mem, command := some .restart, heldReset := some .restart }
      ∧ exec .updateRecordEmpty u = .next t
      ∧ t.AfterReset t .restart ∧ t.laneCount = s.laneCount ∧ t.order = s.order ∧ (s.held = [] → t.items = values.items) := by
  have posted := exec_restart_busy supply settled (by rw [busy]; rfl) unparked unheld
  rw [free, Option.getD_none] at posted
  generalize laid : (s.layCommand .restart).mem = m at posted
  have ended := State.updateRecordEmpty_ends
    (s := { s with mem := m, command := some .restart, heldReset := some .restart }) busy record (.inr rfl)
  obtain ⟨idle, reset, -, lanes, order, items⟩ := State.updateDone_sameOutside
    (s := { s with mem := m, command := some .restart, heldReset := some .restart }) (work := work) (values := values) (.inr rfl)
  generalize ({ s with mem := m, command := some .restart, heldReset := some .restart } : State).updateDone work values = w
    at ended idle reset lanes order items
  obtain ⟨-, -, -, lanes', order', -, -, reset', -⟩ := State.takeAllHeld_sameOutside idle s.held
  have now : (w.takeAllHeld s.held).takeHeldReset = (w.takeAllHeld s.held).abortCommand.resetEvent .restart := by
    rw [State.takeHeldReset, reset', reset]
    rfl
  obtain ⟨kept_lanes, kept_order, -⟩ := (w.takeAllHeld s.held).aborted_reset_kept .restart
  refine ⟨_, (w.takeAllHeld s.held).abortCommand.resetEvent .restart, posted, rfl, ?_, ?_, kept_lanes.trans (lanes'.trans lanes),
    kept_order.trans (order'.trans order), fun held => ?_⟩
  · refine (exec_recordEmpty (by exact supply)).trans ?_
    rw [ended]
    exact congrArg Host.Outcome.next ((congrArg State.flush now).trans (resetEvent_clean _ _))
  · exact State.afterReset_resetEvent (s₀ := (w.takeAllHeld s.held).abortCommand.resetEvent .restart) _ .restart rfl
  · rw [held]
    show (w.abortCommand).items = _
    rw [State.abortCommand_frame]
    exact items

/-! ### A line reset that meets an update in its steps, with events held -/

theorem State.Alike.takeAllHeld {s t : State} (h : s.Alike t) (es : List HeldEvent) : (s.takeAllHeld es).Alike (t.takeAllHeld es) := by
  induction es generalizing s t with
  | nil => exact h
  | cons e es ih => exact ih (h.takeHeld e)

/-- A line reset taken on two states that differ at most in the status block. -/
theorem State.Alike.lineReset_rest {s t : State} (h : s.Alike t) (lanes : LaneCount) (order : BusOrder) :
    t.lineResetNow lanes order = { s.lineResetNow lanes order with mem := (t.lineResetNow lanes order).mem }
      ∧ UnchangedOutside [statusBlock] (s.lineResetNow lanes order) (t.lineResetNow lanes order) := by
  have like := h.lineResetNow lanes order
  refine ⟨?_, like.shown⟩
  refine (like.rest_of_marks rfl ⟨rfl, rfl⟩).trans ?_
  rfl

theorem lineReset_follows (lanes : LaneCount) (order : BusOrder) (work : Work) (phase : Phase) (values : NewValues) (s : State)
    (supply : s.supply = true) (busy : s.inStore = some work) (record : s.store.record = .inSteps phase values)
    (reset : s.heldReset = some (.line lanes order)) :
    ∃ t, exec .updateRecordEmpty s = .next t
      ∧ (work.ofStart = false → ∃ r u, exec .updateRecordEmpty { s with heldReset := none } = .next r
          ∧ exec (.lineReset lanes order) r = .next u ∧ t = { u with mem := t.mem } ∧ UnchangedOutside [statusBlock] u t)
      ∧ (work.ofStart = true → t.AfterReset t .line ∧ t.laneCount = lanes ∧ t.order = order
          ∧ (s.held = [] → t.items = values.items)) := by
  have ends : work.ofStart = false ∨ s.heldReset.isSome = true := .inr (by rw [reset]; rfl)
  obtain ⟨idle, w_reset, -, -, -, items⟩ := State.updateDone_sameOutside (values := values) ends
  obtain ⟨-, -, -, -, -, -, -, reset', -⟩ := State.takeAllHeld_sameOutside idle s.held
  have now : s.updateRecordEmpty = ((s.updateDone work values).takeAllHeld s.held).lineResetNow lanes order := by
    rw [State.updateRecordEmpty_ends busy record ends, State.takeHeldReset, reset', w_reset, reset]
  have run : exec .updateRecordEmpty s = .next (((s.updateDone work values).takeAllHeld s.held).lineResetNow lanes order) := by
    rw [exec_recordEmpty supply, now]
    exact congrArg Host.Outcome.next (resetEvent_clean _ _)
  refine ⟨_, run, fun other => ?_, fun ofStart => ?_⟩
  · have free : ({ s with heldReset := none } : State).updateRecordEmpty
        = (({ s with heldReset := none } : State).updateDone work values).takeAllHeld s.held := by
      obtain ⟨idle₀, reset₀, -⟩ := State.updateDone_sameOutside (s := { s with heldReset := none }) (values := values) (.inl other)
      obtain ⟨-, -, -, -, -, -, -, reset₁, -⟩ := State.takeAllHeld_sameOutside idle₀ s.held
      rw [State.updateRecordEmpty_ends (s := { s with heldReset := none }) busy record (.inl other), State.takeHeldReset, reset₁, reset₀]
    have base : ({ s with heldReset := none } : State).Alike s := ⟨rfl, fun _ _ => rfl⟩
    have done := ((base.place values).after work other).withHeld [] []
    have taken : ((({ s with heldReset := none } : State).updateDone work values).takeAllHeld s.held).Alike
        ((s.updateDone work values).takeAllHeld s.held) := done.takeAllHeld s.held
    obtain ⟨idle₀, -, supply₀, -⟩ := State.updateDone_sameOutside (s := { s with heldReset := none }) (values := values) (.inl other)
    obtain ⟨supply₁, -, -, -, -, -, -, -, idle₁, -⟩ := State.takeAllHeld_sameOutside idle₀ s.held
    generalize (({ s with heldReset := none } : State).updateDone work values).takeAllHeld s.held = x at free supply₁ idle₁ taken
    obtain ⟨rest, shown⟩ := (x.alike_flush.symm.trans taken).lineReset_rest lanes order
    refine ⟨x.flush, x.flush.lineResetNow lanes order, ?_, ?_, rest, shown⟩
    · rw [exec_recordEmpty (s := { s with heldReset := none }) supply, free]
    · refine (exec_lineReset ?_ ?_ lanes order)
      · rw [(State.alike_flush x).supply, supply₁, supply₀]
        exact supply
      · rw [(State.alike_flush x).inStore, idle₁, idle₀]
  · refine ⟨State.afterReset_resetEvent (s₀ := ((s.updateDone work values).takeAllHeld s.held).lineResetNow lanes order) _ .line rfl, ?_, ?_,
      fun held => ?_⟩
    · exact (State.aborted_reset_kept (State.latched ((s.updateDone work values).takeAllHeld s.held) lanes order) .line).1
    · exact (State.aborted_reset_kept (State.latched ((s.updateDone work values).takeAllHeld s.held) lanes order) .line).2.1
    · rw [held]
      show ((s.updateDone work values).latched lanes order).abortCommand.items = _
      rw [State.abortCommand_frame]
      exact items

end Sys2Proof.Machine
end

section
/-! SUPPORT. O10: commands taken with their update not yet begun, and events held behind an update (R130, R133, R134, R143, R159). -/

namespace Sys2Proof.Machine

/-! ### A command whose update is found before it is begun -/

/-- The commands whose update may be found before it is begun. -/
def FoundFirst (i : Instr) : Prop :=
  (∃ x, i = .installLicence x .later) ∨ (∃ x, i = .applyVoucher x .later) ∨ (∃ a b, i = .setAccount a b .later)
    ∨ (∃ a, i = .setFundsAlert a .later) ∨ i = .closePeriod .later ∨ ∃ a, i = .claimSpoiled a .later

/-- Such a command asks for an update, or is answered with nothing changed. -/
theorem FoundFirst.asks_or_answers {i : Instr} (found : FoundFirst i) (s : State) :
    (commandPlan i s).asks = true ∨ ∃ status, commandPlan i s = .done (s.complete status) := by
  unfold commandPlan
  split
  · rcases found with ⟨x, rfl⟩ | ⟨x, rfl⟩ | ⟨a, b, rfl⟩ | ⟨a, rfl⟩ | rfl | ⟨a, rfl⟩
    · show (installLicencePlan x s).asks = true ∨ ∃ status, installLicencePlan x s = _
      unfold installLicencePlan
      split
      · exact .inr ⟨_, rfl⟩
      · exact .inl rfl
    · show (applyVoucherPlan x s).asks = true ∨ ∃ status, applyVoucherPlan x s = _
      unfold applyVoucherPlan
      split
      · exact .inr ⟨_, rfl⟩
      · split
        · exact .inr ⟨_, rfl⟩
        · split
          · exact .inr ⟨_, rfl⟩
          · exact .inl rfl
    · show (setAccountPlan a b s).asks = true ∨ ∃ status, setAccountPlan a b s = _
      unfold setAccountPlan
      split
      · exact .inl rfl
      · exact .inr ⟨_, rfl⟩
    · show (setFundsAlertPlan a.toNat s).asks = true ∨ ∃ status, setFundsAlertPlan a.toNat s = _
      unfold setFundsAlertPlan
      split
      · exact .inl rfl
      · exact .inr ⟨_, rfl⟩
    · exact .inl rfl
    · exact .inl rfl
  · exact .inr ⟨_, rfl⟩

theorem FoundFirst.command {i : Instr} (found : FoundFirst i) : (commandCode i).isSome = true ∧ i ≠ .restart ∧ beginsLater i = true := by
  rcases found with ⟨x, rfl⟩ | ⟨x, rfl⟩ | ⟨a, b, rfl⟩ | ⟨a, rfl⟩ | rfl | ⟨a, rfl⟩ <;> exact ⟨rfl, nofun, rfl⟩

theorem State.takeWithoutUpdate_eq (s : State) (i : Instr) :
    s.takeWithoutUpdate i = { s with mem := (s.takeWithoutUpdate i).mem, unbegun := (s.takeWithoutUpdate i).unbegun } := by
  unfold State.takeWithoutUpdate
  split <;> rfl

/-- A command that asks for an update, taken with it not yet begun. -/
theorem exec_found {i : Instr} {s : State} (takes : s.TakesCommands) (found : FoundFirst i) (accepted : s.refusalAtPost i = none)
    (asks : (commandPlan i (s.inProgress i)).asks = true) : exec i s = .next ((s.inProgress i).takeWithoutUpdate i) := by
  obtain ⟨⟨supply, idle, clean⟩, free⟩ := takes
  obtain ⟨command, other, later⟩ := found.command
  have idle' : (s.inProgress i).inStore = none := by simpa using idle
  have taken : (s.inProgress i).takeUp i = (s.inProgress i).takeWithoutUpdate i := by
    unfold State.takeUp
    dsimp only
    rw [asks, later, State.mustWait_idle idle']
    simp
  rw [issue_accepted supply command free other accepted, taken]
  exact congrArg Host.Outcome.next (flush_clean (by rw [State.takeWithoutUpdate_eq]; simpa using clean))

/-- One that is refused, or asks for no update, completes at once. -/
theorem exec_answered {i : Instr} {s : State} (takes : s.TakesCommands) (found : FoundFirst i)
    (answers : s.refusalAtPost i ≠ none ∨ (commandPlan i (s.inProgress i)).asks = false) :
    ∃ status, exec i s = .next ((s.inProgress i).complete status) := by
  obtain ⟨command, other, later⟩ := found.command
  have clean : ∀ status, ((s.inProgress i).complete status).flush = (s.inProgress i).complete status :=
    fun status => flush_clean (by simpa using takes.1.2.2)
  cases accepted : s.refusalAtPost i with
  | some status => exact ⟨status, by rw [exec_of_command_refused takes command other accepted, clean]⟩
  | none =>
    have quiet := answers.resolve_left (fun refused => refused accepted)
    obtain ⟨status, plan⟩ := (found.asks_or_answers (s.inProgress i)).resolve_left (by rw [quiet]; decide)
    exact ⟨status, by rw [exec_of_command_done takes command other accepted plan, clean]⟩

/-- A line reset abandons a command with its update not yet begun, and the store is left whole (R130, R143). -/
theorem lineReset_abandons (i : Instr) (lanes : LaneCount) (s : State) (takes : s.TakesCommands) (begun : s.unbegun = none)
    (found : FoundFirst i) :
    ∃ r t, exec i s = .next r ∧ exec (.lineReset lanes s.order) r = .next t ∧ t.part = .start ∧ t.command = none
      ∧ t.store = s.store
      ∧ (r.unbegun ≠ none → t.readField statusAddress 2 = statusCode .aborted
          ∧ UnchangedOutside ((0x00, 2) :: (statusAddress, 2) :: slotStateBytes) r t)
      ∧ (∀ limit, i = .claimSpoiled limit .later → s.part = .operating → s.items.spoiled.length ≤ 64 →
          r.unbegun ≠ none ∧ s.ShowsSpoiled t limit.toNat) := by
  obtain ⟨-, other, -⟩ := found.command
  by_cases asks : s.refusalAtPost i = none ∧ (commandPlan i (s.inProgress i)).asks = true
  · have run := exec_found takes found asks.1 asks.2
    have frame := (s.inProgress i).takeWithoutUpdate_eq i
    generalize kept : (s.inProgress i).takeWithoutUpdate i = r at run frame
    have command : r.command = some i := by rw [frame]; simp
    have store : r.store = s.store := by rw [frame]; simp
    have unchanged := unchangedOutside_aborted_reset (r.latched lanes s.order) .line
    have isSome : (r.latched lanes s.order).command.isSome = true := by
      show r.command.isSome = true
      rw [command]
      rfl
    rw [isSome, if_pos rfl] at unchanged
    have reset : UnchangedOutside ((0x00, 2) :: (statusAddress, 2) :: slotStateBytes) r
        ((r.latched lanes s.order).abortCommand.resetEvent .line) :=
      (UnchangedOutside.of_mem (t := r.latched lanes s.order) _ rfl rfl).trans unchanged
    refine ⟨r, _, run, exec_lineReset (by rw [frame]; simpa using takes.1.1) (by rw [frame]; simpa using takes.1.2.1) lanes s.order, rfl, rfl, ?_,
      fun _ => ⟨(r.latched lanes s.order).aborted_reset_status .line command other, reset⟩, fun limit claim operating bound => ?_⟩
    · show (r.latched lanes s.order).abortCommand.store = _
      rw [State.abortCommand_store]
      exact store
    · subst claim
      have taken : r = { (s.inProgress (.claimSpoiled limit .later)).writeFields (spoiledReport s limit.toNat) with
          unbegun := some ((s.inProgress (.claimSpoiled limit .later)).items.claimed limit.toNat) } := by
        rw [← kept, ← spoiledReport_inProgress s (.claimSpoiled limit .later)]
        rfl
      refine ⟨by rw [taken]; nofun, showsSpoiled_of_fields fun f hf => ?_⟩
      have laid := laidOut_spoiledReport_of_bound limit.toNat bound
      obtain ⟨above, below⟩ := laid.within hf
      have order : ((r.latched lanes s.order).abortCommand.resetEvent .line).order = r.order := by
        rw [((r.latched lanes s.order).aborted_reset_kept .line).2.1, taken]
        simp [State.latched]
      refine (reset.readField order fun range hr => ?_).trans ?_
      · rcases List.mem_cons.mp hr with rfl | hr
        · exact .inr (by simp only [spoiledReportAddress] at above; omega)
        · rcases List.mem_cons.mp hr with rfl | hr
          · exact .inr (by simp only [spoiledReportAddress, statusAddress] at above ⊢; omega)
          · obtain ⟨k, -, hr⟩ := List.mem_flatMap.mp hr
            have end_ : f.address + f.width ≤ 0x0800 := by simp only [spoiledReportAddress] at below; omega
            simp only [List.mem_cons, List.not_mem_nil, or_false] at hr
            rcases hr with rfl | rfl
            · exact .inl (end_.trans (slotAddress_ge .a k))
            · exact .inl (end_.trans (slotAddress_ge .b k))
      · refine (readField_of_mem (s := (s.inProgress (.claimSpoiled limit .later)).writeFields (spoiledReport s limit.toNat)) (t := r)
          (by rw [taken]) (by rw [taken]) (by rw [taken]) _ _).trans ?_
        exact readField_writeFields_of_mem _ laid.apart hf
  · have answers : s.refusalAtPost i ≠ none ∨ (commandPlan i (s.inProgress i)).asks = false := by
      by_cases accepted : s.refusalAtPost i = none
      · exact .inr (by simpa using fun asked => asks ⟨accepted, asked⟩)
      · exact .inl accepted
    obtain ⟨status, run⟩ := exec_answered takes found answers
    have frame := (s.inProgress i).complete_eq status
    generalize (s.inProgress i).complete status = r at run frame
    have unbegun : r.unbegun = none := by rw [frame]; simpa using begun
    refine ⟨r, _, run, exec_lineReset (by rw [frame]; simpa using takes.1.1) (by rw [frame]; simpa using takes.1.2.1) lanes s.order, rfl, rfl, ?_,
      fun some_ => absurd unbegun some_, fun limit claim operating _ => ?_⟩
    · show (r.latched lanes s.order).abortCommand.store = _
      rw [State.abortCommand_store]
      show r.store = _
      rw [frame]
      simp
    · subst claim
      refine absurd ⟨?_, ?_⟩ asks
      · exact refusalAtPost_of_taken (by rw [operating]; rfl) nofun nofun
      · rw [commandPlan_of_taken (by rw [State.inProgress_eq]; rw [operating]; rfl)]
        rfl

end Sys2Proof.Machine
end

section
/-! SUPPORT. O10: the events held for the store are taken in the order they asked (R133). -/

namespace Sys2Proof.Machine

/-! ### START's updates do not look at the events held -/

/-- A state with other events held. -/
def State.holding (s : State) (held : List HeldEvent) : State := { s with held := held }

theorem inspect_holding (s : State) (held : List HeldEvent) : (s.holding held).inspect = s.inspect.holding held := by
  have days : (s.holding held).daysSince = s.daysSince := rfl
  have items : (s.holding held).items = s.items := rfl
  unfold State.inspect
  rw [days, items]
  split
  · have either : ∀ (raised : Bool) (notice : Notice),
        (if raised then { s.holding held with notice := notice }.raise .inspectionDue else { s.holding held with notice := notice })
          = (if raised then { s with notice := notice }.raise .inspectionDue else { s with notice := notice } : State).holding held := by
      intro raised notice
      cases raised <;> rfl
    exact either _ _
  · rfl

theorem endStart_holding (s : State) (held : List HeldEvent) : (s.holding held).endStart = s.endStart.holding held := by
  have written : (s.holding held).writeWholeStatus = s.writeWholeStatus.holding held := rfl
  unfold State.endStart
  rw [written]
  generalize s.writeWholeStatus = u
  have command : (u.holding held).command = u.command := rfl
  dsimp only
  rw [command]
  split <;> rfl

theorem goOn_holding (s : State) (held : List HeldEvent) {steps : State → State}
    (blind : (steps (s.holding held)) = (steps s).holding held) : (s.holding held).goOn steps = (s.goOn steps).holding held := by
  have reset : (s.holding held).heldReset = s.heldReset := rfl
  unfold State.goOn
  rw [reset]
  split
  · rfl
  · exact blind

theorem startFrom7_holding (s : State) (held : List HeldEvent) : (s.holding held).startFrom7 = s.startFrom7.holding held := by
  unfold State.startFrom7
  rw [inspect_holding, endStart_holding]

theorem startFrom6_holding (s : State) (held : List HeldEvent) (stop : Option Phase) :
    (s.holding held).startFrom6 stop = (s.startFrom6 stop).holding held := by
  have due : (s.holding held).switchDue = s.switchDue := rfl
  unfold State.startFrom6
  rw [due]
  split
  · cases stop with
    | none =>
      exact goOn_holding ((s.makeUpdate .startSwitch s.items.switchBanks).afterSwitch) held (startFrom7_holding _ held)
    | some phase => rfl
  · exact startFrom7_holding s held

theorem after_start_holding (s : State) (held : List HeldEvent) {work : Work} (ofStart : work.ofStart = true) :
    (s.holding held).after work = (s.after work).holding held := by
  cases work with
  | startClear => exact goOn_holding s.faultFound held (endStart_holding _ held)
  | startConversion stop => exact goOn_holding s held (steps := fun s => s.startFrom6 stop) (startFrom6_holding _ held stop)
  | startSwitch => exact goOn_holding s.afterSwitch held (startFrom7_holding _ held)
  | _ => cases ofStart

theorem flush_holding (s : State) (held : List HeldEvent) : (s.holding held).flush = s.flush.holding held := by
  have fields : dirtyFields (s.holding held) = dirtyFields s := rfl
  have marks : (s.holding held).dirty = s.dirty := rfl
  have part : (s.holding held).part = s.part := rfl
  unfold State.flush
  rw [fields, marks, part]
  split
  · rfl
  · split <;> rfl

/-! ### What START's updates leave waiting -/

/-- The supply and a held reset stay as they were. -/
def State.KeepsReset (s t : State) : Prop := t.supply = s.supply ∧ t.heldReset = s.heldReset

theorem State.KeepsReset.trans {s t u : State} (first : s.KeepsReset t) (second : t.KeepsReset u) : s.KeepsReset u :=
  ⟨second.1.trans first.1, second.2.trans first.2⟩

theorem keepsReset_endStart (s : State) : s.KeepsReset s.endStart := by
  have written : s.KeepsReset s.writeWholeStatus := ⟨rfl, rfl⟩
  unfold State.endStart
  generalize s.writeWholeStatus = u at written ⊢
  refine written.trans ?_
  dsimp only
  split <;> exact ⟨rfl, rfl⟩

theorem keepsReset_goOn {s : State} {steps : State → State} (kept : s.KeepsReset (steps s)) : s.KeepsReset (s.goOn steps) := by
  unfold State.goOn
  split
  · exact ⟨rfl, rfl⟩
  · exact kept

theorem keepsReset_startFrom7 (s : State) : s.KeepsReset s.startFrom7 := by
  obtain ⟨supply, -, -, -, -, -, -, reset, -⟩ := s.inspect_sameOutside
  exact State.KeepsReset.trans ⟨supply, reset⟩ (keepsReset_endStart s.inspect)

theorem keepsReset_startFrom6 (s : State) (stop : Option Phase) : s.KeepsReset (s.startFrom6 stop) := by
  unfold State.startFrom6
  split
  · cases stop with
    | none =>
      have switched : s.KeepsReset (s.makeUpdate .startSwitch s.items.switchBanks).afterSwitch := ⟨rfl, rfl⟩
      exact switched.trans (keepsReset_goOn (keepsReset_startFrom7 _))
    | some phase => exact ⟨rfl, rfl⟩
  · exact keepsReset_startFrom7 s

theorem keepsReset_after (s : State) {work : Work} (ofStart : work.ofStart = true) : s.KeepsReset (s.after work) := by
  cases work with
  | startClear =>
    have found : s.KeepsReset s.faultFound := ⟨rfl, rfl⟩
    exact found.trans (keepsReset_goOn (keepsReset_endStart _))
  | startConversion stop => exact keepsReset_goOn (steps := fun s => s.startFrom6 stop) (keepsReset_startFrom6 s stop)
  | startSwitch =>
    have switched : s.KeepsReset s.afterSwitch := ⟨rfl, rfl⟩
    exact switched.trans (keepsReset_goOn (keepsReset_startFrom7 _))
  | _ => cases ofStart

/-! ### Held events one at a time -/

/-- An event that no post brings, taken whole outside an update. -/
theorem exec_madeAtOnce {i : Instr} {s : State} (supply : s.supply = true) (idle : s.inStore = none) (unposted : needsNoPost i = true) :
    exec (madeAtOnce i) s = .next (s.takeHeld (.event i)).flush := by
  have taken : effect (madeAtOnce i) s = s.takeHeld (.event i) := by
    cases i <;> first | exact State.occur_idle idle _ | cases unposted
  rw [exec_effect supply, taken]

/-- The events taken in order, each with its own rewrite of the status block, against the events taken with one rewrite at the end. -/
theorem takesInOrder {events : List Instr} (unposted : ∀ i ∈ events, needsNoPost i = true) {r x : State} (like : r.Alike x)
    (supply : r.supply = true) (idle : r.inStore = none) (clean : r.dirty = Groups.none) :
    ∃ u, r.TakesInOrder u events ∧ u.Alike (x.takeAllHeld (events.map HeldEvent.event)) ∧ u.dirty = Groups.none ∧ r.WaitsAlike u := by
  induction events generalizing r x with
  | nil => exact ⟨r, rfl, like, clean, rfl, rfl⟩
  | cons i rest ih =>
    have taken := like.takeHeld (.event i)
    have rewritten := (r.takeHeld (.event i)).alike_flush
    obtain ⟨supply', -, -, -, -, -, -, reset', idle', held', -⟩ := State.takeHeld_sameOutside idle (.event i)
    obtain ⟨u, order, alike, marks, waits⟩ := ih (fun j listed => unposted j (List.mem_cons_of_mem _ listed))
      (r := (r.takeHeld (.event i)).flush) (rewritten.symm.trans taken) (rewritten.supply.trans (supply'.trans supply))
      (rewritten.inStore.trans (idle'.trans idle)) (flush_dirty _)
    refine ⟨u, ⟨_, exec_madeAtOnce supply idle (unposted i List.mem_cons_self), order⟩, alike, marks, ?_⟩
    have kept : r.WaitsAlike (r.takeHeld (.event i)) := ⟨reset', held'⟩
    exact kept.trans ((flush_waitsAlike _).trans waits)

/-- The held events, and what their being taken in order comes to. -/
theorem heldEvents_follow {events : List Instr} (unposted : ∀ i ∈ events, needsNoPost i = true) {s r x : State} (supply : s.supply = true)
    (ended : s.updateRecordEmpty = x.takeAllHeld (events.map HeldEvent.event)) (like : r.Alike x) (waits : r.WaitsAlike x)
    (on : r.supply = true) (idle : r.inStore = none) (clean : r.dirty = Groups.none) :
    ∃ t u, exec .updateRecordEmpty s = .next t ∧ r.TakesInOrder u events
      ∧ t = { u with mem := t.mem, generation := t.generation } ∧ UnchangedOutside [statusBlock] u t := by
  obtain ⟨u, order, alike, marks, kept⟩ := takesInOrder unposted like on idle clean
  have taken := alike.trans (State.alike_flush _)
  obtain ⟨-, -, -, -, -, -, -, reset, -, held, -⟩ := State.takeAllHeld_sameOutside (like.inStore.trans idle) (events.map HeldEvent.event)
  have same : u.WaitsAlike (x.takeAllHeld (events.map HeldEvent.event)) :=
    kept.symm.trans (waits.trans ⟨reset, held⟩)
  exact ⟨_, u, (exec_recordEmpty supply).trans (by rw [ended]), order,
    taken.rest_of_marks ((flush_dirty _).trans marks.symm) (same.trans (flush_waitsAlike _)), taken.shown⟩

/-- Held events behind an update, whatever its event (R133). -/
theorem heldEvents_in_order (events : List Instr) (work : Work) (phase : Phase) (values : NewValues) (s : State)
    (supply : s.supply = true) (busy : s.inStore = some work) (record : s.store.record = .inSteps phase values)
    (unheld : s.heldReset = none) (held : s.held = events.map HeldEvent.event) (unposted : ∀ i ∈ events, needsNoPost i = true) :
    ∃ r, exec .updateRecordEmpty { s with held := [] } = .next r
      ∧ (r.inStore = none → ∃ t u, exec .updateRecordEmpty s = .next t ∧ r.TakesInOrder u events
          ∧ t = { u with mem := t.mem, generation := t.generation } ∧ UnchangedOutside [statusBlock] u t)
      ∧ (r.inStore ≠ none → exec .updateRecordEmpty s = .next { r with held := s.held }) := by
  cases ofStart : work.ofStart with
  | false =>
    have first := State.updateRecordEmpty_ends (s := { s with held := [] }) busy record (.inl ofStart)
    have whole := State.updateRecordEmpty_ends busy record (.inl ofStart)
    obtain ⟨idle₀, reset₀, supply₀, -⟩ := State.updateDone_sameOutside (s := { s with held := [] }) (values := values) (.inl ofStart)
    obtain ⟨idle₁, reset₁, -⟩ := State.updateDone_sameOutside (s := s) (values := values) (.inl ofStart)
    have base : ({ s with held := [] } : State).Alike s := ⟨rfl, fun _ _ => rfl⟩
    have done : (({ s with held := [] } : State).updateDone work values).Alike (s.updateDone work values) :=
      ((base.place values).after work ofStart).withHeld [] []
    have quiet₀ : (({ s with held := [] } : State).updateDone work values).held = [] := rfl
    have quiet₁ : (s.updateDone work values).held = [] := rfl
    generalize ({ s with held := [] } : State).updateDone work values = a at *
    generalize s.updateDone work values = b at *
    have first : ({ s with held := [] } : State).updateRecordEmpty = a := by
      rw [first]
      show a.takeHeldReset = a
      rw [State.takeHeldReset, reset₀.trans unheld]
    have rewritten := a.alike_flush
    have idle : a.flush.inStore = none := rewritten.inStore.trans idle₀
    refine ⟨a.flush, (exec_recordEmpty (s := { s with held := [] }) supply).trans (by rw [first]), fun _ => ?_, fun some_ => absurd idle some_⟩
    refine heldEvents_follow unposted supply (x := b) ?_ (rewritten.symm.trans done) ?_ (rewritten.supply.trans (supply₀.trans supply)) idle
      (flush_dirty _)
    · obtain ⟨-, -, -, -, -, -, -, kept, -⟩ := State.takeAllHeld_sameOutside idle₁ s.held
      rw [whole, State.takeHeldReset, kept, reset₁, unheld, held]
    · exact (flush_waitsAlike a).symm.trans ⟨reset₁.trans reset₀.symm, quiet₁.trans quiet₀.symm⟩
  | true =>
    have blind := after_start_holding ((s.place values).holding []) s.held ofStart
    have before := after_start_holding (s.place values) [] ofStart
    obtain ⟨supply₀, reset₀⟩ := keepsReset_after ((s.place values).holding []) ofStart
    have quiet : (((s.place values).holding []).after work).held = [] := by rw [before]; rfl
    have whole := State.updateRecordEmpty_inSteps busy record
    have first := State.updateRecordEmpty_inSteps (s := { s with held := [] }) busy record
    change _ = if (((s.place values).holding []).after work).busy then ((s.place values).holding []).after work
      else (State.takeAllHeld ((((s.place values).holding []).after work).holding []) (((s.place values).holding []).after work).held).takeHeldReset at first
    change (s.place values).after work = _ at blind
    rw [blind] at whole
    generalize ((s.place values).holding []).after work = a at *
    have stays : (a.holding s.held).busy = a.busy := rfl
    rw [stays] at whole
    cases going : a.busy with
    | true =>
      rw [going, if_pos rfl] at first whole
      refine ⟨a.flush, (exec_recordEmpty (s := { s with held := [] }) supply).trans (by rw [first]), fun idle => ?_, fun _ => ?_⟩
      · rw [a.alike_flush.inStore] at idle
        rw [State.busy, idle] at going
        cases going
      · rw [exec_recordEmpty supply, whole, flush_holding]
        rfl
    | false =>
      have idle : a.inStore = none := by
        rw [State.busy] at going
        simpa using going
      rw [going, if_neg Bool.false_ne_true] at first whole
      have rewritten := a.alike_flush
      have same : a.holding [] = a := by rw [State.holding, ← quiet]
      have first : ({ s with held := [] } : State).updateRecordEmpty = a := by
        rw [first, same, quiet]
        show a.takeHeldReset = a
        rw [State.takeHeldReset, reset₀]
        show (match s.heldReset with | none => a | some (.line lanes order) => _ | some .restart => _) = a
        rw [unheld]
      refine ⟨a.flush, (exec_recordEmpty (s := { s with held := [] }) supply).trans (by rw [first]), fun _ => ?_,
        fun some_ => absurd (rewritten.inStore.trans idle) some_⟩
      refine heldEvents_follow unposted supply (x := a) ?_ rewritten.symm (flush_waitsAlike a).symm (rewritten.supply.trans (supply₀.trans supply))
        (rewritten.inStore.trans idle) (flush_dirty _)
      have emptied : ({ a.holding s.held with held := [] } : State) = a := same
      have kept : (a.holding s.held).held = s.held := rfl
      obtain ⟨-, -, -, -, -, -, -, reset₁, -⟩ := State.takeAllHeld_sameOutside idle s.held
      rw [whole, emptied, kept, State.takeHeldReset, reset₁, reset₀]
      show (match s.heldReset with | none => a.takeAllHeld s.held | some (.line lanes order) => _ | some .restart => _) = _
      rw [unheld, held]

/-- Settles O10. -/
theorem updateCompletesBeforeTheHeldReset : Obligations.UpdateCompletesBeforeTheHeldReset :=
  ⟨setAccount_completes, lineReset_waits_for_setAccount, lineReset_abandons, setAccount_too_late,
    fun events work phase values s supply _ busy record unheld held unposted =>
      heldEvents_in_order events work phase values s supply busy record unheld held unposted,
    setAccount_waits_for_switch,
    fun lanes order work phase values s supply _ busy record reset =>
      lineReset_follows lanes order work phase values s supply busy record reset,
    restart_waits_for_setAccount, restart_waits⟩

end Sys2Proof.Machine
end

section
/-! SUPPORT. O11: what a command's plan comes to does not hang on the pace in the command record (R133, R182). -/

namespace Sys2Proof.Machine

/-- A state with another command record. -/
def State.commanded (s : State) (command : Option Instr) : State := { s with command := command }

/-! ### PARK's steps do not look at the command record -/

section
variable (s : State) (c : Option Instr)

theorem touchLane_commanded (lane : Lane) : (s.commanded c).touchLane lane = (s.touchLane lane).commanded c := by cases lane <;> rfl

theorem writeResults_commanded (lane : Lane) (e : TrackEntry) (fields : Nat → List Field) (bits : List Nat) :
    (s.commanded c).writeResults lane e fields bits = (s.writeResults lane e fields bits).commanded c := by
  unfold State.writeResults
  dsimp only
  cases e.slot <;> rfl

theorem endBatch_commanded (lane : Lane) : (s.commanded c).endBatch lane = (s.endBatch lane).commanded c := by
  have tracker : (s.commanded c).tracker lane = s.tracker lane := rfl
  have calendar : (s.commanded c).calendar = s.calendar := rfl
  unfold State.endBatch
  dsimp only
  rw [tracker, calendar]
  split <;> rfl

theorem slotDone_commanded (lane : Lane) (e : TrackEntry) (index : Nat) (outcome : PieceOutcome) (cause : Option DivertCause) :
    (s.commanded c).slotDone lane e index outcome cause = (s.slotDone lane e index outcome cause).commanded c := by
  unfold State.slotDone
  dsimp only
  rw [writeResults_commanded]
  have moved : ∀ u : State, (((((u.commanded c).setSlot lane index .done).onTracker lane (fun t =>
        { t with lastDone := some e.seq, batch := t.batch.count outcome (e.held.getD 0) })).touchLane lane).raise (slotDoneCause lane)).endBatch lane
      = (((((u.setSlot lane index .done).onTracker lane (fun t =>
        { t with lastDone := some e.seq, batch := t.batch.count outcome (e.held.getD 0) })).touchLane lane).raise
          (slotDoneCause lane)).endBatch lane).commanded c := by
    intro u
    rw [← endBatch_commanded]
    cases lane <;> rfl
  exact moved _

theorem endEntry_commanded (lane : Lane) (e : TrackEntry) (outcome : PieceOutcome) (cause : Option DivertCause) :
    (s.commanded c).endEntry lane e outcome cause = (s.endEntry lane e outcome cause).commanded c := by
  unfold State.endEntry
  cases e.slot with
  | none => rfl
  | some index =>
    dsimp only
    rw [slotDone_commanded]
    rfl

theorem endEntries_commanded (lane : Lane) (otherwise : DivertCause) (es : List TrackEntry) :
    (s.commanded c).endEntries lane otherwise es = (s.endEntries lane otherwise es).commanded c := by
  induction es generalizing s with
  | nil => rfl
  | cons e es ih =>
    show ((s.commanded c).endEntry lane e _ _).endEntries lane otherwise es = _
    rw [endEntry_commanded, ih]
    rfl

theorem parkLane_commanded (lane : Lane) : (s.commanded c).parkLane lane = (s.parkLane lane).commanded c := by
  have ended : ∀ u : State,
      ((((u.commanded c).endEntries lane .parked ((u.commanded c).tracker lane).queue).onTracker lane
          (fun r => { r with state := .stopped, haltCause := none })).onLink lane Link.park).touchLane lane
        = ((((u.endEntries lane .parked (u.tracker lane).queue).onTracker lane
          (fun r => { r with state := .stopped, haltCause := none })).onLink lane Link.park).touchLane lane).commanded c := by
    intro u
    have tracker : (u.commanded c).tracker lane = u.tracker lane := rfl
    rw [tracker, endEntries_commanded, ← touchLane_commanded]
    rfl
  have link : (s.commanded c).link lane = s.link lane := rfl
  have tracker : (s.commanded c).tracker lane = s.tracker lane := rfl
  unfold State.parkLane
  dsimp only
  rw [link, tracker]
  split
  · exact ended s
  · split
    · exact ended s
    · rw [writeResults_commanded]
      exact ended _

theorem afterPark_commanded : (s.commanded c).afterPark = s.afterPark := by
  have abandoned : State.abandonRating { s.commanded c with holds := [] } = (State.abandonRating { s with holds := [] }).commanded c := rfl
  unfold State.afterPark
  dsimp only
  rw [abandoned, parkLane_commanded, parkLane_commanded]
  rfl

theorem inspect_commanded : (s.commanded c).inspect = s.inspect.commanded c := by
  have days : (s.commanded c).daysSince = s.daysSince := rfl
  have items : (s.commanded c).items = s.items := rfl
  unfold State.inspect
  rw [days, items]
  split
  · have either : ∀ (raised : Bool) (notice : Notice),
        (if raised then { s.commanded c with notice := notice }.raise .inspectionDue else { s.commanded c with notice := notice })
          = (if raised then { s with notice := notice }.raise .inspectionDue else { s with notice := notice } : State).commanded c := by
      intro raised notice
      cases raised <;> rfl
    exact either _ _
  · rfl

theorem setCalendar_commanded (day minute second : Nat) :
    (s.commanded c).setCalendar day minute second = (s.setCalendar day minute second).commanded c :=
  inspect_commanded (State.touchCalendar { s with calendar := s.calendar.setTo day minute second }) c

end

/-! ### Plans that differ in the command record alone -/

/-- The rest of an update that completes its command, whatever the record holds. -/
def Work.Completes (work : Work) : Prop :=
  ∀ (q : State) (values : NewValues) (c d : Option Instr), ((q.commanded c).place values).after work = ((q.commanded d).place values).after work

theorem completes_of_command {work : Work}
    (command : work = .install ∨ work = .credit ∨ work = .setAccount ∨ (∃ before, work = .setAlert before) ∨ work = .closePeriod
      ∨ (∃ removed, work = .claim removed) ∨ work = .park ∨ ∃ day minute second, work = .setDate day minute second) :
    work.Completes := by
  intro q values c d
  rcases command with rfl | rfl | rfl | ⟨before, rfl⟩ | rfl | ⟨removed, rfl⟩ | rfl | ⟨day, minute, second, rfl⟩
  · rfl
  · rfl
  · rfl
  · have both : ∀ c : Option Instr, ((q.commanded c).place values).afterSetAlert before = (q.place values).afterSetAlert before := by
      intro c
      have low : ((q.commanded c).place values).low = (q.place values).low := rfl
      have available : ((q.commanded c).place values).available = (q.place values).available := rfl
      unfold State.afterSetAlert
      rw [low, available]
      dsimp only
      split <;> rfl
    exact (both c).trans (both d).symm
  · rfl
  · cases removed <;> rfl
  · exact (afterPark_commanded (q.place values) c).trans (afterPark_commanded (q.place values) d).symm
  · have both : ∀ c : Option Instr, ((q.commanded c).place values).after (.setDate day minute second) = (q.place values).after (.setDate day minute second) := by
      intro c
      show ((((q.place values).commanded c).setCalendar day minute second).afterSwitch).complete .done = _
      rw [setCalendar_commanded]
      rfl
    exact (both c).trans (both d).symm

/-- Two plans of one command at two paces, from states that differ in the command record: the same answer, or the same update. -/
inductive Plan.Twin (b : State) (c d : Option Instr) : Plan → Plan → Prop where
  | done (t : State) (kept : SameOutside b t) : Twin b c d (.done t) (.done t)
  | update (work : Work) (values : Items) (q : State) (kept : SameOutside b q) (clean : q.dirty = b.dirty) (other : work.ofStart = false)
      (completes : work.Completes) (store : q.store = b.store) :
      Twin b c d (.update work values (q.commanded c)) (.update work values (q.commanded d))

section
variable (b : State) (c d : Option Instr)

theorem twin_complete (status : Status) : Plan.Twin b c d ((b.commanded c).answerWith status) ((b.commanded d).answerWith status) :=
  .done (b.complete status) (by simp [SameOutside])

theorem twin_update {work : Work} (values : Items) (other : work.ofStart = false) (completes : work.Completes) :
    Plan.Twin b c d (.update work values (b.commanded c)) (.update work values (b.commanded d)) :=
  .update work values b (.refl b) rfl other completes rfl

theorem twin_setDate (day minute second : Nat) :
    Plan.Twin b c d (setDatePlan day minute second (b.commanded c)) (setDatePlan day minute second (b.commanded d)) := by
  have due : ∀ c : Option Instr, ({ b.commanded c with calendar := (b.commanded c).calendar.setTo day minute second } : State).switchDue
      = ({ b with calendar := b.calendar.setTo day minute second } : State).switchDue := fun _ => rfl
  have items : ∀ c : Option Instr, (b.commanded c).items = b.items := fun _ => rfl
  unfold setDatePlan
  rw [due c, due d, items c, items d]
  split
  · exact twin_complete b c d _
  · split
    · exact twin_update b c d _ rfl (completes_of_command (.inr (.inr (.inr (.inr (.inr (.inr (.inr ⟨_, _, _, rfl⟩))))))))
    · rw [setCalendar_commanded, setCalendar_commanded]
      exact .done ((b.setCalendar day minute second).complete .done) (by simp [SameOutside])

theorem twin_installLicence (x : LicenceArguments) :
    Plan.Twin b c d (installLicencePlan x (b.commanded c)) (installLicencePlan x (b.commanded d)) := by
  unfold installLicencePlan
  split
  · exact twin_complete b c d _
  · exact twin_update b c d _ rfl (completes_of_command (.inl rfl))

theorem twin_applyVoucher (x : VoucherArguments) :
    Plan.Twin b c d (applyVoucherPlan x (b.commanded c)) (applyVoucherPlan x (b.commanded d)) := by
  have items : ∀ c : Option Instr, (b.commanded c).items = b.items := fun _ => rfl
  unfold applyVoucherPlan
  rw [items c, items d]
  split
  · exact twin_complete b c d _
  · split
    · exact twin_complete b c d _
    · split
      · exact twin_complete b c d _
      · exact twin_update b c d _ rfl (completes_of_command (.inr (.inl rfl)))

theorem twin_setAccount (account state : Byte) :
    Plan.Twin b c d (setAccountPlan account state (b.commanded c)) (setAccountPlan account state (b.commanded d)) := by
  unfold setAccountPlan
  split
  · exact twin_update b c d _ rfl (completes_of_command (.inr (.inr (.inl rfl))))
  · exact twin_complete b c d _

theorem twin_setFundsAlert (threshold : Nat) :
    Plan.Twin b c d (setFundsAlertPlan threshold (b.commanded c)) (setFundsAlertPlan threshold (b.commanded d)) := by
  unfold setFundsAlertPlan
  split
  · exact twin_update b c d _ rfl (completes_of_command (.inr (.inr (.inr (.inl ⟨_, rfl⟩)))))
  · exact twin_complete b c d _

theorem twin_closePeriod : Plan.Twin b c d (closePeriodPlan (b.commanded c)) (closePeriodPlan (b.commanded d)) :=
  .update .closePeriod b.items.closePeriod (b.writeFields (accountsReport b .close)) (by simp [SameOutside]) rfl rfl
    (completes_of_command (.inr (.inr (.inr (.inr (.inl rfl)))))) rfl

theorem twin_claimSpoiled (limit : Nat) :
    Plan.Twin b c d (claimSpoiledPlan limit (b.commanded c)) (claimSpoiledPlan limit (b.commanded d)) :=
  .update (.claim (!(b.items.claimed limit).isEmpty)) (b.items.claim (b.items.claimed limit)) (b.writeFields (spoiledReport b limit))
    (by simp [SameOutside]) rfl rfl (completes_of_command (.inr (.inr (.inr (.inr (.inr (.inl ⟨_, rfl⟩))))))) rfl

theorem twin_park (started : b.part ≠ .start) : Plan.Twin b c d (parkPlan (b.commanded c)) (parkPlan (b.commanded d)) := by
  have part : ∀ c : Option Instr, (b.commanded c).part = b.part := fun _ => rfl
  have items : ∀ c : Option Instr, (b.commanded c).items = b.items := fun _ => rfl
  unfold parkPlan
  rw [part c, part d, items c, items d]
  cases at_ : b.part with
  | start => exact absurd at_ started
  | parked => exact twin_complete b c d _
  | _ =>
    dsimp only
    split
    · rw [afterPark_commanded, afterPark_commanded]
      exact .done b.afterPark b.afterPark_sameOutside
    · exact twin_update b c d _ rfl (completes_of_command (.inr (.inr (.inr (.inr (.inr (.inr (.inl rfl))))))))

end

end Sys2Proof.Machine
end

section
/-! SUPPORT. O11: a command's whole update in its steps, or begun later, comes to the same as one made at once (R133, R134). -/

namespace Sys2Proof.Machine

/-- Two commands that differ in their pace alone. -/
def SameCommand (i j : Instr) : Prop :=
  (∃ x p q, i = .installLicence x p ∧ j = .installLicence x q) ∨ (∃ x p q, i = .applyVoucher x p ∧ j = .applyVoucher x q)
    ∨ (∃ a b p q, i = .setAccount a b p ∧ j = .setAccount a b q) ∨ (∃ a p q, i = .setFundsAlert a p ∧ j = .setFundsAlert a q)
    ∨ (∃ p q, i = .closePeriod p ∧ j = .closePeriod q) ∨ (∃ a p q, i = .claimSpoiled a p ∧ j = .claimSpoiled a q)
    ∨ (∃ day minute second p q, i = .setDate day minute second p ∧ j = .setDate day minute second q)
    ∨ ∃ p q, i = .park p ∧ j = .park q

theorem SameCommand.post {i j : Instr} (same : SameCommand i j) (s : State) :
    (commandCode i).isSome = true ∧ (commandCode j).isSome = true ∧ i ≠ .restart ∧ j ≠ .restart ∧ s.layCommand j = s.layCommand i
      ∧ s.refusalAtPost j = s.refusalAtPost i := by
  rcases same with ⟨x, p, q, rfl, rfl⟩ | ⟨x, p, q, rfl, rfl⟩ | ⟨a, b, p, q, rfl, rfl⟩ | ⟨a, p, q, rfl, rfl⟩ | ⟨p, q, rfl, rfl⟩
    | ⟨a, p, q, rfl, rfl⟩ | ⟨day, minute, second, p, q, rfl, rfl⟩ | ⟨p, q, rfl, rfl⟩ <;>
  exact ⟨rfl, rfl, nofun, nofun, rfl, rfl⟩

theorem SameCommand.taken {i j : Instr} (same : SameCommand i j) (part : PartState) : takenInPart j part = takenInPart i part := by
  rcases same with ⟨x, p, q, rfl, rfl⟩ | ⟨x, p, q, rfl, rfl⟩ | ⟨a, b, p, q, rfl, rfl⟩ | ⟨a, p, q, rfl, rfl⟩ | ⟨p, q, rfl, rfl⟩
    | ⟨a, p, q, rfl, rfl⟩ | ⟨day, minute, second, p, q, rfl, rfl⟩ | ⟨p, q, rfl, rfl⟩ <;>
  rfl

/-- Outside START the two come to twins; in START every one but PARK does. -/
theorem SameCommand.twin {i j : Instr} (same : SameCommand i j) (b : State) (c d : Option Instr)
    (held : b.part ≠ .start ∨ ∀ pace, i ≠ .park pace) :
    Plan.Twin b c d (commandPlan i (b.commanded c)) (commandPlan j (b.commanded d)) := by
  have taken := same.taken b.part
  unfold commandPlan
  show Plan.Twin b c d (if takenInPart i b.part = true then _ else _) (if takenInPart j b.part = true then _ else _)
  rw [taken]
  split
  · rcases same with ⟨x, p, q, rfl, rfl⟩ | ⟨x, p, q, rfl, rfl⟩ | ⟨x, y, p, q, rfl, rfl⟩ | ⟨x, p, q, rfl, rfl⟩ | ⟨p, q, rfl, rfl⟩
      | ⟨x, p, q, rfl, rfl⟩ | ⟨day, minute, second, p, q, rfl, rfl⟩ | ⟨p, q, rfl, rfl⟩
    · exact twin_installLicence b c d x
    · exact twin_applyVoucher b c d x
    · exact twin_setAccount b c d x y
    · exact twin_setFundsAlert b c d _
    · exact twin_closePeriod b c d
    · exact twin_claimSpoiled b c d _
    · exact twin_setDate b c d _ _ _
    · exact twin_park b c d (held.resolve_right fun other => other p rfl)
  · exact twin_complete b c d _

/-- The record of a command in progress holds that command. -/
theorem SameCommand.inProgress {i j : Instr} (same : SameCommand i j) (s : State) :
    s.inProgress i = (s.inProgress i).commanded (some i) ∧ s.inProgress j = (s.inProgress i).commanded (some j) := by
  have laid := (same.post s).2.2.2.2.1
  refine ⟨rfl, ?_⟩
  unfold State.inProgress
  rw [laid]
  rfl

/-! ### In its steps against at once -/

/-- An event whose update is left in its steps, and the same event at once. -/
def InStepsIsMade (s : State) (i j : Instr) : Prop :=
  ∃ t u, exec i s = .next t ∧ exec j s = .next u
    ∧ (t.inStore ≠ none → exec .updateRecordEmpty t = .next u) ∧ (t.inStore = none → s.part ≠ .start → t = u)

/-- Both come to one state, with no update begun. -/
theorem inStepsIsMade_of_same {s t : State} {i j : Instr} (first : exec i s = .next t) (second : exec j s = .next t)
    (idle : t.inStore = none) : InStepsIsMade s i j :=
  ⟨t, t, first, second, fun busy => absurd idle busy, fun _ _ => rfl⟩

/-- A clean state's update in its steps, then completed. -/
theorem beginUpdate_ends {q : State} {work : Work} {values : Items} (phase : Phase) (supply : q.supply = true) (clean : q.dirty = Groups.none)
    (other : work.ofStart = false) (held : q.held = []) (unheld : q.heldReset = none) :
    exec .updateRecordEmpty (q.beginUpdate work values phase).flush = .next ((q.makeUpdate work values).after work).flush := by
  have settled : (q.beginUpdate work values phase).flush = q.beginUpdate work values phase := flush_clean clean
  rw [settled]
  exact exec_updateRecordEmpty_alone supply other held unheld

theorem inSteps_command {s : State} {i j : Instr} {phase : Phase} (same : SameCommand i j) (pace_i : paceOf i = .inSteps phase)
    (pace_j : paceOf j = .made) (now_i : beginsLater i = false) (now_j : beginsLater j = false) (ready : s.Ready) (held : s.held = [])
    (unheld : s.heldReset = none) : InStepsIsMade s i j := by
  obtain ⟨code_i, code_j, other_i, other_j, laid, refusal⟩ := same.post s
  obtain ⟨record_i, record_j⟩ := same.inProgress s
  have ⟨supply, idle, clean⟩ := ready
  cases command : s.command with
  | some running =>
    have busy : s.command ≠ none := by rw [command]; nofun
    refine inStepsIsMade_of_same (t := ((s.layCommand i).raise .commandOverrun).flush) ?_ ?_ ?_
    · rw [exec_effect supply, effect_command code_i, State.issue_overrun busy other_i]
    · rw [exec_effect supply, effect_command code_j, State.issue_overrun busy other_j, laid]
    · rw [(State.alike_flush _).inStore]
      simpa using idle
  | none =>
    have takes : s.TakesCommands := ⟨ready, command⟩
    have idle_i : (s.inProgress i).inStore = none := by simpa using idle
    have idle_j : (s.inProgress j).inStore = none := by simpa using idle
    cases refused : s.refusalAtPost i with
    | some status =>
      refine inStepsIsMade_of_same (exec_of_command_refused takes code_i other_i refused) ?_ ?_
      · rw [exec_of_command_refused takes code_j other_j (refusal.trans refused), record_j]
        rfl
      · rw [(State.alike_flush _).inStore]
        exact idle_i
    | none =>
      have run_i : exec i s = .next ((commandPlan i (s.inProgress i)).carryOut (.inSteps phase)).flush := by
        rw [issue_accepted supply code_i command other_i refused, State.takeUp_idle idle_i now_i, pace_i]
      have run_j : exec j s = .next ((commandPlan j (s.inProgress j)).carryOut .made).flush := by
        rw [issue_accepted supply code_j command other_j (refusal.trans refused), State.takeUp_idle idle_j now_j, pace_j]
      by_cases twins : (s.inProgress i).part ≠ .start ∨ ∀ pace, i ≠ .park pace
      · have twin := same.twin (s.inProgress i) (some i) (some j) twins
        rw [← record_i, ← record_j] at twin
        generalize commandPlan i (s.inProgress i) = p at twin run_i
        generalize commandPlan j (s.inProgress j) = q at twin run_j
        cases twin with
        | done t kept =>
          refine inStepsIsMade_of_same run_i run_j ?_
          rw [(State.alike_flush _).inStore]
          exact kept.inStore.trans idle_i
        | update work values q kept marks other completes store =>
          obtain ⟨supply', -, -, -, -, -, -, reset', -, held', -⟩ := kept
          refine ⟨_, _, run_i, run_j, fun _ => ?_, fun idle => ?_⟩
          · refine (beginUpdate_ends (q := q.commanded (some i)) phase (supply'.trans (by simpa using supply))
              (marks.trans (by simpa using clean)) other (held'.trans (by simpa using held)) (reset'.trans (by simpa using unheld))).trans ?_
            exact congrArg (fun u : State => Host.Outcome.next u.flush) (completes q (values.newValues work.setsLatch) (some i) (some j))
          · rw [(State.alike_flush _).inStore] at idle
            cases idle
      · obtain ⟨start, parks⟩ := not_or.mp twins
        have start : s.part = .start := by simpa using start
        obtain ⟨pace, parks⟩ := not_forall.mp parks
        have parks : i = .park pace := not_not.mp parks
        have plan : commandPlan i (s.inProgress i) = .done (s.inProgress i) := by
          rw [parks, commandPlan_of_taken rfl]
          show parkPlan _ = _
          unfold parkPlan
          simp only [State.inProgress_frame, start]
        rw [plan] at run_i
        refine ⟨_, _, run_i, run_j, fun busy => ?_, fun _ started => absurd start started⟩
        rw [(State.alike_flush _).inStore] at busy
        exact absurd idle_i busy

/-- An event of the belt or of a link. -/
theorem inSteps_event {s : State} {i j : Instr} {phase : Phase} (pace_i : paceOf i = .inSteps phase) (pace_j : paceOf j = .made)
    (run_i : exec i s = .next (s.occur i).flush) (run_j : exec j s = .next (s.occur j).flush) (same : eventPlan j s = eventPlan i s)
    (marks : ∀ work values q, eventPlan i s = .update work values q → q.dirty = s.dirty) (ready : s.Ready) (held : s.held = [])
    (unheld : s.heldReset = none) : InStepsIsMade s i j := by
  have ⟨supply, idle, clean⟩ := ready
  rw [State.occur_idle idle, pace_i] at run_i
  rw [State.occur_idle idle, pace_j, same] at run_j
  have kept := eventPlan_sameOutside i s
  have other := eventPlan_notOfStart i s
  cases plan : eventPlan i s with
  | done t =>
    rw [plan] at run_i run_j kept
    refine inStepsIsMade_of_same run_i run_j ?_
    rw [(State.alike_flush _).inStore]
    exact kept.inStore.trans idle
  | update work values q =>
    rw [plan] at run_i run_j kept other
    obtain ⟨supply', -, -, -, -, -, -, reset', -, held', -⟩ := kept
    refine ⟨_, _, run_i, run_j, fun _ => ?_, fun idle => ?_⟩
    · exact beginUpdate_ends phase (supply'.trans supply) ((marks work values q plan).trans clean) other (held'.trans held)
        (reset'.trans unheld)
    · rw [(State.alike_flush _).inStore] at idle
      cases idle

/-- The end of a validation. -/
theorem inSteps_load {s : State} (phase : Phase) (ready : s.Ready) (held : s.held = []) (unheld : s.heldReset = none) :
    InStepsIsMade s (.loadRatesCompletion (.inSteps phase)) (.loadRatesCompletion .made) := by
  have ⟨supply, idle, clean⟩ := ready
  have read : s.readImage = { s with load := s.readImage.load } := by
    unfold State.readImage
    split <;> rfl
  have run : ∀ pace, exec (.loadRatesCompletion pace) s = .next ((loadRatesCompletionPlan s.readImage).carryOut pace).flush := by
    intro pace
    rw [exec_effect supply]
    exact congrArg (fun t : State => Host.Outcome.next t.flush) (State.loadRatesCompletion_idle idle pace)
  have kept := loadRatesCompletionPlan_sameOutside s.readImage
  have updates : ∀ work values q, loadRatesCompletionPlan s.readImage = .update work values q →
      q = s.readImage ∧ work.ofStart = false := by
    intro work values q plan
    unfold loadRatesCompletionPlan at plan
    split at plan
    · cases plan
    · split at plan
      · cases plan
      · split at plan
        · cases plan
        · cases plan
          exact ⟨rfl, rfl⟩
  have run_i := run (.inSteps phase)
  have run_j := run .made
  cases plan : loadRatesCompletionPlan s.readImage with
  | done t =>
    rw [plan] at run_i run_j kept
    refine inStepsIsMade_of_same run_i run_j ?_
    rw [(State.alike_flush _).inStore]
    refine kept.inStore.trans ?_
    rw [read]
    exact idle
  | update work values q =>
    rw [plan] at run_i run_j
    obtain ⟨rfl, other⟩ := updates work values q plan
    refine ⟨_, _, run_i, run_j, fun _ => ?_, fun idle => ?_⟩
    · exact beginUpdate_ends phase (by rw [read]; exact supply) (by rw [read]; exact clean) other (by rw [read]; exact held)
        (by rw [read]; exact unheld)
    · rw [(State.alike_flush _).inStore] at idle
      cases idle

end Sys2Proof.Machine
end

section
/-! SUPPORT. O11: the events of the belt and of a link, and a command whose update begins later (R133, R134). -/

namespace Sys2Proof.Machine

/-! ### Every event of the first clause -/

theorem settlePlan_marks {s q : State} {lane : Lane} {result : PrintResult} {expired : Bool} {work : Work} {values : Items}
    (plan : s.settlePlan lane result expired = .update work values q) : q.dirty = s.dirty := by
  unfold State.settlePlan at plan
  split at plan <;> cases plan
  rfl

theorem answerPlan_marks {s q : State} {lane : Lane} {frame : BitVec 48} {work : Work} {values : Items}
    (plan : s.answerPlan lane frame = .update work values q) : q.dirty = s.dirty := by
  unfold State.answerPlan at plan
  dsimp only at plan
  split at plan
  · split at plan
    · cases plan
    · split at plan
      · cases plan
      · split at plan
        · exact settlePlan_marks plan
        · split at plan
          · exact (settlePlan_marks plan).trans (by cases lane <;> rfl)
          · cases plan
  · cases plan

theorem expiryPlan_marks {s q : State} {lane : Lane} {work : Work} {values : Items}
    (plan : s.expiryPlan lane = .update work values q) : q.dirty = s.dirty := by
  unfold State.expiryPlan at plan
  dsimp only at plan
  split at plan
  · cases plan
  · split at plan
    · exact settlePlan_marks plan
    · cases plan
    · cases plan

theorem printPhotocell_marks {s q : State} {lane : Lane} {work : Work} {values : Items}
    (plan : s.printPhotocell lane = .update work values q) : q.dirty = s.dirty := by
  unfold State.printPhotocell at plan
  split at plan
  · cases plan
  · split at plan
    · unfold State.dispatchPlan at plan
      split at plan
      · cases plan
      · split at plan <;> cases plan
        rfl
    · cases plan
    · cases plan
    · cases plan

theorem sensorPlan_marks {s q : State} {lane : Lane} {photocell : Position} {edge : Edge} {tracked : State → Plan} {work : Work}
    {values : Items} (marks : tracked s = .update work values q → q.dirty = s.dirty)
    (plan : s.sensorPlan lane photocell edge tracked = .update work values q) : q.dirty = s.dirty := by
  unfold State.sensorPlan at plan
  dsimp only at plan
  split at plan
  · cases plan
  · split at plan
    · exact marks plan
    · cases plan

theorem linkPlan_marks {s q : State} {lane : Lane} {inner : State → Plan} {work : Work} {values : Items}
    (marks : inner s = .update work values q → q.dirty = s.dirty) (plan : s.linkPlan lane inner = .update work values q) :
    q.dirty = s.dirty := by
  unfold State.linkPlan at plan
  split at plan
  · exact marks plan
  · cases plan

theorem inSteps_print {s : State} (lane : Lane) (edge : Edge) (phase : Phase) (ready : s.Ready) (held : s.held = [])
    (unheld : s.heldReset = none) : InStepsIsMade s (.print lane edge (.inSteps phase)) (.print lane edge .made) :=
  inSteps_event (i := .print lane edge (.inSteps phase)) (j := .print lane edge .made) rfl rfl (exec_effect ready.1)
    (exec_effect ready.1) rfl (fun _ _ _ plan =>
      sensorPlan_marks (tracked := fun s => s.printPhotocell lane) printPhotocell_marks plan) ready held unheld

theorem inSteps_answer {s : State} (lane : Lane) (frame : BitVec 48) (phase : Phase) (ready : s.Ready) (held : s.held = [])
    (unheld : s.heldReset = none) : InStepsIsMade s (.answer lane frame (.inSteps phase)) (.answer lane frame .made) :=
  inSteps_event (i := .answer lane frame (.inSteps phase)) (j := .answer lane frame .made) rfl rfl (exec_effect ready.1)
    (exec_effect ready.1) rfl (fun _ _ _ plan =>
      linkPlan_marks (inner := fun s => s.answerPlan lane frame) answerPlan_marks plan) ready held unheld

theorem inSteps_expiry {s : State} (lane : Lane) (phase : Phase) (ready : s.Ready) (held : s.held = []) (unheld : s.heldReset = none) :
    InStepsIsMade s (.answerTimerExpiry lane (.inSteps phase)) (.answerTimerExpiry lane .made) :=
  inSteps_event (i := .answerTimerExpiry lane (.inSteps phase)) (j := .answerTimerExpiry lane .made) rfl rfl (exec_effect ready.1)
    (exec_effect ready.1) rfl (fun _ _ _ plan =>
      linkPlan_marks (inner := fun s => s.expiryPlan lane) expiryPlan_marks plan) ready held unheld

/-! ### A command whose update begins later -/

theorem beginUnbegun_of_claim {q : State} {claimed : List Nat} {limit : Word} {pace : CommandPace} (unbegun : q.unbegun = some claimed)
    (command : q.command = some (.claimSpoiled limit pace)) :
    q.beginUnbegun = (claimPlan claimed { q with unbegun := none }).carryOut .made := by
  simp only [State.beginUnbegun, unbegun, command]

theorem beginUnbegun_of_command {q : State} {claimed : List Nat} {i : Instr} (unbegun : q.unbegun = some claimed)
    (command : q.command = some i) (other : ∀ limit pace, i ≠ .claimSpoiled limit pace) :
    q.beginUnbegun = (commandPlan i { q with unbegun := none }).carryOut .made := by
  unfold State.beginUnbegun
  rw [unbegun, command]
  cases i
  case claimSpoiled limit pace => exact absurd rfl (other limit pace)
  all_goals rfl

/-- The update not yet begun, once begun, is the one that was found. -/
theorem beginUnbegun_found {i : Instr} {s : State} (found : FoundFirst i) (begun : s.unbegun = none)
    (asks : (commandPlan i (s.inProgress i)).asks = true) :
    ((s.inProgress i).takeWithoutUpdate i).beginUnbegun = (commandPlan i (s.inProgress i)).carryOut .made := by
  have begun' : (s.inProgress i).unbegun = none := by simpa using begun
  have command : (s.inProgress i).command = some i := by simp
  have taken : takenInPart i (s.inProgress i).part = true := by
    by_contra untaken
    unfold commandPlan at asks
    rw [if_neg (by simpa using untaken)] at asks
    cases asks
  generalize s.inProgress i = p at *
  have again : { p with unbegun := none } = p := by rw [← begun']
  by_cases claims : ∃ limit pace, i = .claimSpoiled limit pace
  · obtain ⟨limit, pace, rfl⟩ := claims
    refine (beginUnbegun_of_claim (q := p.takeWithoutUpdate (.claimSpoiled limit pace)) rfl command).trans ?_
    rw [commandPlan_of_taken taken]
    exact congrArg (fun q : State => (claimPlan (p.items.claimed limit.toNat) (q.writeFields (spoiledReport p limit.toNat))).carryOut .made)
      again
  · have other : ∀ limit pace, i ≠ .claimSpoiled limit pace := fun limit pace is => claims ⟨limit, pace, is⟩
    have held : p.takeWithoutUpdate i = { p with unbegun := some [] } := by
      unfold State.takeWithoutUpdate
      split
      · exact absurd rfl (other _ _)
      · rfl
    rw [held]
    refine (beginUnbegun_of_command (q := { p with unbegun := some [] }) rfl command other).trans ?_
    exact congrArg (fun q : State => (commandPlan i q).carryOut .made) again

/-- Such a command at the pace that makes its update at once. -/
theorem later_command {s : State} {i j : Instr} (found : FoundFirst i) (same : SameCommand i j) (pace_j : paceOf j = .made)
    (now_j : beginsLater j = false) (other : ∀ pace, i ≠ .park pace) (takes : s.TakesCommands) (begun : s.unbegun = none) :
    ∃ t u, exec i s = .next t ∧ exec j s = .next u ∧ t.store = s.store
      ∧ (t.unbegun ≠ none → exec .updateRecordEmpty t = .next u) ∧ (t.unbegun = none → t = u) := by
  obtain ⟨code_i, code_j, other_i, other_j, laid, refusal⟩ := same.post s
  obtain ⟨record_i, record_j⟩ := same.inProgress s
  have ⟨⟨supply, idle, clean⟩, free⟩ := takes
  have idle_j : (s.inProgress j).inStore = none := by simpa using idle
  have answered : ∀ t : State, exec i s = .next t → exec j s = .next t → t.store = s.store → t.unbegun = none →
      ∃ t u, exec i s = .next t ∧ exec j s = .next u ∧ t.store = s.store
        ∧ (t.unbegun ≠ none → exec .updateRecordEmpty t = .next u) ∧ (t.unbegun = none → t = u) :=
    fun t first second store idle => ⟨t, t, first, second, store, fun begun => absurd idle begun, fun _ => rfl⟩
  cases refused : s.refusalAtPost i with
  | some status =>
    have settled := flush_clean (s := (s.inProgress i).complete status) (by simpa using clean)
    refine answered ((s.inProgress i).complete status) ?_ ?_ (by simp) (by simpa using begun)
    · rw [exec_of_command_refused takes code_i other_i refused, settled]
    · rw [exec_of_command_refused takes code_j other_j (refusal.trans refused), record_j]
      exact congrArg Host.Outcome.next settled
  | none =>
    have run_j : exec j s = .next ((commandPlan j (s.inProgress j)).carryOut .made).flush := by
      rw [issue_accepted supply code_j free other_j (refusal.trans refused), State.takeUp_idle idle_j now_j, pace_j]
    have twin := same.twin (s.inProgress i) (some i) (some j) (.inr other)
    rw [← record_i, ← record_j] at twin
    cases asks : (commandPlan i (s.inProgress i)).asks with
    | false =>
      obtain ⟨status, plan⟩ := (found.asks_or_answers (s.inProgress i)).resolve_left (by rw [asks]; decide)
      have settled := flush_clean (s := (s.inProgress i).complete status) (by simpa using clean)
      refine answered ((s.inProgress i).complete status) ?_ ?_ (by simp) (by simpa using begun)
      · rw [exec_of_command_done takes code_i other_i refused plan, settled]
      · rw [plan] at twin
        generalize commandPlan j (s.inProgress j) = q at twin run_j
        cases twin
        exact run_j.trans (congrArg Host.Outcome.next settled)
    | true =>
      refine ⟨_, _, exec_found takes found refused asks, run_j, ?_, fun _ => ?_, fun idle => ?_⟩
      · rw [State.takeWithoutUpdate_eq]
        simp
      · have supply' : ((s.inProgress i).takeWithoutUpdate i).supply = true := by
          rw [State.takeWithoutUpdate_eq]
          simpa using supply
        have idle' : ((s.inProgress i).takeWithoutUpdate i).inStore = none := by
          rw [State.takeWithoutUpdate_eq]
          simpa using idle
        have ends : ((s.inProgress i).takeWithoutUpdate i).updateRecordEmpty = (commandPlan j (s.inProgress j)).carryOut .made := by
          unfold State.updateRecordEmpty
          rw [idle']
          refine (beginUnbegun_found found begun asks).trans ?_
          generalize commandPlan i (s.inProgress i) = p at twin asks
          generalize commandPlan j (s.inProgress j) = q at twin
          cases twin with
          | done t kept => cases asks
          | update work values r kept marks ofStart completes store =>
            exact completes r (values.newValues work.setsLatch) (some i) (some j)
        rw [exec_effect supply']
        exact congrArg (fun u : State => Host.Outcome.next u.flush) ends
      · exfalso
        unfold State.takeWithoutUpdate at idle
        split at idle <;> cases idle

end Sys2Proof.Machine
end

section
/-! SUPPORT. O11: a switch in its steps at the end of a second or at a minute boundary makes a rewrite of its own (R106, R133). -/

namespace Sys2Proof.Machine

theorem UnchangedOutside.symm {ranges : List (Nat × Nat)} {s t : State} (h : UnchangedOutside ranges s t) : UnchangedOutside ranges t s :=
  fun a outside => (h a outside).symm

/-- The same fields written on both sides. -/
theorem UnchangedOutside.writeFields {ranges : List (Nat × Nat)} {s t : State} (h : UnchangedOutside ranges s t)
    (order : t.order = s.order) (fs : List Field) : UnchangedOutside ranges (s.writeFields fs) (t.writeFields fs) := by
  have byte : ∀ {s t : State} (a : Nat) (v : Byte), UnchangedOutside ranges s t →
      UnchangedOutside ranges (s.writeByte a v) (t.writeByte a v) := by
    intro s t a v h b outside
    by_cases same : b = a
    · rw [same, readByte_writeByte_same, readByte_writeByte_same]
    · rw [readByte_writeByte_other _ _ _ _ same, readByte_writeByte_other _ _ _ _ same]
      exact h b outside
  have bytes : ∀ (vs : List Byte) (s t : State) (a : Nat), UnchangedOutside ranges s t →
      UnchangedOutside ranges { s with mem := s.mem.writeBytes a vs } { t with mem := t.mem.writeBytes a vs } := by
    intro vs
    induction vs with
    | nil => exact fun s t a h => h
    | cons v vs ih => exact fun s t a h => ih _ _ (a + 1) (byte a v h)
  have fields : ∀ (fs : List Field) (s t : State), UnchangedOutside ranges s t →
      UnchangedOutside ranges { s with mem := s.mem.writeFields s.order fs } { t with mem := t.mem.writeFields s.order fs } := by
    intro fs
    induction fs with
    | nil => exact fun s t h => h
    | cons f fs ih => exact fun s t h => ih _ _ (bytes _ _ _ f.address h)
  have written : t.writeFields fs = { t with mem := t.mem.writeFields s.order fs } := by rw [State.writeFields, order]
  rw [written]
  exact fields fs s t h

/-- The generation word alone. -/
theorem unchangedOutside_generation (s : State) (g : Nat) : UnchangedOutside [(0x00, 2)] s (s.writeFields [⟨0x00, 2, g⟩]) :=
  unchangedOutside_writeFields s [⟨0x00, 2, g⟩]

theorem State.writeFields_append (s : State) (fs gs : List Field) : s.writeFields (fs ++ gs) = (s.writeFields fs).writeFields gs := by
  show { s with mem := _ } = { s with mem := _ }
  rw [Memory.writeFields_append]
  rfl

/-- Two groups shown in two rewrites read as they do in one, but for the generation word. -/
theorem flush_twice {u v : State} {g : Nat} (started : u.part ≠ .start)
    (marks : u.dirty = { Groups.none with calendar := true, banks := true })
    (same : v = { u with mem := v.mem, generation := v.generation, dirty := { Groups.none with banks := true } })
    (shown : v.mem = (u.writeFields (calendarFields u ++ [⟨0x00, 2, g⟩])).mem) :
    v.flush = { u.flush with mem := v.flush.mem, generation := v.flush.generation }
      ∧ UnchangedOutside [(0x00, 2)] u.flush v.flush := by
  have v_part : v.part = u.part := by rw [same]
  have v_order : v.order = u.order := by rw [same]
  have v_powerOns : v.powerOns = u.powerOns := by rw [same]
  have v_marks : v.dirty = { Groups.none with banks := true } := by rw [same]
  have v_banks : banksFields v = banksFields u := by
    rw [same]
    rfl
  constructor
  · refine (flush_eq v).trans ?_
    rw [flush_eq u]
    generalize v.flush = x, u.flush = y
    rw [same]
  · have u_mem : u.flush.mem = (((u.writeFields (calendarFields u)).writeFields (banksFields u)).writeFields
        [⟨0x00, 2, nextGeneration (nextGeneration u.generation)⟩]).mem := by
      rw [flush_mem (by rw [marks]; decide) started, ← State.writeFields_append, ← State.writeFields_append]
      unfold dirtyFields
      rw [marks]
      simp [Groups.none]
    have v_mem : v.flush.mem = ((v.writeFields (banksFields v)).writeFields
        [⟨0x00, 2, nextGeneration (nextGeneration v.generation)⟩]).mem := by
      rw [flush_mem (by rw [v_marks]; decide) (by rw [v_part]; exact started), ← State.writeFields_append]
      unfold dirtyFields
      rw [v_marks]
      simp [Groups.none]
    have calendar : UnchangedOutside [(0x00, 2)] (u.writeFields (calendarFields u)) v := by
      refine (unchangedOutside_generation (u.writeFields (calendarFields u)) g).trans (.of_mem _ ?_ v_powerOns)
      rw [shown, State.writeFields_append]
    have banks := calendar.writeFields v_order (banksFields u)
    rw [← v_banks] at banks
    rw [← v_banks] at u_mem
    have before := (unchangedOutside_generation ((u.writeFields (calendarFields u)).writeFields (banksFields v))
      (nextGeneration (nextGeneration u.generation))).trans (.of_mem (t := u.flush) _ u_mem u.flush_frame.2.2.2.2.2.1)
    have after := (unchangedOutside_generation (v.writeFields (banksFields v))
      (nextGeneration (nextGeneration v.generation))).trans
        (.of_mem (t := v.flush) _ v_mem v.flush_frame.2.2.2.2.2.1)
    exact (before.symm.trans banks).trans after

/-- What an event of the calendar in its steps comes to, against the same at once. -/
def BoundaryIsMade (s : State) (i j : Instr) : Prop :=
  ∃ t u, exec i s = .next t ∧ exec j s = .next u
    ∧ (t.inStore ≠ none → ∃ v, exec .updateRecordEmpty t = .next v ∧ v = { u with mem := v.mem, generation := v.generation }
        ∧ UnchangedOutside [(0x00, 2)] u v)
    ∧ (t.inStore = none → t = u)

theorem boundaryIsMade_of_same {s t : State} {i j : Instr} (first : exec i s = .next t) (second : exec j s = .next t)
    (idle : t.inStore = none) : BoundaryIsMade s i j :=
  ⟨t, t, first, second, fun busy => absurd idle busy, fun _ => rfl⟩

/-- An update in its steps, with nothing held behind it, completed. -/
theorem State.updateRecordEmpty_unheld {s : State} {work : Work} {phase : Phase} {values : NewValues} (busy : s.inStore = some work)
    (record : s.store.record = .inSteps phase values) (other : work.ofStart = false) (held : s.held = []) (unheld : s.heldReset = none) :
    s.updateRecordEmpty = (s.place values).after work := by
  obtain ⟨-, -, -, -, -, -, -, reset, idle, held', -⟩ := State.after_sameOutside (s.place values) other
  have idle : ((s.place values).after work).inStore = none := idle
  have held' : ((s.place values).after work).held = [] := held'.trans held
  have reset : ((s.place values).after work).heldReset = none := reset.trans unheld
  rw [State.updateRecordEmpty_inSteps busy record]
  generalize (s.place values).after work = u at *
  rw [if_neg (by simp [State.busy, idle]), held']
  simp only [State.takeAllHeld, State.takeHeldReset, reset]
  rw [← held', ← reset]

/-- The rewrite that a switch in its steps makes when it begins shows the calendar alone. -/
theorem flush_calendar_mem {s : State} (started : s.part ≠ .start) (marks : s.dirty = { Groups.none with calendar := true }) :
    s.flush.mem = (s.writeFields (calendarFields s ++ [⟨0x00, 2, nextGeneration (nextGeneration s.generation)⟩])).mem := by
  rw [flush_mem (by rw [marks]; decide) started]
  unfold dirtyFields
  rw [marks]
  simp [Groups.none]

/-- A due switch in its steps. -/
theorem switch_in_steps {s : State} {values : Items} (phase : Phase) (supply : s.supply = true) (started : s.part ≠ .start)
    (marks : s.dirty = { Groups.none with calendar := true }) (held : s.held = []) (unheld : s.heldReset = none) :
    ∃ v, exec .updateRecordEmpty (s.beginUpdate .bankSwitch values phase).flush = .next v
      ∧ v = { (s.makeUpdate .bankSwitch values).afterSwitch.flush with mem := v.mem, generation := v.generation }
      ∧ UnchangedOutside [(0x00, 2)] (s.makeUpdate .bankSwitch values).afterSwitch.flush v := by
  have begun := flush_eq (s.beginUpdate .bankSwitch values phase)
  have shown := flush_calendar_mem (s := s.beginUpdate .bankSwitch values phase) started marks
  generalize (s.beginUpdate .bankSwitch values phase).flush = t at begun shown
  have supply' : t.supply = true := (congrArg State.supply begun).trans supply
  have busy : t.inStore = some .bankSwitch := congrArg State.inStore begun
  have record : t.store.record = .inSteps phase (values.newValues Work.bankSwitch.setsLatch) :=
    congrArg (fun t : State => t.store.record) begun
  have ends := State.updateRecordEmpty_unheld busy record rfl ((congrArg State.held begun).trans held)
    ((congrArg State.heldReset begun).trans unheld)
  have run : exec .updateRecordEmpty t = .next (t.place (values.newValues Work.bankSwitch.setsLatch)).afterSwitch.flush := by
    rw [exec_effect supply']
    exact congrArg (fun u : State => Host.Outcome.next u.flush) ends
  refine ⟨_, run, flush_twice (g := nextGeneration (nextGeneration s.generation)) started ?_ ?_ shown⟩
  · show { s.dirty with banks := true } = _
    rw [marks]
  · generalize t.mem = m, t.generation = g at begun
    rw [begun]
    rfl

theorem State.atMinute_sameOutside (s : State) : SameOutside s s.atMinute := by
  rw [State.atMinute_eq]
  exact ⟨rfl, rfl, rfl, rfl, rfl, rfl, rfl, rfl, rfl, rfl, rfl, rfl, rfl⟩

/-- A minute boundary. -/
theorem inSteps_minute {s : State} (phase : Phase) (ready : s.Ready) (held : s.held = []) (unheld : s.heldReset = none) :
    BoundaryIsMade s (.minuteBoundary (.inSteps phase)) (.minuteBoundary .made) := by
  have ⟨supply, idle, clean⟩ := ready
  have run : ∀ pace, exec (.minuteBoundary pace) s = .next (s.minuteBoundary pace).flush := fun _ => rfl
  have settled : ∀ t : State, (∀ pace, s.minuteBoundary pace = t) → t.inStore = none →
      BoundaryIsMade s (.minuteBoundary (.inSteps phase)) (.minuteBoundary .made) := by
    intro t comes still
    refine boundaryIsMade_of_same (t := t.flush) ?_ ?_ ((State.alike_flush t).inStore.trans still)
    · rw [run, comes]
    · rw [run, comes]
  by_cases running : s.calendar.running = true
  · by_cases started : s.part = .start
    · refine settled { s with calendar := s.calendar.nextMinute } (fun pace => ?_) idle
      unfold State.minuteBoundary
      rw [if_pos running]
      exact if_neg fun shown => shown.2 started
    · obtain ⟨-, -, -, -, -, -, -, unheld', idle', held', -⟩ := s.atMinute_sameOutside
      have eq := s.atMinute_eq
      have counts : ∀ pace, s.minuteBoundary pace = s.atMinute.switchPlan.carryOut pace := by
        intro pace
        unfold State.minuteBoundary
        rw [if_pos running]
        refine (if_pos ⟨supply, started⟩).trans ?_
        exact State.takeEvent_idle (idle'.trans idle) _ _ _
      cases due : s.atMinute.switchDue with
      | false =>
        refine settled s.atMinute (fun pace => (counts pace).trans ?_) (idle'.trans idle)
        unfold State.switchPlan
        rw [due]
        rfl
      | true =>
        have plan : s.atMinute.switchPlan = .update .bankSwitch s.atMinute.items.switchBanks s.atMinute := by
          unfold State.switchPlan
          rw [due]
          rfl
        refine ⟨(s.atMinute.beginUpdate .bankSwitch s.atMinute.items.switchBanks phase).flush,
          (s.atMinute.makeUpdate .bankSwitch s.atMinute.items.switchBanks).afterSwitch.flush, (run (.inSteps phase)).trans ?_,
          (run .made).trans ?_, fun _ => ?_, fun still => ?_⟩
        · rw [counts, plan]
          rfl
        · rw [counts, plan]
          rfl
        · refine switch_in_steps phase ?_ ?_ ?_ (held'.trans held) (unheld'.trans unheld)
          · exact (congrArg State.supply eq).trans supply
          · exact fun start => started ((congrArg State.part eq).symm.trans start)
          · refine (congrArg State.dirty eq).trans ?_
            show { s.dirty with calendar := true } = _
            rw [clean]
        · rw [(State.alike_flush _).inStore] at still
          cases still
  · exact settled s (fun pace => if_neg running) idle

/-- The end of a second. -/
theorem inSteps_second {s : State} (phase : Phase) (ready : s.Ready) (held : s.held = []) (unheld : s.heldReset = none) :
    BoundaryIsMade s (.calendarSecond (.inSteps phase)) (.calendarSecond .made) := by
  have run : ∀ pace, exec (.calendarSecond pace) s = .next (s.calendarSecond pace).flush := fun _ => rfl
  have settled : ∀ t : State, (∀ pace, s.calendarSecond pace = t) → t.inStore = none →
      BoundaryIsMade s (.calendarSecond (.inSteps phase)) (.calendarSecond .made) := by
    intro t comes still
    refine boundaryIsMade_of_same (t := t.flush) ?_ ?_ ((State.alike_flush t).inStore.trans still)
    · rw [run, comes]
    · rw [run, comes]
  by_cases running : s.calendar.running = true
  · by_cases below : s.calendar.second < 59
    · refine settled { s with calendar := { s.calendar with second := s.calendar.second + 1, cycles := 0 } } (fun pace => ?_) ready.2.1
      unfold State.calendarSecond
      rw [if_pos running, if_pos below]
    · have minute : ∀ pace, s.calendarSecond pace = s.minuteBoundary pace := by
        intro pace
        unfold State.calendarSecond
        rw [if_pos running, if_neg below]
      obtain ⟨t, u, first, second, rest⟩ := inSteps_minute phase ready held unheld
      refine ⟨t, u, Eq.trans ?_ first, Eq.trans ?_ second, rest⟩
      · rw [run, minute]
        rfl
      · rw [run, minute]
        rfl
  · exact settled s (fun pace => if_neg running) ready.2.1

end Sys2Proof.Machine
end

section
/-! SUPPORT. O11: START with its updates in their steps comes to the same as START in one (R133, R135). -/

namespace Sys2Proof.Machine

/-! ### START's steps do not look at the marks of the status block -/

/-- A state with other groups marked for the next rewrite. -/
def State.marked (s : State) (dirty : Groups) : State := { s with dirty := dirty }

/-- In START a rewrite only clears the marks. -/
theorem flush_start {s : State} (start : s.part = .start) : s.flush = s.marked Groups.none := by
  by_cases clean : s.dirty = Groups.none
  · rw [flush_clean clean, State.marked, ← clean]
  · unfold State.flush
    rw [if_neg clean, if_pos start]
    rfl

section
variable (s : State) (d : Groups)

theorem inspect_marked : (s.marked d).inspect = s.inspect.marked d := by
  have days : (s.marked d).daysSince = s.daysSince := rfl
  have items : (s.marked d).items = s.items := rfl
  unfold State.inspect
  rw [days, items]
  split
  · have either : ∀ (raised : Bool) (notice : Notice),
        (if raised then { s.marked d with notice := notice }.raise .inspectionDue else { s.marked d with notice := notice })
          = (if raised then { s with notice := notice }.raise .inspectionDue else { s with notice := notice } : State).marked d := by
      intro raised notice
      cases raised <;> rfl
    exact either _ _
  · rfl

theorem endStart_marked : (s.marked d).endStart = s.endStart := rfl

theorem startFrom7_marked : (s.marked d).startFrom7 = s.startFrom7 := by
  unfold State.startFrom7
  rw [inspect_marked, endStart_marked]

variable {s}

theorem afterClear_unheld (unheld : s.heldReset = none) : s.afterClear = s.faultFound.endStart := by
  unfold State.afterClear State.goOn
  exact if_neg (by simp [State.faultFound, State.raise, unheld])

theorem afterStartSwitch_unheld (unheld : s.heldReset = none) : s.afterStartSwitch = s.afterSwitch.startFrom7 := by
  unfold State.afterStartSwitch State.goOn
  exact if_neg (by simp [State.afterSwitch, State.raise, State.touchBanks, unheld])

theorem afterClear_marked (unheld : s.heldReset = none) : (s.marked d).afterClear = s.afterClear := by
  rw [afterClear_unheld unheld, afterClear_unheld (s := s.marked d) unheld]
  exact endStart_marked s.faultFound d

theorem afterStartSwitch_marked (unheld : s.heldReset = none) : (s.marked d).afterStartSwitch = s.afterStartSwitch := by
  rw [afterStartSwitch_unheld unheld, afterStartSwitch_unheld (s := s.marked d) unheld]
  exact startFrom7_marked s.afterSwitch { d with banks := true }

theorem startFrom6_marked (start : s.part = .start) (unheld : s.heldReset = none) (stop : Option Phase) :
    ((s.marked d).startFrom6 stop).flush = (s.startFrom6 stop).flush := by
  have due : (s.marked d).switchDue = s.switchDue := rfl
  unfold State.startFrom6
  rw [due]
  split
  · cases stop with
    | none =>
      exact congrArg State.flush (afterStartSwitch_marked (s := s.makeUpdate .startSwitch s.items.switchBanks) d unheld)
    | some phase =>
      have first := flush_start (s := (s.marked d).beginUpdate .startSwitch s.items.switchBanks phase) start
      have second := flush_start (s := s.beginUpdate .startSwitch s.items.switchBanks phase) start
      exact first.trans second.symm
  · rw [startFrom7_marked]

end

/-! ### Where START's steps leave no update begun -/

theorem endStart_idle (s : State) : s.endStart.inStore = s.inStore := by
  have written : s.writeWholeStatus.inStore = s.inStore := rfl
  unfold State.endStart
  generalize s.writeWholeStatus = u at written ⊢
  rw [← written]
  dsimp only
  split <;> rfl

theorem startFrom7_idle (s : State) : s.startFrom7.inStore = s.inStore :=
  (endStart_idle s.inspect).trans s.inspect_sameOutside.inStore

/-! ### An update of START in its steps, then completed -/

theorem startUpdate_ends {s : State} {work : Work} {values : Items} (phase : Phase) (ofStart : work.ofStart = true) (supply : s.supply = true)
    (start : s.part = .start) (held : s.held = []) (unheld : s.heldReset = none) :
    exec .updateRecordEmpty (s.beginUpdate work values phase).flush = .next (((s.makeUpdate work values).marked Groups.none).after work).flush := by
  have begun := flush_start (s := s.beginUpdate work values phase) start
  generalize (s.beginUpdate work values phase).flush = t at begun
  have busy : t.inStore = some work := congrArg State.inStore begun
  have record : t.store.record = .inSteps phase (values.newValues work.setsLatch) := congrArg (fun t : State => t.store.record) begun
  have placed : t.place (values.newValues work.setsLatch) = (s.makeUpdate work values).marked Groups.none := by
    rw [begun]
    rfl
  have ends := State.updateRecordEmpty_inSteps busy record
  rw [placed] at ends
  obtain ⟨-, reset⟩ := keepsReset_after ((s.makeUpdate work values).marked Groups.none) ofStart
  have reset := reset.trans (show ((s.makeUpdate work values).marked Groups.none).heldReset = none from unheld)
  have quiet : (((s.makeUpdate work values).marked Groups.none).after work).held = [] := by
    have blind := after_start_holding ((s.makeUpdate work values).marked Groups.none) [] ofStart
    have same : ((s.makeUpdate work values).marked Groups.none).holding [] = (s.makeUpdate work values).marked Groups.none := by
      show { (s.makeUpdate work values).marked Groups.none with held := [] } = _
      rw [← held]
      rfl
    rw [same] at blind
    rw [blind]
    rfl
  generalize ((s.makeUpdate work values).marked Groups.none).after work = u at *
  have comes : t.updateRecordEmpty = u := by
    rw [ends]
    split
    · rfl
    · rw [quiet]
      simp only [State.takeAllHeld, State.takeHeldReset, reset]
      rw [← quiet, ← reset]
  have supply' : t.supply = true := (congrArg State.supply begun).trans supply
  rw [exec_effect supply']
  exact congrArg (fun u : State => Host.Outcome.next u.flush) comes

/-- What a stretch of START at a pace comes to, against the same at once. -/
def StartIsMade (a b : State) : Prop :=
  (a.flush.inStore = none → a.flush = b.flush) ∧ (a.flush.inStore ≠ none → exec .updateRecordEmpty a.flush = .next b.flush)

/-- Step 6, its switch in its steps or at once. -/
theorem startFrom6_isMade {s : State} (stop : Option Phase) (supply : s.supply = true) (start : s.part = .start) (idle : s.inStore = none)
    (held : s.held = []) (unheld : s.heldReset = none) : StartIsMade (s.startFrom6 stop) (s.startFrom6 none) := by
  have same : ∀ a : State, a.inStore = none → StartIsMade a a :=
    fun a still => ⟨fun _ => rfl, fun busy => absurd (a.alike_flush.inStore.trans still) busy⟩
  unfold State.startFrom6
  split
  · cases stop with
    | none =>
      refine same _ ?_
      rw [afterStartSwitch_unheld (s := s.makeUpdate .startSwitch s.items.switchBanks) unheld]
      exact startFrom7_idle _
    | some phase =>
      refine ⟨fun still => ?_, fun _ => ?_⟩
      · rw [(State.alike_flush _).inStore] at still
        cases still
      · refine (startUpdate_ends phase rfl supply start held unheld).trans ?_
        exact congrArg (fun u : State => Host.Outcome.next u.flush)
          (afterStartSwitch_marked (s := s.makeUpdate .startSwitch s.items.switchBanks) Groups.none unheld)
  · exact same _ ((startFrom7_idle s).trans idle)

/-- One update in its steps and then, it may be, another. -/
def StartIsMadeInTwo (a b : State) : Prop :=
  (a.flush.inStore = none → a.flush = b.flush)
    ∧ (a.flush.inStore ≠ none → ∃ v, exec .updateRecordEmpty a.flush = .next v ∧ (v.inStore = none → v = b.flush)
        ∧ (v.inStore ≠ none → exec .updateRecordEmpty v = .next b.flush))

theorem StartIsMade.inTwo {a b : State} (made : StartIsMade a b) (idle : b.inStore = none) : StartIsMadeInTwo a b :=
  ⟨made.1, fun busy => ⟨b.flush, made.2 busy, fun _ => rfl, fun still => absurd (b.alike_flush.inStore.trans idle) still⟩⟩

theorem startFrom6_none_idle {s : State} (idle : s.inStore = none) (unheld : s.heldReset = none) : (s.startFrom6 none).inStore = none := by
  unfold State.startFrom6
  split
  · rw [afterStartSwitch_unheld (s := s.makeUpdate .startSwitch s.items.switchBanks) unheld]
    exact startFrom7_idle _
  · exact (startFrom7_idle s).trans idle

/-- Steps 5 to 8. -/
theorem startFrom5_isMade {s : State} (pace : StartPace) (supply : s.supply = true) (start : s.part = .start) (idle : s.inStore = none)
    (held : s.held = []) (unheld : s.heldReset = none) : StartIsMadeInTwo (s.startFrom5 pace) (s.startFrom5 .made) := by
  unfold State.startFrom5
  split
  · exact (startFrom6_isMade _ supply start idle held unheld).inTwo (startFrom6_none_idle idle unheld)
  · have from6 : ∀ stop, StartIsMade ((s.makeUpdate (.startConversion none) s.items.convertMarks).startFrom6 stop)
        ((s.makeUpdate (.startConversion none) s.items.convertMarks).startFrom6 none) :=
      fun stop => startFrom6_isMade (s := s.makeUpdate (.startConversion none) s.items.convertMarks) stop supply start rfl held unheld
    cases conversionStop pace with
    | none => exact (from6 _).inTwo (startFrom6_none_idle rfl unheld)
    | some phase =>
      refine ⟨fun still => ?_, fun _ => ⟨_, startUpdate_ends phase rfl supply start held unheld, ?_⟩⟩
      · rw [(State.alike_flush _).inStore] at still
        cases still
      · have goes : ((s.makeUpdate (.startConversion (switchStop pace)) s.items.convertMarks).marked Groups.none).after
            (.startConversion (switchStop pace))
              = ((s.makeUpdate (.startConversion none) s.items.convertMarks).marked Groups.none).startFrom6 (switchStop pace) := by
          show State.goOn _ (fun s => s.startFrom6 (switchStop pace)) = _
          unfold State.goOn
          exact if_neg (by simp [State.marked, State.makeUpdate, State.place, unheld])
        rw [goes, startFrom6_marked (s := s.makeUpdate (.startConversion none) s.items.convertMarks) Groups.none start unheld]
        exact from6 _

theorem warnInStart_sameOutside (s : State) :
    s.warnInStart.supply = s.supply ∧ s.warnInStart.part = s.part ∧ s.warnInStart.inStore = s.inStore ∧ s.warnInStart.held = s.held
      ∧ s.warnInStart.heldReset = s.heldReset := by
  unfold State.warnInStart
  split <;> exact ⟨rfl, rfl, rfl, rfl, rfl⟩

theorem settleRecord_waits {s : State} (idle : s.inStore = none) :
    s.settleRecord.supply = s.supply ∧ s.settleRecord.part = s.part ∧ s.settleRecord.inStore = none ∧ s.settleRecord.held = s.held
      ∧ s.settleRecord.heldReset = s.heldReset := by
  unfold State.settleRecord
  split
  · exact ⟨rfl, rfl, idle, rfl, rfl⟩
  · exact ⟨rfl, rfl, idle, rfl, rfl⟩
  · split <;> exact ⟨rfl, rfl, rfl, rfl, rfl⟩

/-- START. -/
theorem start_isMade {s : State} (pace : StartPace) (ready : s.Ready) (held : s.held = []) (unheld : s.heldReset = none) :
    StartIsMadeInTwo (s.startSteps pace) (s.startSteps .made) := by
  have ⟨supply, idle, clean⟩ := ready
  by_cases runs : s.part = .start ∧ s.busy = false
  · obtain ⟨supply₁, part₁, idle₁, held₁, unheld₁⟩ := warnInStart_sameOutside s
    obtain ⟨supply₂, part₂, idle₂, held₂, unheld₂⟩ := settleRecord_waits (idle₁.trans idle)
    have supply := supply₂.trans (supply₁.trans supply)
    have start := part₂.trans (part₁.trans runs.1)
    have held := held₂.trans (held₁.trans held)
    have unheld := unheld₂.trans (unheld₁.trans unheld)
    unfold State.startSteps
    rw [if_pos runs, if_pos runs]
    generalize s.warnInStart.settleRecord = x at *
    dsimp only
    split
    · have cleared : (x.makeUpdate .startClear Items.cleared).afterClear.inStore = none := by
        rw [afterClear_unheld (s := x.makeUpdate .startClear Items.cleared) unheld]
        exact endStart_idle _
      cases clearStop pace with
      | none => exact ⟨fun _ => rfl, fun busy => absurd ((State.alike_flush _).inStore.trans cleared) busy⟩
      | some phase =>
        refine ⟨fun still => ?_, fun _ => ⟨_, startUpdate_ends phase rfl supply start held unheld, ?_⟩⟩
        · rw [(State.alike_flush _).inStore] at still
          cases still
        · have same := afterClear_marked (s := x.makeUpdate .startClear Items.cleared) Groups.none unheld
          refine ⟨fun _ => congrArg State.flush same, fun busy => absurd ?_ busy⟩
          rw [(State.alike_flush _).inStore]
          exact (congrArg State.inStore same).trans cleared
    · exact startFrom5_isMade pace supply start idle₂ held unheld
  · unfold State.startSteps
    rw [if_neg runs, if_neg runs]
    exact ⟨fun _ => rfl, fun busy => absurd (s.alike_flush.inStore.trans idle) busy⟩

/-! ### The statement -/

/-- Settles O11. -/
theorem updateInStepsComesToTheSame : Obligations.UpdateInStepsComesToTheSame := by
  refine ⟨fun phase s f event ready held unheld => ?_, fun phase s f event ready held unheld => ?_, fun pace s ready held unheld => ?_,
    fun s f command takes begun => ?_⟩
  · have command : ∀ {i j : Instr}, SameCommand i j → paceOf i = .inSteps phase → paceOf j = .made → beginsLater i = false →
        beginsLater j = false → InStepsIsMade s i j :=
      fun same first second now_i now_j => inSteps_command same first second now_i now_j ready held unheld
    rcases event with ⟨lane, edge, rfl⟩ | ⟨x, rfl⟩ | ⟨x, rfl⟩ | ⟨a, b, rfl⟩ | ⟨a, rfl⟩ | rfl | ⟨a, rfl⟩ | rfl | rfl | ⟨lane, frame, rfl⟩
      | ⟨lane, rfl⟩ | ⟨day, minute, second, rfl⟩
    · exact inSteps_print lane edge phase ready held unheld
    · exact command (.inl ⟨_, _, _, rfl, rfl⟩) rfl rfl rfl rfl
    · exact command (.inr (.inl ⟨_, _, _, rfl, rfl⟩)) rfl rfl rfl rfl
    · exact command (.inr (.inr (.inl ⟨_, _, _, _, rfl, rfl⟩))) rfl rfl rfl rfl
    · exact command (.inr (.inr (.inr (.inl ⟨_, _, _, rfl, rfl⟩)))) rfl rfl rfl rfl
    · exact command (.inr (.inr (.inr (.inr (.inl ⟨_, _, rfl, rfl⟩))))) rfl rfl rfl rfl
    · exact command (.inr (.inr (.inr (.inr (.inr (.inl ⟨_, _, _, rfl, rfl⟩)))))) rfl rfl rfl rfl
    · exact inSteps_load phase ready held unheld
    · exact command (.inr (.inr (.inr (.inr (.inr (.inr (.inr ⟨_, _, rfl, rfl⟩))))))) rfl rfl rfl rfl
    · exact inSteps_answer lane frame phase ready held unheld
    · exact inSteps_expiry lane phase ready held unheld
    · exact command (.inr (.inr (.inr (.inr (.inr (.inr (.inl ⟨_, _, _, _, _, rfl, rfl⟩))))))) rfl rfl rfl rfl
  · rcases event with rfl | rfl
    · exact inSteps_second phase ready held unheld
    · exact inSteps_minute phase ready held unheld
  · exact ⟨_, _, exec_effect ready.1, exec_effect ready.1, start_isMade pace ready held unheld⟩
  · rcases command with ⟨x, rfl⟩ | ⟨x, rfl⟩ | ⟨a, b, rfl⟩ | ⟨a, rfl⟩ | rfl | ⟨a, rfl⟩
    · exact later_command (.inl ⟨_, rfl⟩) (.inl ⟨_, _, _, rfl, rfl⟩) rfl rfl (fun _ => nofun) takes begun
    · exact later_command (.inr (.inl ⟨_, rfl⟩)) (.inr (.inl ⟨_, _, _, rfl, rfl⟩)) rfl rfl (fun _ => nofun) takes begun
    · exact later_command (.inr (.inr (.inl ⟨_, _, rfl⟩))) (.inr (.inr (.inl ⟨_, _, _, _, rfl, rfl⟩))) rfl rfl (fun _ => nofun) takes begun
    · exact later_command (.inr (.inr (.inr (.inl ⟨_, rfl⟩)))) (.inr (.inr (.inr (.inl ⟨_, _, _, rfl, rfl⟩)))) rfl rfl (fun _ => nofun) takes
        begun
    · exact later_command (.inr (.inr (.inr (.inr (.inl rfl))))) (.inr (.inr (.inr (.inr (.inl ⟨_, _, rfl, rfl⟩))))) rfl rfl (fun _ => nofun)
        takes begun
    · exact later_command (.inr (.inr (.inr (.inr (.inr ⟨_, rfl⟩))))) (.inr (.inr (.inr (.inr (.inr (.inl ⟨_, _, _, rfl, rfl⟩)))))) rfl rfl
        (fun _ => nofun) takes begun

end Sys2Proof.Machine
end

section
/-! SUPPORT. O13, O14: where START ends (R7, R135, R177). -/

namespace Sys2Proof.Machine

/-! ### The end of START -/

/-- The ranges that START's end writes: the status block, and the status of a PARK that was held. -/
def startRanges (parks : Prop) [Decidable parks] : List (Nat × Nat) := statusBlock :: if parks then [(statusAddress, 2)] else []

/-- The state that START's end leaves, but for exchange memory and the generation word. -/
def State.started (s : State) (parks : Prop) [Decidable parks] : State :=
  { s with
    part := if parks then .parked else if s.items.licence.isSome then .setup else .locked
    notices := if parks then s.notices.raise .commandDone else s.notices, command := none, dirty := Groups.none }

theorem unchangedOutside_writeWholeStatus (s : State) : UnchangedOutside [statusBlock] s s.writeWholeStatus := by
  rw [writeWholeStatus_eq]
  refine UnchangedOutside.trans ((unchangedOutside_writeFields s _).mono fun r hr => ?_) (.of_mem _ rfl rfl)
  obtain ⟨f, hf, rfl⟩ := List.mem_map.mp hr
  refine ⟨statusBlock, List.mem_singleton_self _, Nat.zero_le _, ?_⟩
  obtain ⟨below, above⟩ := laidOut_wholeGroups s
  rcases List.mem_append.mp hf with hf | hf
  · rcases List.mem_append.mp hf with hf | hf
    · simp only [List.mem_cons, List.not_mem_nil, or_false] at hf
      rcases hf with rfl | rfl <;> decide
    · rcases List.mem_append.mp hf with hf | hf
      · exact (below.within hf).2.trans (by decide)
      · exact (above.within hf).2.trans (by decide)
  · rw [List.mem_singleton.mp hf]
    decide

/-- START's end in one: with a PARK held, or with none. -/
theorem endStart_cases {s : State} (command : s.command = none ∨ ∃ pace, s.command = some (.park pace)) :
    s.endStart = (if s.command ≠ none then (s.writeWholeStatus.complete .done).setPart .parked
      else s.writeWholeStatus.setPart (if s.items.licence.isSome then .setup else .locked)) := by
  have items : s.writeWholeStatus.items = s.items := s.writeWholeStatus_part.2
  have kept : s.writeWholeStatus.command = s.command := rfl
  unfold State.endStart
  rw [← items]
  generalize s.writeWholeStatus = u at kept ⊢
  dsimp only
  rw [kept]
  rcases command with none_ | ⟨pace, parks⟩
  · rw [none_]
    rfl
  · rw [parks]
    rfl

theorem writeWholeStatus_rest (s : State) : ∃ m : Memory, s.writeWholeStatus = { s with mem := m, generation := 2, dirty := Groups.none } :=
  ⟨_, rfl⟩

section
variable {s : State} (command : s.command = none ∨ ∃ pace, s.command = some (.park pace))
include command

theorem endStart_marks : s.endStart.dirty ≠ Groups.none ∧ s.endStart.part ≠ .start ∧ s.endStart.generation = 2 := by
  obtain ⟨m, written⟩ := writeWholeStatus_rest s
  rw [endStart_cases command, written]
  have marks : ({ Groups.none with part := true } : Groups) ≠ Groups.none := by decide
  split
  · exact ⟨marks, nofun, rfl⟩
  · refine ⟨marks, ?_, rfl⟩
    show (if s.items.licence.isSome = true then PartState.setup else .locked) ≠ .start
    split <;> nofun

theorem flush_endStart_eq :
    s.endStart.flush = { s.started (s.command ≠ none) with mem := s.endStart.flush.mem, generation := s.endStart.flush.generation } := by
  obtain ⟨m, written⟩ := writeWholeStatus_rest s
  refine (flush_eq _).trans ?_
  generalize s.endStart.flush = t
  rw [endStart_cases command, written]
  unfold State.started
  by_cases parks : s.command ≠ none
  · rw [if_pos parks, if_pos parks, if_pos parks]
    rfl
  · rw [if_neg parks, if_neg parks, if_neg parks, ← not_not.mp parks]
    rfl

/-- The status block shows the state that START leaves. -/
theorem flush_endStart_shows : ∀ f ∈ statusFields s.endStart.flush, s.endStart.flush.Shows f :=
  s.endStart_shows.flush (endStart_marks command).2.1

theorem flush_endStart_generation : s.endStart.flush.readField 0x00 2 = 4 := by
  obtain ⟨changed, started, generation⟩ := endStart_marks command
  rw [readField_flush_generation changed started, generation]

theorem flush_endStart_status (parks : s.command ≠ none) : s.endStart.flush.readField statusAddress 2 = statusCode .done := by
  have rewritten := (unchangedOutside_flush s.endStart).readField (a := statusAddress) (width := 2) (State.alike_flush _).order (by decide)
  refine rewritten.trans ?_
  rw [endStart_cases command, if_pos parks]
  exact (completed_complete s.writeWholeStatus .done).1

theorem unchangedOutside_flush_endStart : UnchangedOutside (startRanges (s.command ≠ none)) s s.endStart.flush := by
  have block : ∀ r ∈ [statusBlock], ∃ q ∈ startRanges (s.command ≠ none), q.1 ≤ r.1 ∧ r.1 + r.2 ≤ q.1 + q.2 := by
    intro r hr
    exact ⟨r, List.mem_cons.mpr (.inl (List.mem_singleton.mp hr)), le_rfl, le_rfl⟩
  have written := (unchangedOutside_writeWholeStatus s).mono block
  refine written.trans (UnchangedOutside.trans ?_ ((unchangedOutside_flush s.endStart).mono block))
  rw [endStart_cases command]
  generalize s.writeWholeStatus = w
  split
  case isTrue parks =>
    refine UnchangedOutside.trans ?_ (.of_mem (s := w.writeStatus .done) _ rfl rfl)
    refine (unchangedOutside_writeFields w [⟨statusAddress, 2, statusCode .done⟩]).mono fun r hr => ?_
    refine ⟨r, ?_, le_rfl, le_rfl⟩
    rw [startRanges, if_pos parks]
    exact List.mem_cons_of_mem _ hr
  case isFalse => exact .of_mem _ rfl rfl

end

end Sys2Proof.Machine
end

section
/-! SUPPORT. O13, O14: the steps of START in one piece (R108, R134 to R137). -/

namespace Sys2Proof.Machine

/-! ### Step 1: the update record settled -/

/-- START's state once its first step is made, with a retained store. -/
def State.settledWith (s : State) (store : Store) : State :=
  { s with notices := if s.warnAtReset then s.notices.raise .powerWarning else s.notices, warnAtReset := false, store := store }

theorem warnInStart_eq (s : State) : s.warnInStart = s.settledWith s.store := by
  unfold State.warnInStart State.settledWith
  cases warned : s.warnAtReset with
  | true => rfl
  | false =>
    rw [if_neg Bool.false_ne_true, if_neg Bool.false_ne_true, ← warned]

/-- An EMPTY record, or a FILLING one, leaves the items as they are. -/
theorem settleRecord_kept {s : State} (record : s.store.record = .empty ∨ ∃ values, s.store.record = .inSteps .filling values) :
    s.warnInStart.settleRecord = s.settledWith { s.store with record := .empty } := by
  rw [warnInStart_eq]
  have same : (s.settledWith s.store).store = s.store := rfl
  unfold State.settleRecord
  rw [same]
  rcases record with empty | ⟨values, filling⟩
  · rw [empty]
    show s.settledWith s.store = _
    rw [← empty]
  · rw [filling]
    rfl

/-- A READY record makes its update. -/
theorem settleRecord_made {s : State} {values : NewValues} (idle : s.inStore = none) (record : s.store.record = .inSteps .ready values)
    (plain : values.setsLatch = false) :
    s.warnInStart.settleRecord = s.settledWith { items := values.items, latch := s.store.latch, check := values.check, record := .empty } := by
  rw [warnInStart_eq]
  have same : (s.settledWith s.store).store = s.store := rfl
  unfold State.settleRecord
  rw [same, record]
  dsimp only
  rw [if_neg (by simp [plain])]
  unfold State.place
  rw [plain, Bool.or_false, ← idle]
  rfl

/-! ### START's end, in the terms of the state that START began with -/

/-- What START leaves: its store, notice, calendar and causes before its end, and the part state and command as the end has them. -/
theorem endStart_leaves {s r : State} {store : Store} {notice : Notice} {notices : Notices} {calendar : Calendar}
    (rest : r = { s with warnAtReset := false, store := store, notice := notice, notices := notices, calendar := calendar })
    (command : s.command = none ∨ ∃ pace, s.command = some (.park pace)) (clean : s.dirty = Groups.none) :
    r.endStart.flush = { s with
        mem := r.endStart.flush.mem, generation := r.endStart.flush.generation, warnAtReset := false, store := store, notice := notice
        calendar := calendar, command := none
        part := if s.command ≠ none then .parked else if store.items.licence.isSome then .setup else .locked
        notices := if s.command ≠ none then notices.raise .commandDone else notices }
      ∧ (∀ f ∈ statusFields r.endStart.flush, r.endStart.flush.Shows f) ∧ r.endStart.flush.readField 0x00 2 = 4
      ∧ (s.command ≠ none → r.endStart.flush.readField statusAddress 2 = statusCode .done)
      ∧ UnchangedOutside (startRanges (s.command ≠ none)) s r.endStart.flush := by
  have kept : r.command = s.command := by rw [rest]
  have command' : r.command = none ∨ ∃ pace, r.command = some (.park pace) := by rwa [kept]
  have eq := flush_endStart_eq command'
  have shows := flush_endStart_shows command'
  have generation := flush_endStart_generation command'
  have status := flush_endStart_status command'
  have outside := unchangedOutside_flush_endStart command'
  simp only [kept] at eq status outside
  have same : UnchangedOutside (startRanges (s.command ≠ none)) s r := .of_mem _ (by rw [rest]) (by rw [rest])
  refine ⟨eq.trans ?_, shows, generation, status, same.trans outside⟩
  generalize r.endStart.flush = t
  rw [rest, clean]
  rfl

/-! ### Steps 5 to 8 on a good store -/

/-- A retained store that is whole: its latch set, its check word right and its update record EMPTY. -/
def Store.whole (x : Items) : Store := { items := x, latch := true, check := x.checkWord, record := .empty }

theorem makeUpdate_whole {s : State} {x y : Items} {work : Work} (store : s.store = .whole x) (idle : s.inStore = none) :
    s.makeUpdate work y = { s with store := .whole y } := by
  unfold State.makeUpdate State.place
  rw [store, ← idle]
  rfl

theorem convertMarks_unmarked {x : Items} (none_ : x.marksPresent = 0) : x.convertMarks = x := by
  have marks : x.marks = { a := none, b := none } := marks_of_none none_
  unfold Items.convertMarks
  rw [marks]
  show { x with marks := { a := none, b := none } } = x
  rw [← marks]

theorem startFrom5_whole {s : State} {x : Items} (store : s.store = .whole x) (idle : s.inStore = none) :
    s.startFrom5 .made = ({ s with store := .whole x.convertMarks } : State).startFrom6 none := by
  have items : s.items = x := congrArg Store.items store
  unfold State.startFrom5
  rw [items]
  split
  case isTrue none_ =>
    rw [convertMarks_unmarked none_, ← store]
    rfl
  case isFalse =>
    show (s.makeUpdate (.startConversion none) x.convertMarks).startFrom6 none = _
    rw [makeUpdate_whole store idle]

/-- The items and the causes once step 6 is made. -/
def State.switchedAtStart (s : State) (y : Items) (due : Bool) : State :=
  { s with store := .whole (if due then y.switchBanks else y), notices := if due then s.notices.raise .rateSwitch else s.notices }

theorem startFrom6_whole {s : State} {y : Items} (store : s.store = .whole y) (idle : s.inStore = none) (unheld : s.heldReset = none) :
    s.startFrom6 none = (s.switchedAtStart y s.switchDue).startFrom7 := by
  have items : s.items = y := congrArg Store.items store
  unfold State.startFrom6
  cases due : s.switchDue with
  | true =>
    rw [if_pos rfl]
    show (s.makeUpdate .startSwitch s.items.switchBanks).afterStartSwitch = _
    rw [afterStartSwitch_unheld (s := s.makeUpdate .startSwitch s.items.switchBanks) unheld, makeUpdate_whole store idle, items]
    exact startFrom7_marked (s.switchedAtStart y true) { s.dirty with banks := true }
  | false =>
    rw [if_neg Bool.false_ne_true]
    unfold State.switchedAtStart
    simp only [Bool.false_eq_true, if_false, ← store]

/-- START at once, on a store that is good once its record is settled. -/
theorem startSteps_good {s : State} {x : Items} (start : s.part = .start) (idle : s.inStore = none) (unheld : s.heldReset = none)
    (settled : s.warnInStart.settleRecord = s.settledWith (.whole x)) :
    s.startSteps .made
      = (State.switchedAtStart (s.settledWith (.whole x.convertMarks)) x.convertMarks
          (s.settledWith (.whole x.convertMarks)).switchDue).inspect.endStart := by
  have good : (s.settledWith (.whole x)).storeFault = false := by
    simp [State.storeFault, State.settledWith, Store.whole, State.items]
  unfold State.startSteps
  rw [if_pos ⟨start, by simp [State.busy, idle]⟩, settled]
  dsimp only
  rw [good, if_neg Bool.false_ne_true, startFrom5_whole (s := s.settledWith (.whole x)) rfl idle]
  exact startFrom6_whole (s := s.settledWith (.whole x.convertMarks)) rfl idle unheld

end Sys2Proof.Machine
end

section
/-! SUPPORT. START on a good store (R108, R129, R134, R135, R137, R176, R177). -/

namespace Sys2Proof.Machine

/-- START's state before its last step, on a good store, with its switch made or not due. -/
def State.beforeEnd (s : State) (x : Items) (due : Bool) : State :=
  State.switchedAtStart (s.settledWith (.whole x.convertMarks)) x.convertMarks due

/-- The items that START leaves. -/
def Items.started (x : Items) (due : Bool) : Items := if due then x.convertMarks.switchBanks else x.convertMarks

theorem switchDue_started (s : State) (x : Items) :
    (s.settledWith (.whole x.convertMarks)).switchDue = true
      ↔ s.calendar.valid = true ∧ (x.banks.get x.activeBank.other).role = .pending
        ∧ ((x.banks.get x.activeBank.other).effectiveDay < s.calendar.day
          ∨ (x.banks.get x.activeBank.other).effectiveDay = s.calendar.day
            ∧ (x.banks.get x.activeBank.other).effectiveMinute ≤ s.calendar.minute) := by
  have same : (s.settledWith (.whole x.convertMarks)).switchDue
      = (s.calendar.valid && decide ((x.banks.get x.activeBank.other).role = .pending)
          && s.calendar.reached (x.banks.get x.activeBank.other).effectiveDay (x.banks.get x.activeBank.other).effectiveMinute) := rfl
  rw [same]
  simp [Calendar.reached, and_assoc]

/-- Step 5 makes an UNCONFIRMED spoiled entry of each mark (R137). -/
theorem mem_convertMarks (x : Items) (entry : SpoiledEntry) :
    entry ∈ x.convertMarks.spoiled ↔ entry ∈ x.spoiled ∨ ∃ lane mark, x.marks.get lane = some mark ∧ entry = mark.unconfirmed lane := by
  have placed : ∀ (lane : Lane) (mark : Option Mark) (list : List SpoiledEntry),
      entry ∈ placeMark lane mark list ↔ entry ∈ list ∨ ∃ m, mark = some m ∧ entry = m.unconfirmed lane := by
    intro lane mark list
    cases mark with
    | none => simp [placeMark]
    | some m =>
      rw [placeMark, mem_placeSpoiled]
      simp [or_comm]
  have both : entry ∈ x.convertMarks.spoiled ↔ entry ∈ placeMark .b x.marks.b (placeMark .a x.marks.a x.spoiled) := Iff.rfl
  rw [both, placed, placed]
  constructor
  · rintro ((listed | ⟨m, at_, is⟩) | ⟨m, at_, is⟩)
    · exact .inl listed
    · exact .inr ⟨.a, m, at_, is⟩
    · exact .inr ⟨.b, m, at_, is⟩
  · rintro (listed | ⟨lane, m, at_, is⟩)
    · exact .inl (.inl listed)
    · cases lane with
      | a => exact .inl (.inr ⟨m, at_, is⟩)
      | b => exact .inr ⟨m, at_, is⟩

section
variable (s : State) (x : Items) (due : Bool)

/-- What the evaluation of the inspection notice leaves as it was. -/
theorem beforeEnd_inspect_eq :
    (s.beforeEnd x due).inspect = { s with
      warnAtReset := false, store := .whole (x.started due), notice := (s.beforeEnd x due).inspect.notice
      notices := (s.beforeEnd x due).inspect.notices } := by
  rw [State.inspect_eq]
  rfl

theorem beforeEnd_flag {c : Cause} (other : c ≠ .inspectionDue) :
    (s.beforeEnd x due).inspect.notices.flag c
      = (s.notices.flag c || (decide (c = .powerWarning) && s.warnAtReset) || (decide (c = .rateSwitch) && due)) := by
  rw [State.inspect_flag_other _ other]
  have notices : (s.beforeEnd x due).notices
      = if due then (if s.warnAtReset then s.notices.raise .powerWarning else s.notices).raise .rateSwitch
        else if s.warnAtReset then s.notices.raise .powerWarning else s.notices := rfl
  rw [notices]
  cases due <;> cases s.warnAtReset <;> simp [Notices.flag_raise, eq_comm]

theorem beforeEnd_flag_inspection : (s.beforeEnd x due).notices.flag .inspectionDue = s.notices.flag .inspectionDue := by
  have notices : (s.beforeEnd x due).notices
      = if due then (if s.warnAtReset then s.notices.raise .powerWarning else s.notices).raise .rateSwitch
        else if s.warnAtReset then s.notices.raise .powerWarning else s.notices := rfl
  rw [notices]
  cases due <;> cases s.warnAtReset <;> simp [Notices.flag_raise]

end

/-- The store that the first step settles, when it is good. -/
theorem settled_good {s : State} {x : Items} {check : Word} {latch : Bool} (idle : s.inStore = none)
    (record : s.store.record = .empty ∧ x = s.items ∧ check = s.store.check ∧ latch = s.store.latch
      ∨ (∃ values, s.store.record = .inSteps .filling values) ∧ x = s.items ∧ check = s.store.check ∧ latch = s.store.latch
      ∨ ∃ values, s.store.record = .inSteps .ready values ∧ values.setsLatch = false ∧ x = values.items
          ∧ check = values.check ∧ latch = s.store.latch)
    (good : latch = true) (agrees : check = x.checkWord) : s.warnInStart.settleRecord = s.settledWith (.whole x) := by
  have kept : x = s.items → check = s.store.check → latch = s.store.latch → { s.store with record := .empty } = Store.whole x := by
    rintro rfl rfl rfl
    rw [Store.whole, ← agrees, ← good]
    rfl
  rcases record with ⟨empty, items, word, set⟩ | ⟨filling, items, word, set⟩ | ⟨values, ready, plain, items, word, set⟩
  · rw [settleRecord_kept (.inl empty), kept items word set]
  · rw [settleRecord_kept (.inr filling), kept items word set]
  · rw [settleRecord_made idle ready plain, ← items, ← word, ← set, good, agrees]
    rfl

/-- Settles O13. -/
theorem startOnAGoodStore : Obligations.StartOnAGoodStore := by
  intro s x check latch ready start unheld command record good agrees parks other due
  have ⟨supply, idle, clean⟩ := ready
  have steps := startSteps_good start idle unheld (settled_good idle record good agrees)
  have isDue : (s.settledWith (.whole x.convertMarks)).switchDue = true ↔ due := switchDue_started s x
  generalize (s.settledWith (.whole x.convertMarks)).switchDue = d at steps isDue
  have run : exec (.start .made) s = .next (s.beforeEnd x d).inspect.endStart.flush := by
    rw [exec_effect supply]
    exact congrArg (fun t : State => Host.Outcome.next t.flush) steps
  obtain ⟨eq, shows, generation, status, outside⟩ := endStart_leaves (beforeEnd_inspect_eq s x d) command clean
  have flags := fun (c : Cause) => beforeEnd_flag s x d (c := c)
  have evaluated := noticeEvaluated_of_inspect (s := s) (u := s.beforeEnd x d) (t := (s.beforeEnd x d).inspect.endStart.flush) rfl
    (beforeEnd_flag_inspection s x d)
  generalize (s.beforeEnd x d).inspect.endStart.flush = t at *
  have voucherDay : (s.beforeEnd x d).items.voucherDay = x.voucherDay := by cases d <;> rfl
  have licence : (s.beforeEnd x d).items.licence = x.licence := by cases d <;> rfl
  rw [voucherDay, licence] at evaluated
  generalize (s.beforeEnd x d).inspect.notices = ns, (s.beforeEnd x d).inspect.notice = n at *
  have notices : t.notices = if s.command ≠ none then ns.raise .commandDone else ns := congrArg State.notices eq
  have store : t.store = .whole (x.started d) := congrArg State.store eq
  have items : t.items = x.started d := congrArg Store.items store
  have flag : ∀ {c : Cause}, c ≠ .commandDone → t.notices.flag c = ns.flag c := by
    intro c differs
    rw [notices]
    split
    · exact Notices.flag_raise_other _ differs.symm
    · rfl
  have decided : decide due = d := by
    cases d with
    | true => exact decide_eq_true (isDue.mp rfl)
    | false => exact decide_eq_false fun holds => Bool.false_ne_true (isDue.mpr holds)
  have part : t.part = if s.command ≠ none then .parked else if (x.started d).licence.isSome then .setup else .locked :=
    congrArg State.part eq
  have started : (x.started d).licence = x.licence := by cases d <;> rfl
  have field {f : Field} (hf : f ∈ statusFields t) := shows f hf
  refine ⟨t, run, ?_, ?_, ?_, ?_, fun quiet => ?_, fun switched => ?_, ?_, ?_, ?_, ?_, ?_, ?_, ?_, ?_, ?_, ?_, ?_, ?_, status, ?_, outside⟩
  · rw [part, started]
  · rw [store]
    rfl
  · rw [items, store]
    rfl
  · rw [store]
    rfl
  · have off : d = false := decided.symm.trans (decide_eq_false quiet)
    rw [items, off]
    rfl
  · have on : d = true := decided.symm.trans (decide_eq_true switched)
    rw [items, on]
    rfl
  · intro entry
    have spoiled : (x.started d).spoiled = x.convertMarks.spoiled := by cases d <;> rfl
    rw [items, spoiled]
    exact mem_convertMarks x entry
  · exact evaluated (congrArg State.notice eq) (flag (by decide))
  · rw [flag (by decide), flags _ (by decide), decided]
    simp
  · rw [flag (by decide), flags _ (by decide)]
    simp
  · have before : ns.flag .commandDone = s.notices.flag .commandDone := by
      rw [flags _ (by decide)]
      simp
    rw [notices]
    by_cases held : s.command ≠ none
    · rw [if_pos held, Notices.flag_raise_same, show decide parks = true from decide_eq_true held, Bool.or_true]
    · rw [if_neg held, before, show decide parks = false from decide_eq_false held, Bool.or_false]
  · rw [flag (by decide), flags _ (by decide)]
    simp
  · refine (field (f := ⟨0x02, 1, resetCauseCode t.resetCause⟩) (by simp [statusFields, partFields])).trans ?_
    rw [congrArg State.resetCause eq]
    cases s.resetCause <;> rfl
  · refine (field (f := ⟨0x03, 1, partCode t.part⟩) (by simp [statusFields, partFields])).trans ?_
    cases t.part <;> rfl
  · exact field (f := ⟨0x16, 2, t.items.spoiled.length⟩) (by simp [statusFields, spoiledFields])
  · have descending : t.items.descending = x.descending := by
      rw [items]
      cases d <;> rfl
    rw [← descending]
    exact field (f := ⟨0x18, 6, t.items.descending⟩) (by simp [statusFields, fundsFields])
  · exact field (f := ⟨0x0A, 2, (t.items.banks.get t.items.activeBank).tableId⟩) (by simp [statusFields, banksFields])
  · rw [generation]
  · rw [part, store, notices, congrArg State.notice eq, ← part]
    refine eq.trans ?_
    rw [part]
    rfl

end Sys2Proof.Machine
end

section
/-! SUPPORT. START on a store fault (R134 to R136, R172, R175, R177, R191). -/

namespace Sys2Proof.Machine

/-- START clears a store found bad. -/
theorem startSteps_bad {s : State} {store : Store} (start : s.part = .start) (idle : s.inStore = none) (unheld : s.heldReset = none)
    (settled : s.warnInStart.settleRecord = s.settledWith store) (bad : store.latch = false ∨ store.check ≠ store.items.checkWord) :
    s.startSteps .made = (s.settledWith .cleared).faultFound.endStart := by
  have fault : (s.settledWith store).storeFault = true := by
    rcases bad with unset | differs
    · simp [State.storeFault, State.settledWith, unset]
    · simp [State.storeFault, State.settledWith, State.items, differs]
  have cleared : (s.settledWith store).makeUpdate .startClear Items.cleared = s.settledWith .cleared := by
    unfold State.makeUpdate State.place
    rw [← idle]
    have set : ((s.settledWith store).store.latch || (Items.cleared.newValues Work.startClear.setsLatch).setsLatch) = true := Bool.or_true _
    rw [set]
    rfl
  unfold State.startSteps
  rw [if_pos ⟨start, by simp [State.busy, idle]⟩, settled]
  dsimp only
  rw [fault, if_pos rfl]
  show ((s.settledWith store).makeUpdate .startClear Items.cleared).afterClear = _
  rw [cleared]
  exact afterClear_unheld (s := s.settledWith .cleared) unheld

/-- A READY clearing of a store fault comes to the same. -/
theorem startSteps_clearing {s : State} (start : s.part = .start) (idle : s.inStore = none)
    (record : s.store.record = .inSteps .ready (Items.cleared.newValues true)) :
    s.startSteps .made = (s.settledWith .cleared).faultFound.endStart := by
  have settled : s.warnInStart.settleRecord = (s.settledWith .cleared).faultFound := by
    rw [warnInStart_eq]
    have same : (s.settledWith s.store).store = s.store := rfl
    unfold State.settleRecord
    rw [same, record]
    have placed : (s.settledWith s.store).place (Items.cleared.newValues true) = s.settledWith .cleared := by
      unfold State.place
      rw [← idle]
      have set : ((s.settledWith s.store).store.latch || (Items.cleared.newValues true).setsLatch) = true := Bool.or_true _
      rw [set]
      rfl
    exact congrArg State.faultFound placed
  have good : (s.settledWith .cleared).faultFound.storeFault = false := by
    show (!true || Items.cleared.checkWord != Items.cleared.checkWord) = false
    simp
  have undue : (s.settledWith .cleared).faultFound.switchDue = false := rfl
  have unmarked : (s.settledWith .cleared).faultFound.items.marksPresent = 0 := rfl
  unfold State.startSteps
  rw [if_pos ⟨start, by simp [State.busy, idle]⟩, settled]
  dsimp only
  rw [good, if_neg Bool.false_ne_true]
  unfold State.startFrom5
  rw [if_pos unmarked]
  unfold State.startFrom6
  rw [undue, if_neg Bool.false_ne_true]
  exact congrArg State.endStart (State.inspect_unevaluated (.inl rfl))

/-- START on a store that is bad once its record is settled. -/
theorem startSteps_fault {s : State} (start : s.part = .start) (idle : s.inStore = none) (unheld : s.heldReset = none)
    (fault : (s.store.record = .empty ∨ ∃ values, s.store.record = .inSteps .filling values)
        ∧ (s.store.latch = false ∨ s.store.check ≠ s.items.checkWord)
      ∨ (∃ values, s.store.record = .inSteps .ready values ∧ values.setsLatch = false
          ∧ (s.store.latch = false ∨ values.check ≠ values.items.checkWord))
      ∨ s.store.record = .inSteps .ready (Items.cleared.newValues true)) :
    s.startSteps .made = (s.settledWith .cleared).faultFound.endStart := by
  rcases fault with ⟨record, bad⟩ | ⟨values, record, plain, bad⟩ | record
  · exact startSteps_bad start idle unheld (settleRecord_kept record) bad
  · exact startSteps_bad start idle unheld (settleRecord_made idle record plain) bad
  · exact startSteps_clearing start idle record

/-- The causes that START raises on a store fault. -/
theorem faultFound_raised (s : State) :
    s.notices.Raised (s.settledWith .cleared).faultFound.notices (.storeFault :: if s.warnAtReset then [.powerWarning] else []) := by
  have found : (s.settledWith .cleared).faultFound.notices
      = (if s.warnAtReset then s.notices.raise .powerWarning else s.notices).raise .storeFault := rfl
  rw [found]
  cases s.warnAtReset with
  | true => exact (Notices.Raised.cons (s.notices.raised_raise .powerWarning) (Notices.raised_raise _ .storeFault)).congr (by simp [or_comm])
  | false => exact Notices.raised_raise _ .storeFault

theorem int_of_storeFault {n : Notices} (raised : n.flag .storeFault = true) : n.int = true :=
  (Notices.int_iff _).mpr ⟨0, by decide, (Bool.and_true _).trans raised⟩

/-- Settles O14. -/
theorem startOnAStoreFault : Obligations.StartOnAStoreFault := by
  intro s ready start command unheld fault parks counting
  have ⟨supply, idle, clean⟩ := ready
  have steps := startSteps_fault start idle unheld fault
  have run : exec (.start .made) s = .next (s.settledWith .cleared).faultFound.endStart.flush := by
    rw [exec_effect supply]
    exact congrArg (fun t : State => Host.Outcome.next t.flush) steps
  have rest : (s.settledWith .cleared).faultFound = { s with
      warnAtReset := false, store := .cleared, notice := s.notice, notices := (s.settledWith .cleared).faultFound.notices
      calendar := { counting with valid := false } } := rfl
  obtain ⟨eq, shows, -, status, outside⟩ := endStart_leaves rest command clean
  have raised := faultFound_raised s
  generalize (s.settledWith .cleared).faultFound.endStart.flush = t at *
  generalize (s.settledWith .cleared).faultFound.notices = ns at *
  have notices : t.notices = if s.command ≠ none then ns.raise .commandDone else ns := congrArg State.notices eq
  have items : t.items = Items.cleared := congrArg State.items eq
  have calendar : t.calendar = { counting with valid := false } := congrArg State.calendar eq
  have ends : s.notices.Raised t.notices
      ((.storeFault :: if s.warnAtReset then [.powerWarning] else []) ++ if parks then [.commandDone] else []) := by
    rw [notices]
    by_cases held : s.command ≠ none
    · rw [if_pos held, if_pos (show parks from held)]
      exact raised.trans (Notices.raised_raise _ _)
    · rw [if_neg held, if_neg (show ¬ parks from held), List.append_nil]
      exact raised
  have field {f : Field} (hf : f ∈ statusFields t) := shows f hf
  refine ⟨t, run, int_of_storeFault ?_, ends, status, ?_, ?_, ?_, ?_, ?_, ?_, ?_, ?_, ?_, ?_, ?_, outside⟩
  · rw [ends.2.2]
    simp
  · refine (field (f := ⟨0x02, 1, resetCauseCode t.resetCause⟩) (by simp [statusFields, partFields])).trans ?_
    rw [congrArg State.resetCause eq]
    cases s.resetCause <;> rfl
  · refine (field (f := ⟨0x03, 1, partCode t.part⟩) (by simp [statusFields, partFields])).trans ?_
    cases t.part <;> rfl
  · have shown := field (f := ⟨0x04, 2, t.calendar.day⟩) (by simp [statusFields, calendarFields])
    rwa [calendar] at shown
  · have shown := field (f := ⟨0x06, 2, t.calendar.minute⟩) (by simp [statusFields, calendarFields])
    rwa [calendar] at shown
  · have shown := field (f := ⟨0x08, 1, flagCode t.calendar.valid⟩) (by simp [statusFields, calendarFields])
    rwa [calendar] at shown
  · have shown := field (f := ⟨0x0A, 2, (t.items.banks.get t.items.activeBank).tableId⟩) (by simp [statusFields, banksFields])
    rwa [items] at shown
  · have shown := field (f := ⟨0x16, 2, t.items.spoiled.length⟩) (by simp [statusFields, spoiledFields])
    rwa [items] at shown
  · have shown := field (f := ⟨0x18, 6, t.items.descending⟩) (by simp [statusFields, fundsFields])
    rwa [items] at shown
  · have shown := field (f := ⟨0x1E, 6, t.items.ascending⟩) (by simp [statusFields, fundsFields])
    rwa [items] at shown
  · have shown := field (f := ⟨0x2A, 4, t.items.pieceCount⟩) (by simp [statusFields, fundsFields])
    rwa [items] at shown
  · rw [notices]
    exact eq

end Sys2Proof.Machine
end

section
/-! SUPPORT. One lane ended by PARK (R47, R157, R193). -/

namespace Sys2Proof.Machine

/-! ### The print result of the outstanding imprint -/

/-- The lane's queue once the print result of its outstanding imprint is shown. -/
def State.parkQueue (s : State) (lane : Lane) : List TrackEntry :=
  match (s.link lane).outstanding with
  | some imprint => (s.tracker lane).withPrintResult imprint.seq
  | none => (s.tracker lane).queue

/-- The state once that print result is shown. -/
def State.imprintShown (s : State) (lane : Lane) : State :=
  match (s.link lane).outstanding with
  | none => s
  | some imprint =>
    match (s.tracker lane).find imprint.seq with
    | none => s
    | some e => s.writeResults lane e (fun index => [slotField lane index 0x26 1 (printResultCode .unconfirmed)]) [printResultBit]

theorem State.parkEndings_eq (s : State) (lane : Lane) : s.parkEndings lane = (s.parkQueue lane).map fun e => e.endedFor .parked := rfl

theorem State.endedAtPark_eq (u : State) (lane : Lane) :
    ((u.onTracker lane (fun t => { t with state := .stopped, haltCause := none })).onLink lane Link.park).touchLane lane
      = ((u.onTracker lane (fun t => { t with state := .stopped, haltCause := none })).touchLane lane).onLink lane Link.park := by
  cases lane <;> rfl

theorem State.parkLane_eq (s : State) (lane : Lane) :
    s.parkLane lane = ((((s.imprintShown lane).endEntries lane .parked ((s.imprintShown lane).tracker lane).queue).onTracker lane
        (fun t => { t with state := .stopped, haltCause := none })).touchLane lane).onLink lane Link.park :=
  State.endedAtPark_eq _ lane

/-- A queue in which no entry has the sequence number shows no print result. -/
theorem Tracker.withPrintResult_lost {r : Tracker} {seq : Nat} (lost : r.find seq = none) : r.withPrintResult seq = r.queue := by
  unfold Tracker.withPrintResult
  refine (List.map_congr_left fun x hx => ?_).trans (List.map_id _)
  have other : ¬ (x.seq == seq) = true := by
    have := List.find?_eq_none.mp lost x hx
    simpa using this
  exact if_neg other

section
variable (s : State) (lane : Lane)

theorem State.imprintShown_cases :
    s.imprintShown lane = s ∧ s.parkQueue lane = (s.tracker lane).queue ∧ s.printResultByte lane = []
      ∨ ∃ imprint e, (s.link lane).outstanding = some imprint ∧ (s.tracker lane).find imprint.seq = some e
          ∧ s.parkQueue lane = (s.tracker lane).withPrintResult imprint.seq
          ∧ s.imprintShown lane = s.writeResults lane e
              (fun index => [slotField lane index 0x26 1 (printResultCode .unconfirmed)]) [printResultBit]
          ∧ s.printResultByte lane = match e.slot with
              | some index => [(slotAddress lane index + 0x26, 1)]
              | none => [] := by
  unfold State.imprintShown State.parkQueue State.printResultByte
  cases outstanding : (s.link lane).outstanding with
  | none => exact .inl ⟨rfl, rfl, rfl⟩
  | some imprint =>
    cases found : (s.tracker lane).find imprint.seq with
    | none =>
      refine .inl ⟨?_, Tracker.withPrintResult_lost found, ?_⟩
      · simp only [found]
      · simp only [Option.bind_some, found, Option.bind_none]
    | some e =>
      refine .inr ⟨imprint, e, rfl, found, rfl, ?_, ?_⟩
      · simp only [found]
      · simp only [Option.bind_some, found] <;> rfl

/-- The print result moves memory and the entry's row alone. -/
theorem State.imprintShown_moves :
    s.imprintShown lane = { s with
      mem := (s.imprintShown lane).mem, lanes := s.lanes.set lane { s.tracker lane with queue := s.parkQueue lane } } := by
  rcases s.imprintShown_cases lane with ⟨same, queue, -⟩ | ⟨imprint, e, -, found, queue, shown, -⟩
  · rw [same, queue]
    have kept : s.lanes.set lane (s.tracker lane) = s.lanes := PerLane.set_get ..
    exact congrArg (fun lanes => { s with lanes := lanes }) kept.symm
  · have seq : e.seq = imprint.seq := Tracker.find_seq found
    have row : (s.tracker lane).onEntry e.seq (fun x => { x with presence := withBit e.presence printResultBit })
        = { s.tracker lane with queue := (s.tracker lane).withPrintResult imprint.seq } := by
      unfold Tracker.onEntry Tracker.withPrintResult
      rw [found, seq]
      rfl
    rw [shown, queue, ← row]
    unfold State.writeResults
    dsimp only
    cases e.slot with
    | none => rfl
    | some index => rfl

theorem State.imprintShown_frame :
    (s.imprintShown lane).order = s.order ∧ (s.imprintShown lane).calendar = s.calendar ∧ (s.imprintShown lane).notices = s.notices
      ∧ (s.imprintShown lane).tracker lane = { s.tracker lane with queue := s.parkQueue lane } := by
  have moves := s.imprintShown_moves lane
  refine ⟨by rw [moves], by rw [moves], by rw [moves], ?_⟩
  exact (congrArg (fun t : State => t.tracker lane) moves).trans (PerLane.get_set_same ..)

/-- The fields that show it. -/
theorem State.imprintShown_writes {e : TrackEntry} {index : Nat} (slot : e.slot = some index)
    (shown : s.imprintShown lane = s.writeResults lane e
      (fun index => [slotField lane index 0x26 1 (printResultCode .unconfirmed)]) [printResultBit]) :
    (s.imprintShown lane).mem = (s.writeFields (resultFields lane e .unconfirmed index)).mem := by
  rw [shown]
  unfold State.writeResults
  dsimp only
  rw [slot]
  rfl

theorem State.imprintShown_reads :
    ∀ range ∈ s.printResultByte lane, (s.imprintShown lane).readField range.1 1 = printResultCode .unconfirmed := by
  intro range listed
  rcases s.imprintShown_cases lane with ⟨-, -, none_⟩ | ⟨imprint, e, -, found, -, shown, byte⟩
  · rw [none_] at listed
    cases listed
  · cases slot : e.slot with
    | none =>
      rw [byte, slot] at listed
      cases listed
    | some index =>
      rw [byte, slot] at listed
      rw [List.mem_singleton.mp listed]
      have moves := s.imprintShown_moves lane
      refine (readField_of_mem (s := s.writeFields (resultFields lane e .unconfirmed index)) (s.imprintShown_writes lane slot shown)
        ?_ ?_ _ _).trans (readField_writeFields_of_mem s (resultFields_apart lane e .unconfirmed index) (f := slotField lane index 0x26 1 _)
          List.mem_cons_self)
      · exact (congrArg State.powerOns moves).trans (by simp)
      · exact (congrArg State.order moves).trans (by simp)

/-- Its bytes are those of the print result, and the presence word that the entry's end writes again. -/
theorem State.unchangedOutside_imprintShown :
    UnchangedOutside (s.printResultByte lane ++ s.endedBytes lane (s.parkEndings lane)) s (s.imprintShown lane) := by
  rcases s.imprintShown_cases lane with ⟨same, -⟩ | ⟨imprint, e, -, found, queue, shown, byte⟩
  · rw [same]
    exact .of_mem _ rfl rfl
  · have moves := s.imprintShown_moves lane
    cases slot : e.slot with
    | none =>
      refine .of_mem _ ?_ (by rw [moves])
      rw [shown]
      unfold State.writeResults
      dsimp only
      rw [slot]
      rfl
    | some index =>
      have written := unchangedOutside_writeFields s (resultFields lane e .unconfirmed index)
      refine (written.mono fun r hr => ⟨r, ?_, le_rfl, le_rfl⟩).trans
        (.of_mem _ (s.imprintShown_writes lane slot shown) ((congrArg State.powerOns moves).trans (by simp)))
      rw [byte, slot]
      simp only [resultFields, slotField, List.map_cons, List.map_nil, List.mem_cons, List.not_mem_nil, or_false] at hr
      rcases hr with rfl | rfl
      · exact List.mem_cons_self
      · refine List.mem_append_right _ ?_
        have entry : ∃ x ∈ s.parkEndings lane, x.entry.slot = some index := by
          have listed := Tracker.mem_of_find found
          have seq : e.seq = imprint.seq := Tracker.find_seq found
          rw [State.parkEndings_eq, queue]
          refine ⟨_, List.mem_map_of_mem (List.mem_map_of_mem listed), ?_⟩
          rw [if_pos (by simpa using seq)]
          exact slot
        obtain ⟨x, hx, own⟩ := entry
        exact slot_mem_endedBytes hx own

/-! ### A lane parked -/

/-- A lane ended by PARK: its entries ended, the lane STOPPED and its link idle, and nothing else changed. -/
structure State.LaneParked (s t : State) (lane : Lane) : Prop where
  rest : t = { s with
    mem := t.mem, dirty := t.dirty, notices := t.notices, lanes := s.lanes.set lane (t.tracker lane)
    links := s.links.set lane (s.link lane).park }
  tracker : t.tracker lane = { s.tracker lane with
    state := .stopped, haltCause := none, queue := [], batch := (s.tracker lane).batch.afterAll (s.parkEndings lane)
    lastDone := lastDoneAfter (s.tracker lane).lastDone (s.parkEndings lane) }
  raised : s.notices.Raised t.notices (endingCauses lane (s.tracker lane).batch (s.parkEndings lane))
  shown : (s.parkEndings lane).Pairwise (fun x y => x.entry.slot = none ∨ x.entry.slot ≠ y.entry.slot) →
    ∀ x ∈ s.parkEndings lane, s.ShowsEnding t lane x
  summary : (s.tracker lane).batch.state = .closing → 0 < (s.tracker lane).batch.inFlight →
    (s.tracker lane).batch.inFlight = (slotted (s.parkEndings lane)).length →
    t.ShowsSummary lane ((s.tracker lane).batch.afterAll (s.parkEndings lane)) s.calendar.stamp
  result : ∀ range ∈ s.printResultByte lane, t.readField range.1 1 = printResultCode .unconfirmed
  unchanged : UnchangedOutside (s.printResultByte lane ++ s.endedBytes lane (s.parkEndings lane)) s t

/-- The byte of the print result is in none of the bytes that the ends write. -/
theorem State.printResultByte_off (endings : List Ending) : ∀ range ∈ s.printResultByte lane, ∀ r ∈ s.endedBytes lane endings,
    range.1 + 1 ≤ r.1 ∨ r.1 + r.2 ≤ range.1 := by
  intro range listed
  rcases s.imprintShown_cases lane with ⟨-, -, none_⟩ | ⟨imprint, e, -, found, -, shown, byte⟩
  · rw [none_] at listed
    cases listed
  · cases slot : e.slot with
    | none =>
      rw [byte, slot] at listed
      cases listed
    | some index =>
      rw [byte, slot] at listed
      rw [List.mem_singleton.mp listed]
      exact result_off_endedBytes

theorem onLink_rest {s p e : State} {lane : Lane} {r : Tracker} (moves : p = { s with mem := p.mem, lanes := s.lanes.set lane r })
    (rest : e = { p with mem := e.mem, dirty := e.dirty, notices := e.notices, lanes := p.lanes.set lane (e.tracker lane) }) :
    e.onLink lane Link.park = { s with
      mem := e.mem, dirty := e.dirty, notices := e.notices, lanes := s.lanes.set lane (e.tracker lane)
      links := s.links.set lane (s.link lane).park } := by
  have lanes : p.lanes.set lane (e.tracker lane) = s.lanes.set lane (e.tracker lane) := by
    rw [congrArg State.lanes moves]
    exact PerLane.set_set ..
  rw [lanes] at rest
  generalize e.mem = m, e.dirty = d, e.notices = n, e.tracker lane = r', p.mem = m' at *
  subst moves
  subst rest
  rfl

theorem State.laneParked : s.LaneParked (s.parkLane lane) lane := by
  have emptied := (s.imprintShown lane).emptied_endEntries lane .parked .stopped none
  obtain ⟨order, calendar, notices, tracker⟩ := s.imprintShown_frame lane
  have moves := s.imprintShown_moves lane
  have unchanged := s.unchangedOutside_imprintShown lane
  have reads := s.imprintShown_reads lane
  rw [State.parkLane_eq]
  generalize s.imprintShown lane = p at *
  have queue : (p.tracker lane).queue = s.parkQueue lane := by rw [tracker]
  have batch : (p.tracker lane).batch = (s.tracker lane).batch := by rw [tracker]
  have last : (p.tracker lane).lastDone = (s.tracker lane).lastDone := by rw [tracker]
  rw [queue, ← State.parkEndings_eq] at emptied
  rw [queue]
  generalize (((p.endEntries lane .parked (s.parkQueue lane)).onTracker lane
    (fun t => { t with state := .stopped, haltCause := none })).touchLane lane) = e at *
  have bytes : p.endedBytes lane (s.parkEndings lane) = s.endedBytes lane (s.parkEndings lane) := by
    unfold State.endedBytes State.overflowByteAddress
    rw [order, batch]
  have reads_e (a width : Nat) : (e.onLink lane Link.park).readField a width = e.readField a width :=
    readField_of_mem (s := e) (t := e.onLink lane Link.park) rfl rfl rfl a width
  have ended := emptied.ended
  refine ⟨onLink_rest moves emptied.rest, ?_, ?_, ?_, ?_, ?_, ?_⟩
  · show e.tracker lane = _
    rw [emptied.tracker, tracker]
  · have raised := emptied.raised
    rwa [notices, batch] at raised
  · intro apart x hx
    exact ((ended.shown apart x hx).of_base order (congrArg Batch.overflow batch)).of_status rfl (.of_mem _ rfl rfl)
  · intro closing flying count
    have summary := ended.summary (by rw [batch]; exact closing) (by rw [batch]; exact flying) (by rw [batch]; exact count)
    rw [batch, calendar] at summary
    exact summary.of_status rfl (.of_mem _ rfl rfl)
  · intro range listed
    refine (reads_e _ _).trans ((ended.unchanged.readField ended.frame.1 ?_).trans (reads range listed))
    rw [bytes]
    exact s.printResultByte_off lane _ range listed
  · refine unchanged.trans (UnchangedOutside.trans ?_ (.of_mem (s := e) _ rfl rfl))
    refine ended.unchanged.mono fun r hr => ⟨r, List.mem_append_right _ ?_, le_rfl, le_rfl⟩
    rwa [bytes] at hr

end

end Sys2Proof.Machine
end

section
/-! SUPPORT. Both lanes ended by PARK (R47, R157, R193). -/

namespace Sys2Proof.Machine

/-! ### What PARK looks at of a lane -/

/-- Two states agree in a lane, its link, the byte order and the calendar. -/
structure State.SameAtPark (s t : State) (lane : Lane) : Prop where
  tracker : t.tracker lane = s.tracker lane
  link : t.link lane = s.link lane
  order : t.order = s.order
  calendar : t.calendar = s.calendar

section
variable {s t : State} {lane : Lane} (h : s.SameAtPark t lane)
include h

theorem State.SameAtPark.endings : t.parkEndings lane = s.parkEndings lane := by
  unfold State.parkEndings
  rw [h.tracker, h.link]

theorem State.SameAtPark.resultByte : t.printResultByte lane = s.printResultByte lane := by
  unfold State.printResultByte
  rw [h.tracker, h.link]

theorem State.SameAtPark.endedBytes (endings : List Ending) : t.endedBytes lane endings = s.endedBytes lane endings := by
  unfold State.endedBytes State.overflowByteAddress
  rw [h.tracker, h.order]

end

/-- An address of a lane's slots or of its batch summary. -/
def InLane (lane : Lane) (a : Nat) : Prop := ∃ r ∈ laneMemory lane, Within r a

theorem inLane_slot {lane : Lane} {index a : Nat} (below : index < 32) (low : slotAddress lane index ≤ a)
    (high : a < slotAddress lane index + 64) : InLane lane a := by
  obtain ⟨r, hr, first, last⟩ := slot_in_laneMemory (lane := lane) (r := (a, 1)) below low (by dsimp only; omega)
  exact ⟨r, hr, first, by dsimp only at last; omega⟩

theorem inLane_summary {lane : Lane} {a : Nat} (low : summaryAddress lane ≤ a) (high : a < summaryAddress lane + 64) : InLane lane a :=
  ⟨_, List.mem_cons_of_mem _ List.mem_cons_self, low, high⟩

/-- The lanes' memory lies apart, and above the status block and the command block's code and status. -/
theorem inLane_apart {lane : Lane} {a : Nat} (inside : InLane lane a) :
    ¬ Within statusBlock a ∧ ¬ Within codeAndStatus a ∧ ∀ other, other ≠ lane → ¬ InLane other a := by
  have bounds : ∀ lane, InLane lane a → (slotsBase lane ≤ a ∧ a < slotsBase lane + 2048)
      ∨ (summaryAddress lane ≤ a ∧ a < summaryAddress lane + 64) := by
    rintro lane ⟨r, hr, low, high⟩
    simp only [laneMemory, List.mem_cons, List.not_mem_nil, or_false] at hr
    rcases hr with rfl | rfl
    · exact .inl ⟨low, high⟩
    · exact .inr ⟨low, high⟩
  have here := bounds lane inside
  refine ⟨fun within => ?_, fun within => ?_, fun other differs at_ => ?_⟩
  · have high := within.2
    simp only [statusBlock] at high
    cases lane <;> simp only [slotsBase, summaryAddress] at here <;> omega
  · have low := within.1
    have high := within.2
    simp only [codeAndStatus] at low high
    cases lane <;> simp only [slotsBase, summaryAddress] at here <;> omega
  · have there := bounds other at_
    cases lane <;> cases other
    · exact differs rfl
    · simp only [slotsBase, summaryAddress] at here there
      omega
    · simp only [slotsBase, summaryAddress] at here there
      omega
    · exact differs rfl

theorem slotsBelow_parkQueue {s : State} {lane : Lane} (below : SlotsBelow (s.tracker lane).queue) : SlotsBelow (s.parkQueue lane) := by
  unfold State.parkQueue
  split
  · intro x hx index slot
    obtain ⟨y, hy, rfl⟩ := List.mem_map.mp hx
    split at slot <;> exact below y hy index slot
  · exact below

theorem slotsBelow_parkEndings {s : State} {lane : Lane} (below : SlotsBelow (s.tracker lane).queue) :
    ∀ x ∈ s.parkEndings lane, ∀ index, x.entry.slot = some index → index < 32 := by
  intro x hx
  rw [State.parkEndings_eq] at hx
  obtain ⟨e, he, rfl⟩ := List.mem_map.mp hx
  exact slotsBelow_parkQueue below e he

theorem printResultByte_inLane {s : State} {lane : Lane} (below : SlotsBelow (s.tracker lane).queue) :
    ∀ range ∈ s.printResultByte lane, ∃ index < 32, range = (slotAddress lane index + 0x26, 1) := by
  intro range listed
  rcases s.imprintShown_cases lane with ⟨-, -, none_⟩ | ⟨imprint, e, -, found, -, -, byte⟩
  · rw [none_] at listed
    cases listed
  · cases slot : e.slot with
    | none =>
      rw [byte, slot] at listed
      cases listed
    | some index =>
      rw [byte, slot] at listed
      exact ⟨index, below e (Tracker.mem_of_find found) index slot, List.mem_singleton.mp listed⟩

/-! ### What is shown of a parked lane -/

/-- What exchange memory shows of a lane that PARK ended. -/
structure State.ParkShown (s t : State) (lane : Lane) : Prop where
  shown : (s.parkEndings lane).Pairwise (fun x y => x.entry.slot = none ∨ x.entry.slot ≠ y.entry.slot) →
    ∀ x ∈ s.parkEndings lane, s.ShowsEnding t lane x
  summary : (s.tracker lane).batch.state = .closing → 0 < (s.tracker lane).batch.inFlight →
    (s.tracker lane).batch.inFlight = (slotted (s.parkEndings lane)).length →
    t.ShowsSummary lane ((s.tracker lane).batch.afterAll (s.parkEndings lane)) s.calendar.stamp
  result : ∀ range ∈ s.printResultByte lane, t.readField range.1 1 = printResultCode .unconfirmed

theorem State.LaneParked.parkShown {s t : State} {lane : Lane} (h : s.LaneParked t lane) : s.ParkShown t lane :=
  ⟨h.shown, h.summary, h.result⟩

section
variable {s t u : State} {lane : Lane}

/-- What is shown of a lane stays while its memory does. -/
theorem State.ParkShown.later (h : s.ParkShown t lane) (below : SlotsBelow (s.tracker lane).queue) (order : u.order = t.order)
    (memory : ∀ a, InLane lane a → u.readByte a = t.readByte a) : s.ParkShown u lane := by
  refine ⟨fun apart x hx => ?_, fun closing flying count => ?_, fun range listed => ?_⟩
  · exact (h.shown apart x hx).of_unchanged order fun index slot a low high =>
      memory a (inLane_slot (slotsBelow_parkEndings below x hx index slot) low high)
  · exact (h.summary closing flying count).of_reads fun a width low high =>
      readField_congr a width order fun k hk => memory _ (inLane_summary (by omega) (by omega))
  · obtain ⟨index, small, rfl⟩ := printResultByte_inLane below range listed
    refine (readField_congr _ 1 order fun k hk => memory _ (inLane_slot small ?_ ?_)).trans (h.result _ listed) <;> dsimp only <;> omega

theorem State.ParkShown.of_base (h : t.ParkShown u lane) (same : s.SameAtPark t lane) : s.ParkShown u lane := by
  have endings := same.endings
  refine ⟨?_, ?_, ?_⟩
  · rw [← endings]
    exact fun apart x hx => (h.shown apart x hx).of_base same.order (by rw [same.tracker])
  · have summary := h.summary
    rwa [endings, same.tracker, same.calendar] at summary
  · rw [← same.resultByte]
    exact h.result

/-- The bytes that PARK writes of a lane are the lane's. -/
theorem State.LaneParked.confined (h : s.LaneParked t lane) (below : SlotsBelow (s.tracker lane).queue) :
    UnchangedOutside (laneMemory lane) s t := by
  refine h.unchanged.mono fun r hr => ?_
  rcases List.mem_append.mp hr with hr | hr
  · obtain ⟨index, small, rfl⟩ := printResultByte_inLane below r hr
    exact slot_in_laneMemory small (Nat.le_add_right _ _) (by dsimp only; omega)
  · exact endedBytes_in_laneMemory (slotsBelow_parkEndings below) hr

/-- A lane parked leaves the other as it was. -/
theorem State.LaneParked.other {other : Lane} (h : s.LaneParked t lane) (differs : other ≠ lane) : s.SameAtPark t other := by
  have rest := h.rest
  refine ⟨?_, ?_, by rw [rest], by rw [rest]⟩
  · exact (congrArg (fun t : State => t.lanes.get other) rest).trans (PerLane.get_set_other _ _ differs)
  · exact (congrArg (fun t : State => t.links.get other) rest).trans (PerLane.get_set_other _ _ differs)

end

/-! ### Both lanes -/

/-- The state of PARK before its lanes are ended. -/
def State.abandoned (s : State) : State := State.abandonRating { s with holds := [] }

/-- The state with both lanes ended. -/
def State.bothParked (s : State) : State := (s.abandoned.parkLane .a).parkLane .b

theorem State.abandoned_same (s : State) (lane : Lane) : s.SameAtPark s.abandoned lane := ⟨rfl, rfl, rfl, rfl⟩

theorem parkedTwice_rest {q r t : State} (first : r = { q with
      mem := r.mem, dirty := r.dirty, notices := r.notices, lanes := q.lanes.set .a (r.tracker .a), links := q.links.set .a (q.link .a).park })
    (second : t = { r with
      mem := t.mem, dirty := t.dirty, notices := t.notices, lanes := r.lanes.set .b (t.tracker .b), links := r.links.set .b (r.link .b).park }) :
    t = { q with
      mem := t.mem, dirty := t.dirty, notices := t.notices, lanes := t.lanes, links := { a := q.links.a.park, b := q.links.b.park } } := by
  obtain ⟨m, d, n, x, first⟩ : ∃ (m : Memory) (d : Groups) (n : Notices) (x : Tracker), r = { q with
      mem := m, dirty := d, notices := n, lanes := q.lanes.set .a x, links := q.links.set .a (q.link .a).park } := ⟨_, _, _, _, first⟩
  subst first
  obtain ⟨m', d', n', y, second⟩ : ∃ (m' : Memory) (d' : Groups) (n' : Notices) (y : Tracker), t = { q with
      mem := m', dirty := d', notices := n', lanes := (q.lanes.set .a x).set .b y
      links := { a := q.links.a.park, b := q.links.b.park } } := ⟨_, _, _, _, second⟩
  rw [second]

section
variable (s : State)

theorem State.bothParked_rest :
    s.bothParked = { s with
      mem := s.bothParked.mem, dirty := s.bothParked.dirty, notices := s.bothParked.notices, lanes := s.bothParked.lanes
      links := { a := s.links.a.park, b := s.links.b.park }, holds := [], takeQueue := [], rating := none
      useCounts := s.abandoned.useCounts } :=
  parkedTwice_rest (s.abandoned.laneParked .a).rest ((s.abandoned.parkLane .a).laneParked .b).rest

/-- Lane B is parked in a state that agrees in it with the one PARK found. -/
theorem State.abandoned_laneB : s.SameAtPark (s.abandoned.parkLane .a) .b := by
  have kept := (s.abandoned.laneParked .a).other (other := .b) (by decide)
  have base := s.abandoned_same .b
  exact ⟨kept.tracker.trans base.tracker, kept.link.trans base.link, kept.order.trans base.order, kept.calendar.trans base.calendar⟩

theorem State.bothParked_tracker (lane : Lane) :
    s.bothParked.tracker lane = { s.tracker lane with
      state := .stopped, haltCause := none, queue := [], batch := (s.tracker lane).batch.afterAll (s.parkEndings lane)
      lastDone := lastDoneAfter (s.tracker lane).lastDone (s.parkEndings lane) } := by
  cases lane with
  | a =>
    have kept := (((s.abandoned.parkLane .a).laneParked .b).other (other := .a) (by decide)).tracker
    exact kept.trans (s.abandoned.laneParked .a).tracker
  | b =>
    have same := s.abandoned_laneB
    refine ((s.abandoned.parkLane .a).laneParked .b).tracker.trans ?_
    rw [same.tracker, same.endings]

theorem State.bothParked_raised :
    s.notices.Raised s.bothParked.notices
      (endingCauses .a (s.tracker .a).batch (s.parkEndings .a) ++ endingCauses .b (s.tracker .b).batch (s.parkEndings .b)) := by
  have same := s.abandoned_laneB
  have first := (s.abandoned.laneParked .a).raised
  have second := ((s.abandoned.parkLane .a).laneParked .b).raised
  rw [same.tracker, same.endings] at second
  exact Notices.Raised.trans first second

theorem State.bothParked_unchanged :
    UnchangedOutside ((s.printResultByte .a ++ s.endedBytes .a (s.parkEndings .a))
      ++ (s.printResultByte .b ++ s.endedBytes .b (s.parkEndings .b))) s s.bothParked := by
  have same := s.abandoned_laneB
  have first : UnchangedOutside (s.printResultByte .a ++ s.endedBytes .a (s.parkEndings .a)) s (s.abandoned.parkLane .a) :=
    (s.abandoned.laneParked .a).unchanged
  have second := ((s.abandoned.parkLane .a).laneParked .b).unchanged
  rw [same.endings, same.resultByte, same.endedBytes] at second
  exact (first.mono fun r hr => ⟨r, List.mem_append_left _ hr, le_rfl, le_rfl⟩).trans
    (second.mono fun r hr => ⟨r, List.mem_append_right _ hr, le_rfl, le_rfl⟩)

theorem State.bothParked_shown (below : ∀ lane, SlotsBelow (s.tracker lane).queue) (lane : Lane) : s.ParkShown s.bothParked lane := by
  have same := s.abandoned_laneB
  have belowB : SlotsBelow ((s.abandoned.parkLane .a).tracker .b).queue := by
    rw [same.tracker]
    exact below .b
  have second := (s.abandoned.parkLane .a).laneParked .b
  cases lane with
  | a =>
    have first : s.ParkShown (s.abandoned.parkLane .a) .a := (s.abandoned.laneParked .a).parkShown.of_base (s.abandoned_same .a)
    refine first.later (below .a) (second.other (other := .a) (by decide)).order fun a inside => ?_
    exact second.confined belowB a fun r hr within => (inLane_apart inside).2.2 .b (by decide) ⟨r, hr, within⟩
  | b => exact second.parkShown.of_base same

end

end Sys2Proof.Machine
end

section
/-! SUPPORT. PARK (R47, R61, R133, R157, R177, R182, R192, R193). -/

namespace Sys2Proof.Machine

/-! ### What PARK leaves -/

/-- The groups that PARK's end marks. -/
def Groups.parked (d : Groups) : Groups := { d with funds := true, spoiled := true, part := true }

/-- The state once both lanes are ended, with the command completed. -/
def State.parked (s : State) : State := ((s.touchFunds.touchSpoiled).complete .done).setPart .parked

theorem State.afterPark_parked (s : State) : s.afterPark = s.bothParked.parked := rfl

theorem State.parked_rest (s : State) :
    s.parked = { s with
      mem := (s.complete .done).mem, dirty := s.dirty.parked, command := none, notices := s.notices.raise .commandDone, part := .parked } := by
  have written : (s.touchFunds.touchSpoiled.complete .done).mem = (s.complete .done).mem := rfl
  unfold State.parked
  rw [State.complete_eq, written]
  rfl

theorem flush_parked_eq {w b : State} {counts : PerBank Nat}
    (rest : b = { w with
      mem := b.mem, dirty := b.dirty, notices := b.notices, lanes := b.lanes, links := { a := w.links.a.park, b := w.links.b.park }
      holds := [], takeQueue := [], rating := none, useCounts := counts }) :
    b.parked.flush = { w with
      mem := b.parked.flush.mem, generation := b.parked.flush.generation, dirty := Groups.none, part := .parked, command := none
      notices := b.notices.raise .commandDone, lanes := b.lanes, links := { a := w.links.a.park, b := w.links.b.park }, holds := []
      takeQueue := [], rating := none, useCounts := counts } := by
  refine (flush_eq _).trans ?_
  generalize b.parked.flush = t
  rw [State.parked_rest]
  generalize (b.complete .done).mem = m', b.mem = m, b.dirty = d, b.notices = n, b.lanes = ls at *
  rw [rest]

/-! ### The state that PARK's end starts from -/

theorem refusalAtPost_park {s : State} (warn : s.powerWarn = true) (pace : Pace) : s.refusalAtPost (.park pace) = none := if_pos warn

theorem commandPlan_park (s : State) (pace : Pace) : commandPlan (.park pace) s = parkPlan s := commandPlan_of_taken rfl

/-- The marks recorded, PARK ends both lanes in one state. -/
theorem exec_park {s : State} (takes : s.TakesCommands) (warn : s.powerWarn = true) (started : s.part ≠ .start) (out : s.part ≠ .parked) :
    ∃ w : State, exec (.park .made) s = .next w.bothParked.parked.flush
      ∧ w = { s.inProgress (.park .made) with store := w.store } ∧ w.items = s.items.convertMarks := by
  have accepted := refusalAtPost_park warn .made
  have part : (s.inProgress (.park .made)).part = s.part := by simp
  have items : (s.inProgress (.park .made)).items = s.items := by simp
  have plan : commandPlan (.park .made) (s.inProgress (.park .made))
      = if s.items.marksPresent = 0 then .done (s.inProgress (.park .made)).afterPark
        else .update .park s.items.convertMarks (s.inProgress (.park .made)) := by
    rw [commandPlan_park]
    unfold parkPlan
    rw [part, items]
    cases at_ : s.part with
    | start => exact absurd at_ started
    | parked => exact absurd at_ out
    | _ => rfl
  split at plan
  case isTrue none_ =>
    have run := exec_of_command_done (i := .park .made) takes rfl nofun accepted plan
    rw [State.afterPark_parked] at run
    exact ⟨s.inProgress (.park .made), run, rfl, by rw [items, convertMarks_unmarked none_]⟩
  case isFalse =>
    have run := exec_of_command_update (i := .park .made) takes rfl nofun accepted rfl rfl plan
    rw [State.after, State.afterPark_parked] at run
    refine ⟨(s.inProgress (.park .made)).makeUpdate .park s.items.convertMarks, run, ?_, rfl⟩
    have idle : (s.inProgress (.park .made)).inStore = none := by simpa using takes.1.2.1
    unfold State.makeUpdate State.place
    rw [← idle]

/-! ### Its memory and its causes -/

theorem unchangedOutside_parked (b : State) : UnchangedOutside [statusBlock, codeAndStatus] b b.parked.flush := by
  have marked : UnchangedOutside [statusBlock, codeAndStatus] b b.touchFunds.touchSpoiled := .of_mem _ rfl rfl
  have completed := (unchangedOutside_complete b.touchFunds.touchSpoiled .done).mono
    (large := [statusBlock, codeAndStatus]) (by simp)
  have moved : UnchangedOutside [statusBlock, codeAndStatus] (b.touchFunds.touchSpoiled.complete .done) b.parked := .of_mem _ rfl rfl
  exact marked.trans (completed.trans (moved.trans ((unchangedOutside_flush b.parked).mono (by simp))))

section
variable {s w : State} (rest : w = { s.inProgress (.park .made) with store := w.store })
include rest

theorem parkBase_same (lane : Lane) : s.SameAtPark w lane := by
  rw [rest]
  exact ⟨by simp [State.tracker], by simp [State.link], by simp, by simp⟩

theorem parkBase_unchanged : UnchangedOutside [codeAndStatus] s w := by
  have laid := unchangedOutside_inProgress_bare s (i := .park .made) rfl
  rw [rest]
  exact laid.trans (.of_mem _ rfl rfl)

/-- The bytes that PARK writes. -/
theorem parkedAll_unchanged :
    UnchangedOutside (codeAndStatus :: s.printResultByte .a ++ s.printResultByte .b ++ s.allEndingBytes .a (s.parkEndings .a)
      ++ s.allEndingBytes .b (s.parkEndings .b)) s w.bothParked.parked.flush := by
  have lanes := w.bothParked_unchanged
  have sameA := parkBase_same rest .a
  have sameB := parkBase_same rest .b
  rw [sameA.endings, sameA.resultByte, sameA.endedBytes, sameB.endings, sameB.resultByte, sameB.endedBytes] at lanes
  have block : ∀ (lane : Lane) (endings : List Ending), statusBlock ∈ s.allEndingBytes lane endings := fun _ _ => List.mem_cons_self
  have ended : ∀ (lane : Lane) (endings : List Ending), ∀ r ∈ s.endedBytes lane endings, r ∈ s.allEndingBytes lane endings :=
    fun _ _ r hr => List.mem_cons_of_mem _ hr
  refine ((parkBase_unchanged rest).mono fun r hr => ⟨r, ?_, le_rfl, le_rfl⟩).trans
    ((lanes.mono fun r hr => ⟨r, ?_, le_rfl, le_rfl⟩).trans ((unchangedOutside_parked w.bothParked).mono fun r hr => ⟨r, ?_, le_rfl, le_rfl⟩))
  · simp only [List.mem_singleton.mp hr, List.cons_append, List.mem_cons, true_or]
  · simp only [List.mem_append, List.cons_append, List.mem_cons] at hr ⊢
    rcases hr with (hr | hr) | (hr | hr)
    · exact .inr (.inl (.inl (.inl hr)))
    · exact .inr (.inl (.inr (ended .a _ r hr)))
    · exact .inr (.inl (.inl (.inr hr)))
    · exact .inr (.inr (ended .b _ r hr))
  · simp only [List.mem_append, List.cons_append, List.mem_cons, List.not_mem_nil, or_false] at hr ⊢
    rcases hr with rfl | rfl
    · exact .inr (.inl (.inr (block .a _)))
    · exact .inl rfl

/-- What exchange memory shows of each lane. -/
theorem parkedAll_shown (below : ∀ lane, SlotsBelow (s.tracker lane).queue) (lane : Lane) :
    s.ParkShown w.bothParked.parked.flush lane := by
  have same := parkBase_same rest lane
  have below_w : ∀ lane, SlotsBelow (w.tracker lane).queue := fun lane => by
    rw [(parkBase_same rest lane).tracker]
    exact below lane
  have shown := (w.bothParked_shown below_w lane).of_base same
  refine shown.later (below lane) ?_ fun a inside => ?_
  · rw [(State.alike_flush _).order, State.parked_rest]
  · obtain ⟨status, command, -⟩ := inLane_apart inside
    refine unchangedOutside_parked w.bothParked a fun r hr => ?_
    simp only [List.mem_cons, List.not_mem_nil, or_false] at hr
    rcases hr with rfl | rfl
    · exact status
    · exact command

theorem parkedAll_raised :
    s.notices.Raised (w.bothParked.notices.raise .commandDone)
      (.commandDone :: endingCauses .a (s.tracker .a).batch (s.parkEndings .a)
        ++ endingCauses .b (s.tracker .b).batch (s.parkEndings .b)) := by
  have lanes := w.bothParked_raised
  have sameA := parkBase_same rest .a
  have sameB := parkBase_same rest .b
  have notices : w.notices = s.notices := by
    rw [rest]
    simp
  rw [sameA.endings, sameA.tracker, sameB.endings, sameB.tracker, notices] at lanes
  refine (lanes.trans (Notices.raised_raise _ .commandDone)).congr fun c => ?_
  simp only [List.cons_append, List.mem_append, List.mem_cons, List.not_mem_nil, or_false]
  exact or_comm

end

/-! ### The statement's parts -/

theorem parked_ended {s : State} (takes : s.TakesCommands) (warn : s.powerWarn = true) (started : s.part ≠ .start)
    (out : s.part ≠ .parked) :
    let causes := fun lane => endingCauses lane (s.tracker lane).batch (s.parkEndings lane)
    ∃ t, exec (.park .made) s = .next t ∧ t.Completed .done ∧ t.part = .parked ∧ t.readField 0x03 1 = partCode .parked
      ∧ (∀ lane, (t.tracker lane).state = .stopped ∧ (t.tracker lane).haltCause = none ∧ (t.tracker lane).queue = []
          ∧ (t.tracker lane).beltRun = false ∧ (t.tracker lane).beltStop = false
          ∧ t.link lane = { s.link lane with
              state := .idle, outstanding := none, heldDispatch := false, timer := none, expiryHeld := false, late := none })
      ∧ t.takeQueue = [] ∧ t.rating = none ∧ t.holds = []
      ∧ (s.rating = none → t.useCounts = s.useCounts)
      ∧ (∀ record, s.rating = some record →
          t.useCounts = s.useCounts.set record.bank (s.useCounts.get record.bank - 1))
      ∧ t.items = { s.items with marks := { a := none, b := none }, spoiled := t.items.spoiled }
      ∧ (∀ entry, entry ∈ t.items.spoiled ↔ entry ∈ s.items.spoiled ∨ ∃ lane mark, s.items.marks.get lane = some mark
          ∧ entry = { serial := mark.serial, lane := lane, amount := mark.amount, account := mark.account,
                      day := mark.day, cause := .unconfirmed })
      ∧ s.notices.Raised t.notices (.commandDone :: causes .a ++ causes .b)
      ∧ t = { s with mem := t.mem, generation := t.generation, part := .parked, notices := t.notices, lanes := t.lanes
                     links := t.links, takeQueue := [], rating := none, useCounts := t.useCounts, holds := []
                     store := t.store }
      ∧ ((∀ lane, ∀ x ∈ (s.tracker lane).queue, ∀ index, x.slot = some index → index < 32) →
          UnchangedOutside
              (codeAndStatus :: s.printResultByte .a ++ s.printResultByte .b ++ s.allEndingBytes .a (s.parkEndings .a)
                ++ s.allEndingBytes .b (s.parkEndings .b)) s t
          ∧ ∀ lane, s.EndsAll t lane (s.parkEndings lane) .stopped none
              ∧ ∀ range ∈ s.printResultByte lane, t.readField range.1 1 = printResultCode .unconfirmed) := by
  intro causes
  obtain ⟨w, run, rest, items⟩ := exec_park takes warn started out
  have eq := flush_parked_eq w.bothParked_rest
  have unchanged := parkedAll_unchanged rest
  have shown := fun below lane => parkedAll_shown rest below lane
  have raised := parkedAll_raised rest
  have tracker : ∀ lane, w.bothParked.lanes.get lane = { s.tracker lane with
      state := .stopped, haltCause := none, queue := [], batch := (s.tracker lane).batch.afterAll (s.parkEndings lane)
      lastDone := lastDoneAfter (s.tracker lane).lastDone (s.parkEndings lane) } := by
    intro lane
    have same := parkBase_same rest lane
    refine (w.bothParked_tracker lane).trans ?_
    rw [same.tracker, same.endings]
  have completed : w.bothParked.parked.flush.Completed .done := completed_flush_setPart_complete _ _ _
  have part : w.bothParked.parked.flush.readField 0x03 1 = partCode .parked := readField_flush_setPart nofun
  have counts : w.abandoned.useCounts = match s.rating with
      | some record => s.useCounts.set record.bank (s.useCounts.get record.bank - 1)
      | none => s.useCounts := by
    rw [rest, State.inProgress_eq]
    rfl
  obtain ⟨m, rest⟩ : ∃ m : Memory, w = { s with mem := m, command := some (.park .made), store := w.store } := by
    refine ⟨(s.inProgress (.park .made)).mem, ?_⟩
    conv_lhs => rw [rest, State.inProgress_eq]
  generalize w.bothParked.parked.flush = t at *
  generalize w.bothParked.lanes = lanes, w.bothParked.notices = notices, w.abandoned.useCounts = useCounts at *
  have store : t.store = w.store := by rw [eq]
  have lanes_t : t.lanes = lanes := congrArg State.lanes eq
  have notices_t : t.notices = notices.raise .commandDone := congrArg State.notices eq
  have items_t : t.items = s.items.convertMarks := (congrArg Store.items store).trans items
  have tracker_t : ∀ lane, t.tracker lane = _ := fun lane => (congrArg (fun ls : PerLane Tracker => ls.get lane) lanes_t).trans (tracker lane)
  have links_t : t.links = { a := s.links.a.park, b := s.links.b.park } := by
    rw [congrArg State.links eq, rest]
  refine ⟨t, run, completed, congrArg State.part eq, part, fun lane => ?_, congrArg State.takeQueue eq, congrArg State.rating eq,
    congrArg State.holds eq, fun none_ => ?_, fun record some_ => ?_, ?_, fun entry => ?_, ?_, ?_, fun below => ⟨unchanged, fun lane => ?_⟩⟩
  · rw [tracker_t lane]
    refine ⟨rfl, rfl, rfl, rfl, rfl, ?_⟩
    refine (congrArg (fun ls : PerLane Link => ls.get lane) links_t).trans ?_
    cases lane <;> rfl
  · rw [congrArg State.useCounts eq]
    simp only [counts, none_]
  · rw [congrArg State.useCounts eq]
    simp only [counts, some_]
  · rw [items_t]
    rfl
  · rw [items_t]
    exact mem_convertMarks s.items entry
  · rw [notices_t]
    exact raised
  · rw [links_t, lanes_t, notices_t, store, congrArg State.useCounts eq]
    refine eq.trans ?_
    generalize w.store = st at rest
    rw [rest, takes.1.2.2.symm, ← takes.2]
  · have here := shown below lane
    exact ⟨⟨tracker_t lane, here.shown, here.summary⟩, here.result⟩

/-- An event of the rating unit waits behind PARK's update (R133, R193). -/
theorem exec_waits_for_park {r : State} {i : Instr} (rating : i = .ratingCompletion ∨ i = .take) (supply : r.supply = true)
    (clean : r.dirty = Groups.none) (busy : r.inStore = some .park) :
    exec i r = .next { r with held := r.held ++ [.event i] } := by
  have waits : ∀ asks, r.mustWait (.event i) asks = true := by
    intro asks
    have reached : eventBlocks i = [.ratingUnit] := by rcases rating with rfl | rfl <;> rfl
    have waiting : r.waits .ratingUnit = true := by
      unfold State.waits
      rw [busy]
      rfl
    unfold State.mustWait State.busy
    rw [busy]
    show (asks || (eventBlocks i).any r.waits) = true
    rw [reached]
    simp [waiting]
  have held : r.occur i = { r with held := r.held ++ [.event i] } := State.takeEvent_held (waits _)
  have run : exec i r = .next (r.occur i).flush := by
    rcases rating with rfl | rfl <;> exact exec_effect supply
  rw [run, held, flush_clean]
  exact clean

theorem parked_inSteps {phase : Phase} {s : State} (takes : s.TakesCommands) (warn : s.powerWarn = true) (started : s.part ≠ .start)
    (out : s.part ≠ .parked) (marked : s.items.marksPresent ≠ 0) :
    ∃ r, exec (.park (.inSteps phase)) s = .next r ∧ r.inStore = some .park ∧ r.rating = s.rating
      ∧ exec .ratingCompletion r = .next { r with held := r.held ++ [.event .ratingCompletion] }
      ∧ exec .take r = .next { r with held := r.held ++ [.event .take] } := by
  obtain ⟨⟨supply, idle, clean⟩, free⟩ := takes
  have part : (s.inProgress (.park (.inSteps phase))).part = s.part := by simp
  have items : (s.inProgress (.park (.inSteps phase))).items = s.items := by simp
  have idle' : (s.inProgress (.park (.inSteps phase))).inStore = none := by simpa using idle
  have plan : commandPlan (.park (.inSteps phase)) (s.inProgress (.park (.inSteps phase)))
      = .update .park s.items.convertMarks (s.inProgress (.park (.inSteps phase))) := by
    rw [commandPlan_park]
    unfold parkPlan
    rw [part, items]
    cases at_ : s.part with
    | start => exact absurd at_ started
    | parked => exact absurd at_ out
    | _ => exact if_neg marked
  have run : exec (.park (.inSteps phase)) s
      = .next ((s.inProgress (.park (.inSteps phase))).beginUpdate .park s.items.convertMarks phase) := by
    rw [issue_accepted (i := .park (.inSteps phase)) supply rfl free nofun (refusalAtPost_park warn _),
      State.takeUp_idle (i := .park (.inSteps phase)) idle' rfl, plan]
    have settled : ((s.inProgress (.park (.inSteps phase))).beginUpdate .park s.items.convertMarks phase).dirty = Groups.none := by
      simpa [State.beginUpdate] using clean
    exact congrArg Host.Outcome.next (flush_clean settled)
  have base : (s.inProgress (.park (.inSteps phase))).supply = true ∧ (s.inProgress (.park (.inSteps phase))).dirty = Groups.none
      ∧ (s.inProgress (.park (.inSteps phase))).rating = s.rating := by simpa using ⟨supply, clean⟩
  generalize s.inProgress (.park (.inSteps phase)) = p at *
  exact ⟨_, run, rfl, base.2.2, exec_waits_for_park (.inl rfl) base.1 base.2.1 rfl, exec_waits_for_park (.inr rfl) base.1 base.2.1 rfl⟩

theorem park_answered {pace : Pace} {s : State} (takes : s.TakesCommands) (quiet : s.powerWarn = false ∨ s.part = .parked) :
    let status := if s.powerWarn then Status.done else .notPowerWarning
    ∃ t, exec (.park pace) s = .next t ∧ t.Completed status
      ∧ t = { s with mem := t.mem, notices := s.notices.raise .commandDone } ∧ UnchangedOutside [codeAndStatus] s t := by
  intro status
  have run : exec (.park pace) s = .next ((s.inProgress (.park pace)).complete status).flush := by
    cases warn : s.powerWarn with
    | false =>
      have refused : s.refusalAtPost (.park pace) = some .notPowerWarning := if_neg (by simp [warn])
      rw [exec_of_command_refused (i := .park pace) takes rfl nofun refused, show status = .notPowerWarning from if_neg (by simp [warn])]
    | true =>
      have out : s.part = .parked := quiet.resolve_left (by simp [warn])
      have part : (s.inProgress (.park pace)).part = .parked := by simpa using out
      have plan : commandPlan (.park pace) (s.inProgress (.park pace)) = .done ((s.inProgress (.park pace)).complete .done) := by
        rw [commandPlan_park]
        unfold parkPlan
        rw [part]
        rfl
      rw [exec_of_command_done (i := .park pace) takes rfl nofun (refusalAtPost_park warn pace) plan, show status = .done from if_pos warn]
  rw [flush_complete_inProgress takes] at run
  exact ⟨_, run, completed_complete _ _, complete_inProgress_eq takes _ _,
    (unchangedOutside_inProgress_bare s rfl).trans (unchangedOutside_complete _ _)⟩

theorem park_held {pace : Pace} {s : State} (takes : s.TakesCommands) (warn : s.powerWarn = true) (start : s.part = .start) :
    ∃ t, exec (.park pace) s = .next t ∧ t = { s with mem := t.mem, command := some (.park pace) }
      ∧ t.readField statusAddress 2 = statusCode .inProgress ∧ UnchangedOutside [codeAndStatus] s t := by
  have part : (s.inProgress (.park pace)).part = .start := by simpa using start
  have plan : commandPlan (.park pace) (s.inProgress (.park pace)) = .done (s.inProgress (.park pace)) := by
    rw [commandPlan_park]
    unfold parkPlan
    rw [part]
  have run := exec_of_command_done (i := .park pace) takes rfl nofun (refusalAtPost_park warn pace) plan
  rw [flush_clean (by simpa using takes.1.2.2)] at run
  exact ⟨_, run, State.inProgress_eq s _, readField_inProgress s _, unchangedOutside_inProgress_bare s rfl⟩

/-- Settles O50. -/
theorem parkEndsEverything : Obligations.ParkEndsEverything :=
  ⟨fun _ takes warn started out => parked_ended takes warn started out,
    fun _ _ takes warn started out marked => parked_inSteps takes warn started out marked,
    fun _ _ takes quiet => park_answered takes quiet, fun _ _ takes warn start => park_held takes warn start⟩

end Sys2Proof.Machine
end

section
/-! SUPPORT. The stages of a rating, in the terms of chapter 4 (R67 to R83). -/

namespace Sys2Proof.Machine

/-! ### Stages run in order -/

theorem Working.through_stage {w : Working} (going : w.refusal = none) (stage : Working → Working) (stages : List (Working → Working)) :
    w.through (stage :: stages) = (stage w).through stages := by
  rw [Working.through, going]
  rfl

theorem Working.through_ended {w : Working} {cause : DivertCause} (ended : w.refusal = some cause) (stages : List (Working → Working)) :
    w.through stages = w := Working.through_refused (by rw [ended]; rfl) stages

/-! ### The class and the sides -/

theorem definedClass_iff {bank : Bank} {cls : Nat} {record : ClassRecord} :
    bank.definedClass cls = some record ↔ bank.Defines cls record := by
  unfold Bank.definedClass Bank.Defines
  by_cases outside : bank.tableId = 0 ∨ 16 ≤ cls
  · rw [if_pos outside]
    refine ⟨nofun, fun ⟨table, low, _⟩ => ?_⟩
    rcases outside with none_ | high
    · exact absurd none_ table
    · omega
  · rw [if_neg outside]
    obtain ⟨table, low⟩ := not_or.mp outside
    cases at_ : bank.classes[cls]? with
    | none => exact ⟨nofun, fun ⟨_, _, some_, _⟩ => nomatch some_⟩
    | some found =>
      dsimp only
      constructor
      · intro is
        split at is
        case isTrue defined => exact ⟨table, by omega, by simpa using is, by rw [← Option.some.inj is]; exact defined⟩
        case isFalse => cases is
      · rintro ⟨-, -, is, defined⟩
        rw [Option.some.inj is, if_pos defined]

theorem InputCopy.sides_eq (x : InputCopy) : x.sides = (max x.length x.width, min x.length x.width) := by
  unfold InputCopy.sides
  split
  · rw [max_eq_right (by omega), min_eq_left (by omega)]
  · rw [max_eq_left (by omega), min_eq_right (by omega)]

/-! ### The input stage's refusals (R70 to R73) -/

/-- The working values once the sides are exchanged. -/
def sizedWorking (x : InputCopy) : Working := { Working.created with length := max x.length x.width, width := min x.length x.width }

theorem worked_eq (bank : Bank) (x : InputCopy) (window : Nat) :
    worked bank x window = Working.created.through
      (statusStep x :: sizeStep x :: classStep bank x :: handHoldStep x :: stagesOnClass bank x window) := rfl

theorem statusStep_stable {x : InputCopy} (stable : x.status = .stable) (w : Working) : statusStep x w = w := if_neg (not_not.mpr stable)

theorem sizeStep_sized {x : InputCopy} (sized : x.length ≠ 0 ∧ x.width ≠ 0 ∧ x.thickness ≠ 0) :
    sizeStep x Working.created = sizedWorking x := by
  unfold sizeStep
  rw [if_neg (by tauto), InputCopy.sides_eq]
  rfl

theorem classStep_defined {bank : Bank} {x : InputCopy} {record : ClassRecord} (defines : bank.Defines x.cls record) (w : Working) :
    classStep bank x w = w := by
  unfold classStep
  rw [definedClass_iff.mpr defines]
  rfl

/-- A refusal among the first steps leaves the flags clear and no offset. -/
def Working.EndsBare (w : Working) (cause : DivertCause) : Prop :=
  w.refusal = some cause ∧ w.flags = CondFlags.clear ∧ w.offset = none

theorem endsBare_of_refuse {w : Working} {cause : DivertCause} (flags : w.flags = CondFlags.clear) (offset : w.offset = none)
    (stages : List (Working → Working)) : ((w.refuse cause).through stages).EndsBare cause := by
  rw [Working.through_ended (w := w.refuse cause) rfl]
  exact ⟨rfl, flags, offset⟩

section
variable (bank : Bank) (x : InputCopy) (window : Nat)

theorem worked_unsettled (unsettled : ¬ x.status = .stable) : (worked bank x window).EndsBare .weightUnsettled := by
  rw [worked_eq, Working.through_stage rfl, show statusStep x Working.created = Working.created.refuse _ from if_pos unsettled]
  exact endsBare_of_refuse rfl rfl _

variable {x} (settled : x.status = .stable)
include settled

theorem worked_unsized (unsized : ¬ (x.length ≠ 0 ∧ x.width ≠ 0 ∧ x.thickness ≠ 0)) :
    (worked bank x window).EndsBare .dimensionsMissing := by
  rw [worked_eq, Working.through_stage rfl, statusStep_stable settled, Working.through_stage rfl,
    show sizeStep x Working.created = Working.created.refuse _ from if_pos (by tauto)]
  exact endsBare_of_refuse rfl rfl _

variable (sized : x.length ≠ 0 ∧ x.width ≠ 0 ∧ x.thickness ≠ 0)
include sized

theorem worked_sized :
    worked bank x window = (sizedWorking x).through (classStep bank x :: handHoldStep x :: stagesOnClass bank x window) := by
  rw [worked_eq, Working.through_stage rfl, statusStep_stable settled, Working.through_stage rfl, sizeStep_sized sized]

theorem worked_unknown (unknown : ¬ ∃ record, bank.Defines x.cls record) : (worked bank x window).EndsBare .classUndefined := by
  have none_ : bank.definedClass x.cls = none :=
    Option.eq_none_iff_forall_ne_some.mpr fun record is => unknown ⟨record, definedClass_iff.mp is⟩
  have refused : classStep bank x (sizedWorking x) = (sizedWorking x).refuse .classUndefined := by
    unfold classStep
    rw [none_]
    rfl
  rw [worked_sized bank window settled sized, Working.through_stage rfl, refused]
  exact endsBare_of_refuse rfl rfl _

theorem worked_known {record : ClassRecord} (defines : bank.Defines x.cls record) :
    worked bank x window = (sizedWorking x).through (handHoldStep x :: stagesOnClass bank x window) := by
  rw [worked_sized bank window settled sized, Working.through_stage rfl, classStep_defined defines]

theorem worked_handHold {record : ClassRecord} (defines : bank.Defines x.cls record) (hand : x.handHold = true) :
    (worked bank x window).EndsBare .handHold := by
  rw [worked_known bank window settled sized defines, Working.through_stage rfl,
    show handHoldStep x (sizedWorking x) = (sizedWorking x).refuse _ from if_pos hand]
  exact endsBare_of_refuse rfl rfl _

/-- A piece that passes the refusing steps is repaired, and the stages run on its class. -/
theorem worked_accepted {record : ClassRecord} (defines : bank.Defines x.cls record) (hand : x.handHold = false) :
    worked bank x window = formatStages bank record x (repairingSteps bank record x window (sizedWorking x)) := by
  have stages : stagesOnClass bank x window = [repairingSteps bank record x window, formatStages bank record x] := by
    unfold stagesOnClass
    rw [definedClass_iff.mpr defines]
  rw [worked_known bank window settled sized defines, Working.through_stage rfl,
    show handHoldStep x (sizedWorking x) = sizedWorking x from if_neg (by simp [hand]), stages, Working.through_stage rfl,
    Working.through_stage rfl]
  rfl

end

/-! ### The input stage's repairs (R74 to R78) -/

theorem chooseZone_zones (bank : Bank) (record : ClassRecord) (area : Nat) :
    bank.Zones record area (chooseZone bank record area).1 (chooseZone bank record area).2 := by
  unfold Bank.Zones chooseZone
  cases chart : bank.chart with
  | none => exact ⟨fun _ => ⟨rfl, rfl⟩, nofun⟩
  | some zones =>
    dsimp only
    refine ⟨fun outside => ?_, fun zones' entry is low at_ => ?_⟩
    · have high : ¬ area < 1000 := by
        rcases outside with none_ | high
        · cases none_
        · omega
      rw [if_neg high]
      exact ⟨rfl, rfl⟩
    · cases Option.some.inj is
      rw [if_pos (by omega), at_]
      dsimp only
      split
      case isTrue unset => exact ⟨fun _ => ⟨rfl, rfl⟩, fun set => absurd unset set⟩
      case isFalse set => exact ⟨fun unset => absurd unset set, fun _ => ⟨rfl, rfl⟩⟩

theorem clampOffset_eq (window : Nat) (offset : Int) :
    (clampOffset window offset).1 = max (-(window : Int)) (min (window : Int) offset)
      ∧ ((clampOffset window offset).2 = true ↔ max (-(window : Int)) (min (window : Int) offset) ≠ offset) := by
  unfold clampOffset
  split
  · exact ⟨by dsimp only; omega, by simp only [true_iff]; omega⟩
  · split
    · exact ⟨by dsimp only; omega, by simp only [true_iff]; omega⟩
    · exact ⟨by dsimp only; omega, by simp only [Bool.false_eq_true, false_iff]; omega⟩

theorem mem_requestedServices {mask : Byte} {k : Nat} : k ∈ requestedServices mask ↔ mask.getLsbD k = true := by
  simp only [requestedServices, List.mem_filter, List.mem_range]
  exact ⟨And.right, fun set => ⟨BitVec.lt_of_getLsbD set, set⟩⟩

/-- A service is defined exactly when the bank has a defined record of it. -/
theorem service_defined {bank : Bank} {k : Nat} :
    (bank.service k).defined = true ↔ ∃ service, bank.services[k]? = some service ∧ service.defined = true := by
  unfold Bank.service
  cases bank.services[k]? with
  | none => simp
  | some service => simp

theorem service_excludes {bank : Bank} {j k : Nat} :
    (bank.service j).excludes.getLsbD k = true ↔ ∃ service, bank.services[j]? = some service ∧ service.excludes.getLsbD k = true := by
  unfold Bank.service
  cases bank.services[j]? with
  | none => simp
  | some service => simp

theorem exclude_iff {bank : Bank} {j k : Nat} : exclude bank j k = true ↔ bank.Excludes j k := by
  rw [exclude, Bool.or_eq_true, service_excludes, service_excludes]
  rfl

theorem mem_definedServices {bank : Bank} {x : InputCopy} {k : Nat} :
    k ∈ definedServices bank x.services ↔ bank.Offers x k := by
  rw [definedServices, List.mem_filter, mem_requestedServices, service_defined]
  rfl

theorem keepServices_sublist (bank : Bank) (ks kept : List Nat) : (keepServices bank ks kept).Sublist (kept ++ ks) := by
  induction ks generalizing kept with
  | nil => simp [keepServices]
  | cons k ks ih =>
    unfold keepServices
    split
    · exact (ih kept).trans (List.Sublist.append_left (List.sublist_cons_self k ks) kept)
    · simpa using ih (kept ++ [k])

theorem kept_sublist (bank : Bank) (ks kept : List Nat) : kept.Sublist (keepServices bank ks kept) := by
  induction ks generalizing kept with
  | nil => exact .refl _
  | cons k ks ih =>
    unfold keepServices
    split
    · exact ih kept
    · exact (List.sublist_append_left kept [k]).trans (ih (kept ++ [k]))

/-- Of services in ascending order exactly those are kept that exclude none kept before them (R76). -/
theorem mem_keepServices {bank : Bank} {ks kept : List Nat} (sorted : (kept ++ ks).Pairwise (fun j k => j < k)) (k : Nat) :
    k ∈ keepServices bank ks kept ↔ k ∈ kept ∨ (k ∈ ks ∧ ∀ j ∈ keepServices bank ks kept, j < k → ¬ bank.Excludes j k) := by
  induction ks generalizing kept with
  | nil => simp [keepServices]
  | cons k' ks ih =>
    have among := keepServices_sublist bank (k' :: ks) kept
    have before := kept_sublist bank (k' :: ks) kept
    obtain ⟨sortedKept, sortedRest, apart⟩ := List.pairwise_append.mp sorted
    obtain ⟨first, sortedKs⟩ := List.pairwise_cons.mp sortedRest
    have apart' : ∀ j ∈ kept, ∀ i ∈ ks, j < i := fun j hj i hi => apart j hj i (List.mem_cons_of_mem _ hi)
    unfold keepServices at among before ⊢
    split
    case isTrue excluded =>
      rw [if_pos excluded] at among before
      have rest := ih (kept := kept) (List.pairwise_append.mpr ⟨sortedKept, sortedKs, apart'⟩)
      obtain ⟨j, hj, excludes⟩ := List.any_eq_true.mp excluded
      have blocked : ¬ ∀ i ∈ keepServices bank ks kept, i < k' → ¬ bank.Excludes i k' :=
        fun none_ => none_ j (before.subset hj) (apart j hj k' List.mem_cons_self) (exclude_iff.mp excludes)
      rw [rest, List.mem_cons]
      constructor
      · rintro (old | ⟨listed, free⟩)
        · exact .inl old
        · exact .inr ⟨.inr listed, free⟩
      · rintro (old | ⟨rfl | listed, free⟩)
        · exact .inl old
        · exact absurd free blocked
        · exact .inr ⟨listed, free⟩
    case isFalse unexcluded =>
      have rest := ih (kept := kept ++ [k']) (by simpa using sorted)
      have own : ∀ i ∈ keepServices bank ks (kept ++ [k']), i < k' → ¬ bank.Excludes i k' := by
        intro i hi below excludes
        rcases List.mem_append.mp ((keepServices_sublist bank ks (kept ++ [k'])).subset hi) with old | listed
        · rcases List.mem_append.mp old with old | is
          · exact unexcluded (List.any_eq_true.mpr ⟨i, old, exclude_iff.mpr excludes⟩)
          · rw [List.mem_singleton.mp is] at below
            exact lt_irrefl _ below
        · exact absurd (first i listed) (by omega)
      rw [rest, List.mem_append, List.mem_singleton, List.mem_cons]
      constructor
      · rintro ((old | rfl) | ⟨listed, free⟩)
        · exact .inl old
        · exact .inr ⟨.inl rfl, own⟩
        · exact .inr ⟨.inr listed, free⟩
      · rintro (old | ⟨rfl | listed, free⟩)
        · exact .inl (.inl old)
        · exact .inl (.inr rfl)
        · exact .inr ⟨listed, free⟩

theorem requestedServices_sorted (mask : Byte) : (requestedServices mask).Pairwise (fun j k => j < k) :=
  List.pairwise_lt_range.sublist List.filter_sublist

theorem keptServices_keeps (bank : Bank) (x : InputCopy) : bank.Keeps x (keptServices bank x.services) := by
  have sorted : (definedServices bank x.services).Pairwise (fun j k => j < k) :=
    (requestedServices_sorted x.services).sublist List.filter_sublist
  refine ⟨sorted.sublist (keepServices_sublist bank (definedServices bank x.services) []), fun k => ?_⟩
  have kept := mem_keepServices (bank := bank) (ks := definedServices bank x.services) (kept := []) sorted k
  rw [mem_definedServices] at kept
  exact kept.trans ⟨fun h => h.resolve_left List.not_mem_nil, .inr⟩

/-- A service is dropped exactly when one requested is not kept. -/
theorem serviceDropped_iff (bank : Bank) (mask : Byte) :
    (keptServices bank mask).length < (requestedServices mask).length ↔ ∃ k, mask.getLsbD k = true ∧ k ∉ keptServices bank mask := by
  have among : (keptServices bank mask).Sublist (requestedServices mask) :=
    (keepServices_sublist bank (definedServices bank mask) []).trans List.filter_sublist
  constructor
  · intro fewer
    by_contra all
    have within : requestedServices mask ⊆ keptServices bank mask := by
      intro k listed
      by_contra dropped
      exact all ⟨k, mem_requestedServices.mp listed, dropped⟩
    have nodup : (requestedServices mask).Nodup := (requestedServices_sorted mask).imp fun below => ne_of_lt below
    exact absurd (List.subperm_of_subset nodup within).length_le (by omega)
  · rintro ⟨k, requested, dropped⟩
    by_contra enough
    have same := among.eq_of_length_le (not_lt.mp enough)
    exact dropped (same ▸ mem_requestedServices.mpr requested)

theorem chooseTier_eq (record : ClassRecord) (tier : Nat) :
    ((1 ≤ tier ∧ tier ≤ 3 ∧ record.tierMask.getLsbD tier = true) → chooseTier record tier = (tier, false))
      ∧ (¬ (1 ≤ tier ∧ tier ≤ 3 ∧ record.tierMask.getLsbD tier = true) → chooseTier record tier = (0, decide (tier ≠ 0))) := by
  unfold chooseTier
  refine ⟨fun ⟨low, high, offered⟩ => ?_, fun ungiven => ?_⟩
  · rw [if_neg (by omega), if_pos ⟨by omega, offered⟩]
  · by_cases zero : tier = 0
    · rw [if_pos zero]
      simp [zero]
    · rw [if_neg zero, if_neg fun given => ungiven ⟨by omega, by omega, given.2⟩]
      simp [zero]

/-- What the input stage leaves of a piece that passed its checks. -/
theorem repaired_repairingSteps (bank : Bank) (record : ClassRecord) (x : InputCopy) (window : Nat) :
    (repairingSteps bank record x window (sizedWorking x)).Repaired bank record x window := by
  obtain ⟨given, ungiven⟩ := chooseTier_eq record x.tier
  obtain ⟨offset, clamped⟩ := clampOffset_eq window x.offset
  refine ⟨rfl, rfl, chooseZone_zones bank record x.area, keptServices_keeps bank x, ?_, fun is => ?_, fun is => ?_, ?_, ?_, clamped⟩
  · exact decide_eq_true_iff.trans (serviceDropped_iff bank x.services)
  · show (chooseTier record x.tier).1 = x.tier ∧ ∀ d, _ → tierFactor record (chooseTier record x.tier).1 = d
    rw [given is]
    refine ⟨rfl, fun d at_ => ?_⟩
    unfold tierFactor
    have set : ¬ x.tier = 0 := by omega
    simp [set, at_]
  · show (chooseTier record x.tier).1 = 0 ∧ tierFactor record (chooseTier record x.tier).1 = 0
    rw [ungiven is]
    exact ⟨rfl, rfl⟩
  · show (chooseTier record x.tier).2 = true ↔ _
    by_cases is : 1 ≤ x.tier ∧ x.tier ≤ 3 ∧ record.tierMask.getLsbD x.tier = true
    · rw [given is]
      simp [is]
    · rw [ungiven is]
      simp [is]
  · exact congrArg some offset

end Sys2Proof.Machine
end

section
/-! SUPPORT. The format and the amounts of a rating, in the terms of chapter 4 (R68, R79 to R87). -/

namespace Sys2Proof.Machine

/-! ### What the stages after the input stage leave alone -/

/-- The flags of the input stage, and those of the limit stage, that no stage between them sets. -/
def CondFlags.kept (f : CondFlags) : List Bool :=
  [f.belowMin, f.atCap, f.aboveCap, f.zoneDefault, f.serviceDropped, f.tierIgnored, f.offsetClamped]

/-- What no stage of a list changes, the stages in their order do not change. -/
theorem through_keeps {α : Type} {g : Working → α} {stages : List (Working → Working)} (kept : ∀ stage ∈ stages, ∀ v, g (stage v) = g v)
    (w : Working) : g (w.through stages) = g w := by
  induction stages generalizing w with
  | nil => rfl
  | cons stage stages ih =>
    unfold Working.through
    split
    · rfl
    · exact (ih (fun s hs => kept s (List.mem_cons_of_mem _ hs)) (stage w)).trans (kept stage List.mem_cons_self w)

/-- What the input stage leaves of the working values. -/
def Working.ofInput (w : Working) : (Nat × Nat × Nat × List Nat × Nat × Nat × Option Int) × List Bool :=
  ((w.length, w.width, w.zone, w.kept, w.tier, w.factor, w.offset), w.flags.kept)

theorem ofInput_pricing {bank : Bank} {record : ClassRecord} {f : Format} {x : InputCopy} :
    ∀ stage ∈ pricingStages bank record f x, ∀ v : Working, (stage v).ofInput = v.ofInput := by
  intro stage listed v
  simp only [pricingStages, List.mem_cons, List.not_mem_nil, or_false] at listed
  rcases listed with rfl | rfl | rfl | rfl | rfl | rfl | rfl
  · rfl
  · unfold baseStage
    split <;> rfl
  · unfold admissionStage
    split <;> rfl
  · rfl
  · rfl
  · rfl
  · rfl

theorem ofInput_formatStages (bank : Bank) (record : ClassRecord) (x : InputCopy) (w : Working) :
    (formatStages bank record x w).ofInput = w.ofInput := by
  unfold formatStages
  split
  · rfl
  · exact through_keeps ofInput_pricing _

theorem Working.Repaired.of_ofInput {w v : Working} {bank : Bank} {record : ClassRecord} {x : InputCopy} {window : Nat}
    (h : w.Repaired bank record x window) (same : v.ofInput = w.ofInput) : v.Repaired bank record x window := by
  simp only [Working.ofInput, CondFlags.kept, Prod.mk.injEq, List.cons.injEq] at same
  obtain ⟨⟨length, width, zone, kept, tier, factor, offset⟩, -, -, -, zoneDefault, dropped, ignored, clamped, -⟩ := same
  unfold Working.Repaired at h ⊢
  rw [length, width, zone, kept, tier, factor, offset, zoneDefault, dropped, ignored, clamped]
  exact h

/-! ### The format (R79) -/

theorem fits_iff {f : Format} {x : InputCopy} {w : Working} (length : w.length = max x.length x.width)
    (width : w.width = min x.length x.width) : f.fits x w = true ↔ f.Admits x := by
  unfold Format.fits Format.Admits
  rw [length, width]
  simp only [Bool.and_eq_true, decide_eq_true_iff, and_assoc]

theorem chooseFormat_none {x : InputCopy} {w : Working} {fs : List Format} (unfit : ∀ f ∈ fs, f.fits x w = false) (number : Nat) :
    chooseFormat x w fs number = none := by
  induction fs generalizing number with
  | nil => rfl
  | cons f fs ih =>
    unfold chooseFormat
    rw [unfit f List.mem_cons_self]
    exact ih (fun g hg => unfit g (List.mem_cons_of_mem _ hg)) (number + 1)

theorem chooseFormat_first {x : InputCopy} {w : Working} {fs : List Format} {i : Nat} {f : Format} (at_ : fs[i]? = some f)
    (fits : f.fits x w = true) (before : ∀ (k : Nat) g, k < i → fs[k]? = some g → g.fits x w = false) (number : Nat) :
    chooseFormat x w fs number = some (number + i, f) := by
  induction fs generalizing number i with
  | nil => cases at_
  | cons g fs ih =>
    unfold chooseFormat
    cases i with
    | zero =>
      cases Option.some.inj at_
      rw [fits]
      rfl
    | succ i =>
      rw [before 0 g (Nat.succ_pos i) rfl]
      refine (ih at_ (fun k h low at_ => before (k + 1) h (by omega) at_) (number + 1)).trans ?_
      rw [Nat.add_right_comm]
      rfl

/-- The chosen format is one of the list, counted from the first number. -/
theorem chooseFormat_some {x : InputCopy} {w : Working} {fs : List Format} {number n : Nat} {f : Format}
    (is : chooseFormat x w fs number = some (n, f)) : number ≤ n ∧ n < number + fs.length := by
  induction fs generalizing number with
  | nil => cases is
  | cons g fs ih =>
    unfold chooseFormat at is
    split at is
    · cases is
      exact ⟨le_rfl, by simp⟩
    · have := ih is
      simp only [List.length_cons]
      omega

/-! ### The weight and the base price (R80 to R82) -/

theorem ceilDiv_eq (x d : Nat) : ceilDiv x d = (x + (d - 1)) / d := by
  unfold ceilDiv
  cases d with
  | zero => simp
  | succ d => rw [show x + (d + 1) - 1 = x + (d + 1 - 1) by omega]

theorem weighs_chargeableWeight {f : Format} {x : InputCopy} {w : Working} (length : w.length = max x.length x.width)
    (width : w.width = min x.length x.width) : f.Weighs x (chargeableWeight f x w).1 (chargeableWeight f x w).2 := by
  have area : w.length * w.width = x.length * x.width := by rw [length, width, max_mul_min]
  unfold Format.Weighs chargeableWeight
  cases divisor : f.divisor with
  | none => exact ⟨fun _ => ⟨rfl, rfl⟩, nofun⟩
  | some d =>
    refine ⟨nofun, fun d' is => ?_⟩
    cases Option.some.inj is
    dsimp only
    unfold volumetricWeight
    rw [area, ceilDiv_eq]
    exact ⟨rfl, decide_eq_true_iff⟩

theorem basePrice_none {f : Format} {weight : Nat} (bare : f.extension = none) (above : ∀ b ∈ f.breaks, b.bound < weight) :
    basePrice f weight = none := by
  have unfound : f.breaks.find? (fun k => decide (weight ≤ k.bound)) = none :=
    List.find?_eq_none.mpr fun b hb => by simpa using above b hb
  unfold basePrice
  rw [unfound, bare]

theorem basePrice_some {f : Format} {weight base : Nat} (prices : f.Prices weight base) : basePrice f weight = some base := by
  unfold basePrice
  rcases prices with ⟨k, b, at_, within, before, rfl⟩ | ⟨last, extension, is, extends_, above, rfl⟩
  · have found : f.breaks.find? (fun k => decide (weight ≤ k.bound)) = some b := by
      refine List.find?_eq_some_iff_getElem.mpr ⟨by simpa using within, k, ?_⟩
      obtain ⟨low, is⟩ := List.getElem?_eq_some_iff.mp at_
      refine ⟨low, is, fun j below => ?_⟩
      simpa using before j _ below (List.getElem?_eq_getElem (by omega))
    rw [found]
  · have unfound : f.breaks.find? (fun k => decide (weight ≤ k.bound)) = none :=
      List.find?_eq_none.mpr fun b hb => by simpa using above b hb
    rw [unfound, extends_]
    dsimp only
    rw [ceilDiv_eq, Format.lastBreak, is]
    rfl

end Sys2Proof.Machine
end

section
/-! SUPPORT. A rating from its first stage to its result (R67 to R89). -/

namespace Sys2Proof.Machine

/-! ### The stages on the format chosen -/

/-- The working values on a format, its chargeable weight worked. -/
def Working.weighed (w : Working) (f : Format) (x : InputCopy) (number : Nat) : Working := weightStage f x { w with format := number }

/-- The stages after the weight. -/
def amountStages (bank : Bank) (record : ClassRecord) (f : Format) : List (Working → Working) :=
  [baseStage f, admissionStage f, zoneStage record, discountStage, servicesStage bank, roundingStage bank]

/-- The working values with the base price worked. -/
def Working.based (w : Working) (base : Nat) : Working := { w with base := (saturate base).1, flags := w.overflowed base }

/-- The working values with every later amount worked. -/
def Working.priced (w : Working) (bank : Bank) (record : ClassRecord) : Working :=
  roundingStage bank (servicesStage bank (discountStage (zoneStage record w)))

section
variable {bank : Bank} {record : ClassRecord} {x : InputCopy} {w : Working} (going : w.refusal = none)

include going in
theorem formatStages_some {number : Nat} {f : Format} (chosen : chooseFormat x w record.formats 1 = some (number, f)) :
    formatStages bank record x w = (w.weighed f x number).through (amountStages bank record f) := by
  unfold formatStages
  rw [chosen]
  exact Working.through_stage (w := { w with format := number }) going _ _

/-- The number of the format, the weight and its flag stay as the weight's stage left them. -/
def Working.ofWeight (w : Working) : Nat × Nat × Bool := (w.format, w.weight, w.flags.volumetric)

theorem ofWeight_amounts {f : Format} : ∀ stage ∈ amountStages bank record f, ∀ v : Working, (stage v).ofWeight = v.ofWeight := by
  intro stage listed v
  simp only [amountStages, List.mem_cons, List.not_mem_nil, or_false] at listed
  rcases listed with rfl | rfl | rfl | rfl | rfl | rfl
  · unfold baseStage
    split <;> rfl
  · unfold admissionStage
    split <;> rfl
  · rfl
  · rfl
  · rfl
  · rfl

variable {f : Format}
include going

theorem amountStages_over (over_ : basePrice f w.weight = none) :
    w.through (amountStages bank record f) = w.refuse .overWeight := by
  have refused : baseStage f w = w.refuse .overWeight := by
    unfold baseStage
    rw [over_]
  unfold amountStages
  rw [Working.through_stage going, refused]
  exact Working.through_ended rfl _

theorem amountStages_based {base : Nat} (priced : basePrice f w.weight = some base) :
    w.through (amountStages bank record f)
      = if admitted f w.kept then (w.based base).priced bank record else (w.based base).refuse .serviceNotAllowed := by
  have based : baseStage f w = w.based base := by
    unfold baseStage
    rw [priced]
    rfl
  have kept : (w.based base).kept = w.kept := rfl
  unfold amountStages
  rw [Working.through_stage going, based, Working.through_stage (w := w.based base) going]
  unfold admissionStage
  rw [kept]
  split
  · rw [Working.through_stage (w := w.based base) going, Working.through_stage (w := zoneStage record (w.based base)) going,
      Working.through_stage (w := discountStage (zoneStage record (w.based base))) going,
      Working.through_stage (w := servicesStage bank (discountStage (zoneStage record (w.based base)))) going]
    rfl
  · exact Working.through_ended rfl _

end

/-! ### The amounts (R68, R84 to R87) -/

theorem serviceSum_eq (bank : Bank) (kept : List Nat) :
    serviceSum bank kept = (kept.map (fun k => ((bank.services[k]?).map Service.amount).getD 0)).sum := by
  unfold serviceSum
  refine congrArg List.sum (List.map_congr_left fun k _ => ?_)
  unfold Bank.service
  cases bank.services[k]? <;> rfl

theorem totals_priced {bank : Bank} {record : ClassRecord} {w : Working} {base factor : Nat} (fresh : w.flags.overflow = false)
    (at_ : record.zoneFactors[w.zone]? = some factor) :
    ((w.based base).priced bank record).Totals bank factor base := by
  have zonedIs : zonedAmount (w.based base).base ((record.zoneFactors[w.zone]?).getD 0) = ((w.based base).base * factor + 2048) / 4096 := by
    rw [at_]
    rfl
  have overflowIs : ((w.based base).priced bank record).flags.overflow
      = (((w.flags.overflow || decide (4294967295 < base))
          || decide (4294967295 < zonedAmount (w.based base).base ((record.zoneFactors[w.zone]?).getD 0)))
        || decide (4294967295 < serviceTotal ((w.based base).priced bank record).net (serviceSum bank w.kept))) := rfl
  have totalIs : ((w.based base).priced bank record).total
      = min (serviceTotal ((w.based base).priced bank record).net (serviceSum bank w.kept)) 4294967295 := rfl
  have zonedAt : ((w.based base).priced bank record).zoned
      = min (zonedAmount (w.based base).base ((record.zoneFactors[w.zone]?).getD 0)) 4294967295 := rfl
  have postageIs : ((w.based base).priced bank record).postage = roundPostage bank.rounding ((w.based base).priced bank record).total := rfl
  have kept : ((w.based base).priced bank record).kept = w.kept := rfl
  have based : ((w.based base).priced bank record).base = (w.based base).base := rfl
  unfold Working.Totals serviceTotal at *
  intro zoned total
  rw [serviceSum_eq, ← kept] at totalIs overflowIs
  rw [zonedIs, ← based] at zonedAt overflowIs
  change ((w.based base).priced bank record).total = min total.toNat 4294967295 at totalIs
  change _ = (_ || decide (4294967295 < total.toNat)) at overflowIs
  refine ⟨zonedAt, rfl, rfl, fun none_ => ?_, fun _ => totalIs, ?_, ?_⟩
  · rw [totalIs]
    omega
  · rw [postageIs]
    unfold roundPostage
    cases bank.rounding <;> rfl
  · rw [overflowIs, fresh]
    simp only [Bool.false_or, Bool.or_eq_true, decide_eq_true_iff, or_assoc]
    exact or_congr_right (or_congr_right (by omega))

/-! ### The result (R69, R88, R89) -/

theorem result_accepted {w : Working} {bank : Bank} {x : InputCopy} {record : ClassRecord} (going : w.refusal = none)
    (defines : bank.Defines x.cls record) (cap : Option Nat) :
    w.result bank x cap = match limitStage bank record cap w.postage w.flags with
      | (some postage, flags) => { rated := .priced postage w.format w.zone w.weight, flags := flags, offset := w.offset }
      | (none, flags) => w.refused .overCap flags := by
  unfold Working.result
  rw [going, definedClass_iff.mpr defines] <;> rfl

theorem result_overflow {w : Working} {bank : Bank} {x : InputCopy} {record : ClassRecord} (going : w.refusal = none)
    (defines : bank.Defines x.cls record) (cap : Option Nat) (overflow : w.flags.overflow = true) :
    w.result bank x cap = w.refused .overCap { w.flags with aboveCap := true } := by
  have limit : limitStage bank record cap w.postage w.flags = (none, { w.flags with aboveCap := true }) := if_pos overflow
  rw [result_accepted going defines, limit]

theorem result_above {w : Working} {bank : Bank} {x : InputCopy} {record : ClassRecord} (going : w.refusal = none)
    (defines : bank.Defines x.cls record) (cap : Option Nat) (fresh : w.flags.overflow = false)
    (above : postageCap bank cap < max w.postage record.minimum) :
    w.result bank x cap = w.refused .overCap { w.flags with belowMin := decide (w.postage < record.minimum), aboveCap := true } := by
  have limit : limitStage bank record cap w.postage w.flags
      = (none, { w.flags with belowMin := decide (w.postage < record.minimum), aboveCap := true }) :=
    (if_neg (by simp [fresh])).trans (if_pos above)
  rw [result_accepted going defines, limit]

theorem result_within {w : Working} {bank : Bank} {x : InputCopy} {record : ClassRecord} (going : w.refusal = none)
    (defines : bank.Defines x.cls record) (cap : Option Nat) (fresh : w.flags.overflow = false)
    (within : max w.postage record.minimum ≤ postageCap bank cap) :
    w.result bank x cap =
      { rated := .priced (max w.postage record.minimum) w.format w.zone w.weight, offset := w.offset
        flags := { w.flags with
          belowMin := decide (w.postage < record.minimum), atCap := decide (max w.postage record.minimum = postageCap bank cap) } } := by
  have limit : limitStage bank record cap w.postage w.flags
      = (some (max w.postage record.minimum), { w.flags with
          belowMin := decide (w.postage < record.minimum), atCap := decide (max w.postage record.minimum = postageCap bank cap) }) :=
    (if_neg (by simp [fresh])).trans (if_neg (not_lt.mpr within))
  rw [result_accepted going defines, limit]

/-! ### The flags' word (11.3) -/

theorem testBit_foldr_bit (bits : List Bool) (k : Nat) : (bits.foldr Nat.bit 0).testBit k = (bits[k]?).getD false := by
  induction bits generalizing k with
  | nil => simp
  | cons b bits ih =>
    cases k with
    | zero => simp
    | succ k => exact (Nat.testBit_bit_succ _ _ _).trans (ih k)

theorem getLsbD_word (f : CondFlags) (k : Nat) :
    f.word.getLsbD k = ([f.belowMin, f.atCap, f.aboveCap, f.overflow, f.zoneDefault, f.serviceDropped, f.tierIgnored, f.offsetClamped,
        f.volumetric][k]?).getD false := by
  have flag : ∀ (b : Bool) (i : Nat), flagBit b i = b.toNat * 2 ^ i := by
    intro b i
    cases b <;> simp [flagBit]
  have sum : flagBit f.belowMin 0 + flagBit f.atCap 1 + flagBit f.aboveCap 2 + flagBit f.overflow 3 + flagBit f.zoneDefault 4
      + flagBit f.serviceDropped 5 + flagBit f.tierIgnored 6 + flagBit f.offsetClamped 7 + flagBit f.volumetric 8
      = [f.belowMin, f.atCap, f.aboveCap, f.overflow, f.zoneDefault, f.serviceDropped, f.tierIgnored, f.offsetClamped,
        f.volumetric].foldr Nat.bit 0 := by
    simp only [flag, List.foldr_cons, List.foldr_nil, Nat.bit_val]
    ring
  unfold CondFlags.word
  rw [sum, BitVec.getLsbD_ofNat, testBit_foldr_bit]
  by_cases low : k < 16
  · simp [low]
  · rw [List.getElem?_eq_none (by simp only [List.length_cons, List.length_nil]; omega)]
    simp

/-! ### The statement's parts -/

section
variable {bank : Bank} {record : ClassRecord} {x : InputCopy} {window : Nat} (settled : x.status = .stable)
  (sized : x.length ≠ 0 ∧ x.width ≠ 0 ∧ x.thickness ≠ 0) (defines : bank.Defines x.cls record) (hand : x.handHold = false)

/-- The working values as the input stage leaves them. -/
def inputWorking (bank : Bank) (record : ClassRecord) (x : InputCopy) (window : Nat) : Working :=
  repairingSteps bank record x window (sizedWorking x)

include settled sized defines hand

theorem worked_ofInput : (worked bank x window).ofInput = (inputWorking bank record x window).ofInput := by
  rw [worked_accepted bank window settled sized defines hand]
  exact ofInput_formatStages bank record x _

theorem worked_repaired : (worked bank x window).Repaired bank record x window :=
  (repaired_repairingSteps bank record x window).of_ofInput (worked_ofInput settled sized defines hand)

theorem worked_unlimited : (worked bank x window).flags.belowMin = false ∧ (worked bank x window).flags.atCap = false
    ∧ (worked bank x window).flags.aboveCap = false := by
  have same := congrArg Prod.snd (worked_ofInput (window := window) settled sized defines hand)
  simp only [Working.ofInput, CondFlags.kept, List.cons.injEq] at same
  exact ⟨same.1, same.2.1, same.2.2.1⟩

theorem worked_outOfFormat (unfit : ∀ f ∈ record.formats, ¬ f.Admits x) :
    (worked bank x window).refusal = some .outOfFormat ∧ (worked bank x window).flags.volumetric = false
      ∧ (worked bank x window).flags.overflow = false := by
  have none_ : chooseFormat x (inputWorking bank record x window) record.formats 1 = none :=
    chooseFormat_none (fun f hf => by simpa [← fits_iff (w := inputWorking bank record x window) rfl rfl] using unfit f hf) 1
  rw [worked_accepted bank window settled sized defines hand]
  unfold formatStages
  rw [show chooseFormat x (repairingSteps bank record x window (sizedWorking x)) record.formats 1 = none from none_]
  exact ⟨rfl, rfl, rfl⟩

section
variable {number : Nat} {f : Format} (first : record.FirstFit x number f)
include first

theorem worked_chosen : worked bank x window
    = ((inputWorking bank record x window).weighed f x number).through (amountStages bank record f) := by
  obtain ⟨low, at_, admits, before⟩ := first
  have chosen := chooseFormat_first (w := inputWorking bank record x window) at_ ((fits_iff rfl rfl).mpr admits)
    (fun k g below at_ => by simpa [← fits_iff (w := inputWorking bank record x window) rfl rfl] using before k g (by omega) at_) 1
  rw [show 1 + (number - 1) = number by omega] at chosen
  rw [worked_accepted bank window settled sized defines hand]
  exact formatStages_some rfl chosen

theorem worked_weighed : (worked bank x window).format = number
    ∧ f.Weighs x (worked bank x window).weight (worked bank x window).flags.volumetric := by
  have same : (worked bank x window).ofWeight = ((inputWorking bank record x window).weighed f x number).ofWeight := by
    rw [worked_chosen settled sized defines hand first]
    exact through_keeps ofWeight_amounts _
  simp only [Working.ofWeight, Prod.mk.injEq] at same
  obtain ⟨format, weight, volumetric⟩ := same
  rw [format, weight, volumetric]
  exact ⟨rfl, weighs_chargeableWeight (w := { inputWorking bank record x window with format := number }) rfl rfl⟩

theorem weight_eq : ((inputWorking bank record x window).weighed f x number).weight = (worked bank x window).weight := by
  rw [worked_chosen settled sized defines hand first]
  exact (congrArg (fun p : Nat × Nat × Bool => p.2.1)
    (through_keeps ofWeight_amounts ((inputWorking bank record x window).weighed f x number))).symm

theorem worked_overWeight (bare : f.extension = none) (above : ∀ b ∈ f.breaks, b.bound < (worked bank x window).weight) :
    (worked bank x window).refusal = some .overWeight ∧ (worked bank x window).flags.overflow = false := by
  rw [← weight_eq settled sized defines hand first] at above
  rw [worked_chosen settled sized defines hand first, amountStages_over rfl (basePrice_none bare above)]
  exact ⟨rfl, rfl⟩

theorem worked_priced {base : Nat} (prices : f.Prices (worked bank x window).weight base) :
    (worked bank x window).base = min base 4294967295
      ∧ ((∃ k ∈ (worked bank x window).kept, f.services.getLsbD k = false) →
          (worked bank x window).refusal = some .serviceNotAllowed ∧ ((worked bank x window).flags.overflow = true ↔ 4294967295 < base))
      ∧ ((∀ k ∈ (worked bank x window).kept, f.services.getLsbD k = true) → ∀ factor,
          record.zoneFactors[(worked bank x window).zone]? = some factor →
          (worked bank x window).refusal = none ∧ (worked bank x window).Totals bank factor base) := by
  rw [← weight_eq settled sized defines hand first] at prices
  have based := amountStages_based (bank := bank) (record := record) (w := (inputWorking bank record x window).weighed f x number) rfl
    (basePrice_some prices)
  rw [worked_chosen settled sized defines hand first, based]
  have fresh : ((inputWorking bank record x window).weighed f x number).flags.overflow = false := rfl
  have going : ((inputWorking bank record x window).weighed f x number).refusal = none := rfl
  generalize (inputWorking bank record x window).weighed f x number = v at *
  split
  case isTrue admits =>
    refine ⟨rfl, fun ⟨k, listed, barred⟩ => ?_, fun _ factor at_ => ⟨going, totals_priced fresh at_⟩⟩
    have allowed := List.all_eq_true.mp admits k listed
    rw [barred] at allowed
    cases allowed
  case isFalse bars =>
    refine ⟨rfl, fun _ => ⟨rfl, ?_⟩, fun allowed => absurd (List.all_eq_true.mpr allowed) bars⟩
    show (v.flags.overflow || decide (4294967295 < base)) = true ↔ _
    rw [fresh, Bool.false_or, decide_eq_true_iff]

end

end

/-- A piece that no stage before the limits refuses has passed the input stage, and a format of its class. -/
theorem accepted_of_worked {bank : Bank} {x : InputCopy} {window : Nat} {record : ClassRecord} (going : (worked bank x window).refusal = none)
    (defines : bank.Defines x.cls record) : 1 ≤ (worked bank x window).format ∧ (worked bank x window).format ≤ record.formats.length := by
  have passes : ∀ cause, ¬ (worked bank x window).EndsBare cause := fun cause ends => nomatch going.symm.trans ends.1
  have settled : x.status = .stable := not_not.mp fun unsettled => passes _ (worked_unsettled bank x window unsettled)
  have sized : x.length ≠ 0 ∧ x.width ≠ 0 ∧ x.thickness ≠ 0 := by
    by_contra unsized
    exact passes _ (worked_unsized bank window settled unsized)
  have hand : x.handHold = false := by
    by_contra hand
    exact passes _ (worked_handHold bank window settled sized defines (by simpa using hand))
  rw [worked_accepted bank window settled sized defines hand] at going ⊢
  cases chosen : chooseFormat x (repairingSteps bank record x window (sizedWorking x)) record.formats 1 with
  | none =>
    have refused : formatStages bank record x (repairingSteps bank record x window (sizedWorking x))
        = (repairingSteps bank record x window (sizedWorking x)).refuse .outOfFormat := by
      unfold formatStages
      rw [chosen]
    rw [refused] at going
    cases going
  | some found =>
    obtain ⟨number, f⟩ := found
    have bounds := chooseFormat_some chosen
    have stages := formatStages_some (bank := bank) (record := record) (x := x)
      (w := repairingSteps bank record x window (sizedWorking x)) rfl chosen
    have format : (formatStages bank record x (repairingSteps bank record x window (sizedWorking x))).format = number := by
      rw [stages]
      exact congrArg Prod.fst (through_keeps ofWeight_amounts _)
    rw [format]
    omega

/-- A priced result is within the caps and the minimum. -/
theorem rate_priced {bank : Bank} {x : InputCopy} {window : Nat} {cap : Option Nat} {postage format zone weight : Nat}
    (priced : (rate bank x window cap).rated = .priced postage format zone weight) :
    postage ≤ bank.cap ∧ (∀ c, cap = some c → postage ≤ c) ∧ 1 ≤ format ∧ (rate bank x window cap).flags.overflow = false
      ∧ ∃ record, bank.classes[x.cls]? = some record ∧ record.defined = true ∧ record.minimum ≤ postage
        ∧ format ≤ record.formats.length := by
  have is : rate bank x window cap = (worked bank x window).result bank x cap := rfl
  rw [is] at priced ⊢
  cases going : (worked bank x window).refusal with
  | some cause =>
    rw [Working.result_refused going] at priced
    cases priced
  | none =>
    cases found : bank.definedClass x.cls with
    | none =>
      unfold Working.result at priced
      rw [going, found] at priced
      cases priced
    | some record =>
      have defines := definedClass_iff.mp found
      obtain ⟨low, high⟩ := accepted_of_worked going defines
      cases fresh : (worked bank x window).flags.overflow with
      | true =>
        rw [result_overflow going defines cap fresh] at priced
        cases priced
      | false =>
        by_cases above : postageCap bank cap < max (worked bank x window).postage record.minimum
        · rw [result_above going defines cap fresh above] at priced
          cases priced
        · rw [result_within going defines cap fresh (not_lt.mp above)] at priced ⊢
          obtain ⟨-, -, at_, defined⟩ := defines
          cases priced
          have capped : postageCap bank cap ≤ bank.cap ∧ ∀ c, cap = some c → postageCap bank cap ≤ c := by
            unfold postageCap
            cases cap with
            | none => exact ⟨le_rfl, nofun⟩
            | some c => exact ⟨min_le_left _ _, fun c' is => by cases is; exact min_le_right _ _⟩
          have within := not_lt.mp above
          exact ⟨within.trans capped.1, fun c is => within.trans (capped.2 c is), low, fresh, record, at_, defined, le_max_right _ _, high⟩

/-- Settles O54. -/
theorem postageIsWithinItsLimits : Obligations.PostageIsWithinItsLimits := by
  refine ⟨fun bank x window cap => ⟨rfl, fun _ _ _ _ priced => rate_priced priced⟩, ?_, ?_,
    fun w bank x cap cause refused => Working.result_refused refused bank x cap, ?_, getLsbD_word⟩
  · intro bank x window cause settled sized known refuses w
    rcases refuses with ⟨unsettled, rfl⟩ | ⟨stable, unsized, rfl⟩ | ⟨stable, given, unknown, rfl⟩ | ⟨stable, given, ⟨record, defines⟩, hand, rfl⟩
    · exact worked_unsettled bank x window unsettled
    · exact worked_unsized bank window stable unsized
    · exact worked_unknown bank window stable given unknown
    · exact worked_handHold bank window stable given defines hand
  · intro bank record x window settled length width thickness defines hand w
    have sized : x.length ≠ 0 ∧ x.width ≠ 0 ∧ x.thickness ≠ 0 := ⟨length, width, thickness⟩
    obtain ⟨below, at_, above⟩ := worked_unlimited (window := window) settled sized defines hand
    refine ⟨worked_repaired settled sized defines hand, below, at_, above, worked_outOfFormat settled sized defines hand,
      fun number f first => ?_⟩
    obtain ⟨format, weighs⟩ := worked_weighed (window := window) settled sized defines hand first
    exact ⟨format, weighs, worked_overWeight settled sized defines hand first,
      fun base prices => worked_priced settled sized defines hand first prices⟩
  · intro w bank record x c going defines limit raised below result
    refine ⟨?_, fun overflow => ?_, fun fresh above => ?_, fun fresh within => ?_⟩
    · show (w.result bank x (some c)).offset = w.offset
      rw [result_accepted going defines]
      split <;> rfl
    · show (w.result bank x (some c)).rated = _ ∧ (w.result bank x (some c)).flags = _
      rw [result_overflow going defines (some c) overflow]
      exact ⟨rfl, rfl⟩
    · show (w.result bank x (some c)).rated = _ ∧ (w.result bank x (some c)).flags = _
      rw [result_above going defines (some c) fresh above]
      exact ⟨rfl, rfl⟩
    · show (w.result bank x (some c)).rated = _ ∧ (w.result bank x (some c)).flags = _
      rw [result_within going defines (some c) fresh within]
      exact ⟨rfl, rfl⟩

end Sys2Proof.Machine
end

section
/-! SUPPORT. The bytes of a rate-table image and the fields and record parts read from them (R98, R99, 11.6). -/

namespace Sys2Proof.Machine

/-! ### A field by its bytes -/

theorem ofField_fieldBytes_of_lt {order : BusOrder} {width n : Nat} (small : n < 256 ^ width) :
    ofField order (fieldBytes order width n) = n := by
  rw [ofField_fieldBytes, Nat.mod_eq_of_lt small]

theorem fieldBytes_one (order : BusOrder) (n : Nat) : fieldBytes order 1 n = [BitVec.ofNat 8 n] := by
  cases order <;> rfl

theorem toNat_byte {n : Nat} (small : n < 256) : (BitVec.ofNat 8 n).toNat = n := by
  rw [BitVec.toNat_ofNat, Nat.mod_eq_of_lt small]

theorem ofField_singleton (order : BusOrder) (byte : Byte) : ofField order [byte] = byte.toNat := by
  cases order <;> simp [ofField, ofHighFirst, ofLowFirst]

theorem fieldBytes_two {order : BusOrder} {n : Nat} (small : n < 256 ^ 2) :
    ∃ a b, fieldBytes order 2 n = [a, b] ∧ ofField order [a, b] = n := by
  obtain ⟨a, b, spelled⟩ := List.length_eq_two.mp (length_fieldBytes order 2 n)
  exact ⟨a, b, spelled, spelled ▸ ofField_fieldBytes_of_lt small⟩

theorem fieldBytes_four {order : BusOrder} {n : Nat} (small : n < 256 ^ 4) :
    ∃ a b c d, fieldBytes order 4 n = [a, b, c, d] ∧ ofField order [a, b, c, d] = n := by
  obtain ⟨a, b, c, d, spelled⟩ : ∃ a b c d, fieldBytes order 4 n = [a, b, c, d] := by
    match h : fieldBytes order 4 n, length_fieldBytes order 4 n with
    | [a, b, c, d], _ => exact ⟨a, b, c, d, rfl⟩
  exact ⟨a, b, c, d, spelled, spelled ▸ ofField_fieldBytes_of_lt small⟩

/-- A flag byte reads as its flag (R195). -/
theorem FlagByte.reads {flag : Bool} {byte : Byte} (spells : FlagByte flag byte) : (byte != 0) = flag := by
  rw [Bool.eq_iff_iff, bne_iff_ne]
  exact spells

/-- The same where `simp` has written the zero as a bit vector's. -/
theorem FlagByte.reads_bits {flag : Bool} {byte : Byte} (spells : FlagByte flag byte) : (byte != 0#8) = flag := spells.reads

theorem FlagByte.toNat_reads {flag : Bool} {byte : Byte} (spells : FlagByte flag byte) : (byte.toNat != 0) = flag := by
  rw [← spells.reads, Bool.eq_iff_iff, bne_iff_ne, bne_iff_ne, ne_eq, ne_eq, BitVec.toNat_eq]
  rfl

/-- A header field stands where the bytes before it end. -/
theorem headerField_at {order : BusOrder} {image before field after : List Byte} {offset width : Nat}
    (laid : image = before ++ (field ++ after)) (start : before.length = offset) (wide : field.length = width) :
    headerField order image offset width = ofField order field := by
  unfold headerField
  rw [laid, ← start, List.drop_left, ← wide, List.take_left]

/-! ### Parts of a record -/

theorem takeBytes_append {n : Nat} {part : List Byte} (rest : List Byte) (wide : part.length = n) :
    takeBytes n (part ++ rest) = some (part, rest) := by
  subst wide
  simp [takeBytes]

/-- An optional part is read as it is spelled. -/
theorem takeWhen_isSome {α : Type} {item : Option α} {spell : α → List Byte} {n : Nat} (rest : List Byte)
    (wide : ∀ x, item = some x → (spell x).length = n) :
    takeWhen item.isSome n ((item.map spell).getD [] ++ rest) = some (item.map spell, rest) := by
  cases item with
  | none => rfl
  | some x => simp [takeWhen, takeBytes_append rest (wide x rfl)]

theorem takeWhen_append {α : Type} {item : Option α} {byte : Byte} {spell : α → List Byte} {n : Nat} (rest : List Byte)
    (flagged : FlagByte item.isSome byte) (wide : ∀ x, item = some x → (spell x).length = n) :
    takeWhen (byte != 0) n ((item.map spell).getD [] ++ rest) = some (item.map spell, rest) := by
  rw [flagged.reads]
  exact takeWhen_isSome rest wide

theorem fieldsOf_append {order : BusOrder} {width : Nat} {xs : List Nat} (rest : List Byte) (small : ∀ x ∈ xs, x < 256 ^ width) :
    fieldsOf order width xs.length (xs.flatMap (fieldBytes order width) ++ rest) = xs := by
  induction xs with
  | nil => rfl
  | cons x xs ih =>
    simp only [List.mem_cons, forall_eq_or_imp] at small
    rw [List.flatMap_cons, List.append_assoc, List.length_cons, fieldsOf, List.take_left' (length_fieldBytes ..),
      List.drop_left' (length_fieldBytes ..), ih small.2, ofField_fieldBytes_of_lt small.1]

theorem breaksOf_append {order : BusOrder} {breaks : List Break} (rest : List Byte)
    (small : ∀ k ∈ breaks, k.bound < 256 ^ 2 ∧ k.price < 256 ^ 4) :
    breaksOf order breaks.length (breaks.flatMap (fun x => fieldBytes order 2 x.bound ++ fieldBytes order 4 x.price) ++ rest)
      = breaks := by
  induction breaks with
  | nil => rfl
  | cons k breaks ih =>
    simp only [List.mem_cons, forall_eq_or_imp] at small
    obtain ⟨⟨boundSmall, priceSmall⟩, others⟩ := small
    obtain ⟨a, b, bound, readsBound⟩ := fieldBytes_two (order := order) boundSmall
    obtain ⟨c, d, e, f, price, readsPrice⟩ := fieldBytes_four (order := order) priceSmall
    rw [List.flatMap_cons, bound, price, List.length_cons, breaksOf]
    simp [ih others, readsBound, readsPrice]

theorem length_breaks (order : BusOrder) (breaks : List Break) :
    (breaks.flatMap (fun x => fieldBytes order 2 x.bound ++ fieldBytes order 4 x.price)).length = 6 * breaks.length := by
  simp [List.length_flatMap, mul_comm]

theorem length_fields (order : BusOrder) (width : Nat) (xs : List Nat) :
    (xs.flatMap (fieldBytes order width)).length = width * xs.length := by
  simp [List.length_flatMap, mul_comm]

theorem toNat_bytes {order : BusOrder} {xs : List Nat} (small : ∀ x ∈ xs, x < 256) :
    (xs.flatMap (fieldBytes order 1)).map BitVec.toNat = xs := by
  induction xs with
  | nil => rfl
  | cons x xs ih =>
    simp only [List.mem_cons, forall_eq_or_imp] at small
    rw [List.flatMap_cons, fieldBytes_one, List.map_append, ih small.2, List.map_singleton, toNat_byte small.1]
    rfl

/-! ### The service records -/

theorem signedOf_unsignedOf {x : Int} (low : -2147483648 ≤ x) (high : x < 2147483648) : signedOf 32 (unsignedOf 32 x) = x := by
  unfold signedOf unsignedOf
  rw [BitVec.ofNat_toNat, BitVec.setWidth_eq, BitVec.toInt_ofInt]
  exact Int.bmod_eq_of_le (by norm_num; omega) (by norm_num; omega)

theorem unsignedOf_lt (x : Int) : unsignedOf 32 x < 256 ^ 4 := (BitVec.ofInt 32 x).isLt

/-- The service records are read as they are spelled, six bytes each. -/
theorem servicesOf_encoded {order : BusOrder} {services : List Service} {bytes : List Byte}
    (spelled : EncodesEach (EncodesService order) services bytes)
    (fit : ∀ k ∈ services, -2147483648 ≤ k.amount ∧ k.amount < 2147483648) :
    servicesOf order services.length bytes = services ∧ bytes.length = 6 * services.length := by
  induction services generalizing bytes with
  | nil => exact ⟨rfl, by simp [show bytes = [] from spelled]⟩
  | cons k services ih =>
    simp only [List.mem_cons, forall_eq_or_imp] at fit
    obtain ⟨⟨low, high⟩, others⟩ := fit
    obtain ⟨first, rest, rfl, ⟨flag, flagged, rfl⟩, spelledRest⟩ := spelled
    obtain ⟨a, b, c, d, amount, readsAmount⟩ := fieldBytes_four (order := order) (unsignedOf_lt k.amount)
    obtain ⟨readRest, lengthRest⟩ := ih spelledRest others
    rw [amount]
    constructor
    · simp only [List.length_cons, servicesOf, List.cons_append, List.nil_append]
      simp [readRest, readsAmount, signedOf_unsignedOf low high, flagged.reads_bits]
    · simp [lengthRest]
      omega

end Sys2Proof.Machine
end

section
/-! SUPPORT. The walk of a rate-table image on the bytes that spell its records: it ends at the first count out of range, or
reads the records back (R99). -/

namespace Sys2Proof.Machine

/-! ### The first check that fails -/

theorem firstFailed_append (first rest : List LoadCheck) :
    firstFailed (first ++ rest) = (firstFailed first).or (firstFailed rest) := by
  unfold firstFailed
  rw [List.find?_append]
  cases first.find? (fun check => !check.2) <;> rfl

theorem firstFailed_cons (report : LoadReport) (passes : Bool) (rest : List LoadCheck) :
    firstFailed ((report, passes) :: rest) = if passes then firstFailed rest else some report := by
  cases passes <;> rfl

theorem firstFailed_one (report : LoadReport) (passes : Bool) :
    firstFailed [(report, passes)] = if passes then none else some report := firstFailed_cons report passes []

/-- What steps 3 to 6 give when their checks find a fault or none. -/
def verdict {α : Type} (checks : List LoadCheck) (value : α) : Except LoadFailure α :=
  match firstFailed checks with
  | some report => .error { status := .badArgument, report := report }
  | none => .ok value

theorem verdict_of_failed {α : Type} {checks : List LoadCheck} {report : LoadReport} (value : α)
    (failed : firstFailed checks = some report) :
    verdict checks value = .error { status := .badArgument, report := report } := by simp [verdict, failed]

theorem verdict_of_passed {α : Type} {checks : List LoadCheck} (value : α) (passed : firstFailed checks = none) :
    verdict checks value = .ok value := by simp [verdict, passed]

/-! ### The parts of a table that fit their bytes -/

/-- A format record whose fields fit their bytes (11.6). -/
def Format.FitsBytes (f : Format) : Prop :=
  f.maxLength < 256 ^ 2 ∧ f.maxWidth < 256 ^ 2 ∧ f.maxThickness < 256 ^ 2 ∧ f.maxWeight < 256 ^ 2
    ∧ (∀ divisor, f.divisor = some divisor → divisor < 256 ^ 4) ∧ f.breaks.length < 256
    ∧ (∀ k ∈ f.breaks, k.bound < 256 ^ 2 ∧ k.price < 256 ^ 4)
    ∧ ∀ k, f.extension = some k → k.step < 256 ^ 2 ∧ k.price < 256 ^ 4

/-- A class record whose fields fit their bytes (11.6). -/
def ClassRecord.FitsBytes (c : ClassRecord) : Prop :=
  c.minimum < 256 ^ 4 ∧ c.defaultZone < 256 ∧ c.zoneFactors.length = 16 ∧ c.tierFactors.length = 4
    ∧ (∀ k ∈ c.zoneFactors ++ c.tierFactors, k < 256 ^ 2) ∧ c.formats.length < 256 ∧ ∀ f ∈ c.formats, f.FitsBytes

/-- The check of a format's number of breaks (R99). -/
def breakCountCheck (cls : Nat) (f : Format) (k : Nat) : LoadCheck :=
  ({ LoadReport.bare 3 with cls := some cls, format := some (k + 1) }, decide (1 ≤ f.breaks.length ∧ f.breaks.length ≤ 16))

/-- The checks of a class's number of formats and of theirs of breaks (R99). -/
def classCountChecks (c : ClassRecord) (cls : Nat) : List LoadCheck :=
  ({ LoadReport.bare 3 with cls := some cls }, decide (1 ≤ c.formats.length ∧ c.formats.length ≤ 3))
    :: c.formats.zipIdx.map (fun (f, k) => breakCountCheck cls f k)

/-- The bytes of a format's extension (11.6). -/
def extensionBytes (order : BusOrder) (x : Extension) : List Byte := fieldBytes order 2 x.step ++ fieldBytes order 4 x.price

/-! ### One format record -/

theorem limits_read {order : BusOrder} {f : Format} (divided : Byte) (fits : f.FitsBytes) :
    ∃ limits : List Byte, fieldBytes order 2 f.maxLength ++ fieldBytes order 2 f.maxWidth ++ fieldBytes order 2 f.maxThickness
        ++ fieldBytes order 2 f.maxWeight ++ [divided] = limits
      ∧ limits.length = 9 ∧ limits[8]?.getD 0 = divided ∧ ofField order (limits.take 2) = f.maxLength
      ∧ ofField order ((limits.drop 2).take 2) = f.maxWidth ∧ ofField order ((limits.drop 4).take 2) = f.maxThickness
      ∧ ofField order ((limits.drop 6).take 2) = f.maxWeight := by
  obtain ⟨length, width, thickness, weight, -⟩ := fits
  obtain ⟨a, b, spelledLength, readsLength⟩ := fieldBytes_two (order := order) length
  obtain ⟨c, d, spelledWidth, readsWidth⟩ := fieldBytes_two (order := order) width
  obtain ⟨e, g, spelledThickness, readsThickness⟩ := fieldBytes_two (order := order) thickness
  obtain ⟨h, i, spelledWeight, readsWeight⟩ := fieldBytes_two (order := order) weight
  rw [spelledLength, spelledWidth, spelledThickness, spelledWeight]
  exact ⟨_, rfl, rfl, rfl, readsLength, readsWidth, readsThickness, readsWeight⟩

theorem extension_read {order : BusOrder} {extension : Option Extension}
    (fits : ∀ k, extension = some k → k.step < 256 ^ 2 ∧ k.price < 256 ^ 4) :
    (extension.map (extensionBytes order)).map
        (fun e => ({ step := ofField order (e.take 2), price := ofField order (e.drop 2) } : Extension)) = extension := by
  cases extension with
  | none => rfl
  | some k =>
    obtain ⟨step, price⟩ := fits k rfl
    simp [extensionBytes, List.take_left', List.drop_left', ofField_fieldBytes_of_lt step, ofField_fieldBytes_of_lt price]

theorem divisor_read {order : BusOrder} {divisor : Option Nat} (fits : ∀ d, divisor = some d → d < 256 ^ 4) :
    (divisor.map (fieldBytes order 4)).map (ofField order) = divisor := by
  cases divisor with
  | none => rfl
  | some d => simp [ofField_fieldBytes_of_lt (fits d rfl)]

/-- The bytes of a format record in the parts in which the walk takes them. -/
theorem EncodesFormat.parts {order : BusOrder} {f : Format} {bytes : List Byte} (spelled : EncodesFormat order f bytes) :
    ∃ divided extended, FlagByte f.divisor.isSome divided ∧ FlagByte f.extension.isSome extended
      ∧ bytes = (fieldBytes order 2 f.maxLength ++ fieldBytes order 2 f.maxWidth ++ fieldBytes order 2 f.maxThickness
          ++ fieldBytes order 2 f.maxWeight ++ [divided])
        ++ ((f.divisor.map (fieldBytes order 4)).getD [] ++ (fieldBytes order 1 f.breaks.length
        ++ ((f.breaks.flatMap (fun x => fieldBytes order 2 x.bound ++ fieldBytes order 4 x.price) ++ [extended])
        ++ ((f.extension.map (extensionBytes order)).getD [] ++ [f.services])))) := by
  obtain ⟨divided, extended, flagsDivisor, flagsExtension, rfl⟩ := spelled
  refine ⟨divided, extended, flagsDivisor, flagsExtension, ?_⟩
  obtain ⟨_, _, _, _, divisor, _, extension, _⟩ := f
  cases divisor <;> cases extension <;> simp [extensionBytes]

/-- A format record walked: its number of breaks is out of range, or it is read back (R99). -/
theorem walkFormat_encoded {order : BusOrder} {f : Format} {bytes : List Byte} (cls k : Nat) (rest : List Byte)
    (spelled : EncodesFormat order f bytes) (fits : f.FitsBytes) :
    walkFormat order cls (k + 1) (bytes ++ rest) = verdict [breakCountCheck cls f k] (f, rest) := by
  obtain ⟨divided, extended, flagsDivisor, flagsExtension, rfl⟩ := spelled.parts
  obtain ⟨limits, limitsIs, wide, flagAt, readsLength, readsWidth, readsThickness, readsWeight⟩ :=
    limits_read (order := order) divided fits
  obtain ⟨-, -, -, -, divisorFits, countFits, breaksFit, extensionFits⟩ := fits
  have listWide : (f.breaks.flatMap (fun x => fieldBytes order 2 x.bound ++ fieldBytes order 4 x.price) ++ [extended]).length
      = 6 * f.breaks.length + 1 := by rw [List.length_append, length_breaks]; rfl
  have flagAfter : (f.breaks.flatMap (fun x => fieldBytes order 2 x.bound ++ fieldBytes order 4 x.price)
      ++ [extended])[6 * f.breaks.length]?.getD 0 = extended := by
    rw [← length_breaks order f.breaks, List.getElem?_concat_length]
    rfl
  have count : ofLowFirst [BitVec.ofNat 8 f.breaks.length] = f.breaks.length := by
    rw [ofLowFirst, ofLowFirst, toNat_byte countFits, mul_zero, add_zero]
  rw [limitsIs]
  unfold walkFormat
  simp only [List.append_assoc]
  rw [takeBytes_append _ wide]
  dsimp only
  rw [flagAt, takeWhen_append _ flagsDivisor (fun d _ => length_fieldBytes order 4 d)]
  dsimp only
  rw [takeBytes_append _ (length_fieldBytes order 1 f.breaks.length), fieldBytes_one]
  dsimp only
  rw [count]
  by_cases counts : 1 ≤ f.breaks.length ∧ f.breaks.length ≤ 16
  · rw [if_neg (by omega), ← List.append_assoc, takeBytes_append _ listWide]
    dsimp only
    rw [flagAfter, takeWhen_append _ flagsExtension (fun x _ => by simp [extensionBytes])]
    dsimp only
    rw [takeBytes_append (n := 1) (part := [f.services]) _ rfl]
    dsimp only
    rw [readsLength, readsWidth, readsThickness, readsWeight, divisor_read divisorFits, breaksOf_append _ breaksFit,
      extension_read extensionFits]
    exact (verdict_of_passed _ (by simp [breakCountCheck, firstFailed_one, counts])).symm
  · rw [if_pos (by omega)]
    exact (verdict_of_failed _ (by simp [breakCountCheck, firstFailed_one, counts])).symm

/-! ### The format records of a class -/

theorem walkFormats_encoded {order : BusOrder} {formats : List Format} {bytes : List Byte} (cls k : Nat) (rest : List Byte)
    (spelled : EncodesEach (EncodesFormat order) formats bytes) (fit : ∀ f ∈ formats, f.FitsBytes) :
    walkFormats order cls formats.length (k + 1) (bytes ++ rest)
      = verdict ((formats.zipIdx k).map (fun (f, k) => breakCountCheck cls f k)) (formats, rest) := by
  induction formats generalizing bytes k with
  | nil =>
    subst spelled
    rfl
  | cons f formats ih =>
    simp only [List.mem_cons, forall_eq_or_imp] at fit
    obtain ⟨fits, others⟩ := fit
    obtain ⟨first, more, rfl, spelledFirst, spelledMore⟩ := spelled
    rw [List.length_cons, walkFormats, List.append_assoc, walkFormat_encoded cls k (more ++ rest) spelledFirst fits,
      List.zipIdx_cons, List.map_cons]
    by_cases passes : (breakCountCheck cls f k).2 = true
    · rw [verdict_of_passed _ (by rw [← Prod.mk.eta (p := breakCountCheck cls f k), firstFailed_one, if_pos passes])]
      dsimp only
      rw [ih (k + 1) spelledMore others]
      unfold verdict
      rw [← Prod.mk.eta (p := breakCountCheck cls f k), firstFailed_cons, if_pos passes]
      cases firstFailed ((formats.zipIdx (k + 1)).map (fun (f, k) => breakCountCheck cls f k)) <;> rfl
    · rw [verdict_of_failed (report := (breakCountCheck cls f k).1) _
        (by rw [← Prod.mk.eta (p := breakCountCheck cls f k), firstFailed_one, if_neg passes])]
      exact (verdict_of_failed _ (by rw [← Prod.mk.eta (p := breakCountCheck cls f k), firstFailed_cons, if_neg passes])).symm

/-! ### The class records -/

/-- The 48 bytes of a class record before its format records (11.6). -/
def classFixed (order : BusOrder) (c : ClassRecord) (flag : Byte) : List Byte :=
  [flag] ++ (fieldBytes order 4 c.minimum ++ (fieldBytes order 1 c.defaultZone
    ++ (c.zoneFactors.flatMap (fieldBytes order 2) ++ (c.tierFactors.flatMap (fieldBytes order 2)
    ++ ([c.tierMask] ++ fieldBytes order 1 c.formats.length)))))

theorem EncodesClass.parts {order : BusOrder} {c : ClassRecord} {bytes : List Byte} (spelled : EncodesClass order c bytes) :
    ∃ flag formats, FlagByte c.defined flag ∧ EncodesEach (EncodesFormat order) c.formats formats
      ∧ bytes = classFixed order c flag ++ formats := by
  obtain ⟨flag, formats, flagged, each, rfl⟩ := spelled
  exact ⟨flag, formats, flagged, each, by simp only [classFixed, List.append_assoc]⟩

/-- The fixed bytes of a class record are read back. -/
theorem classFixed_read {order : BusOrder} {c : ClassRecord} (flag : Byte) (fits : c.FitsBytes) :
    ∃ fixed, classFixed order c flag = fixed ∧ fixed.length = 48 ∧ fixed[0]?.getD 0 = flag
      ∧ ofField order ((fixed.drop 1).take 4) = c.minimum ∧ (fixed[5]?.getD 0).toNat = c.defaultZone
      ∧ fieldsOf order 2 16 (fixed.drop 6) = c.zoneFactors ∧ fieldsOf order 2 4 (fixed.drop 38) = c.tierFactors
      ∧ fixed[46]?.getD 0 = c.tierMask ∧ (fixed[47]?.getD 0).toNat = c.formats.length := by
  obtain ⟨minimum, zone, zones, tiers, factors, formats, -⟩ := fits
  obtain ⟨a, b, d, e, spelledMinimum, readsMinimum⟩ := fieldBytes_four (order := order) minimum
  have zonesFit : ∀ x ∈ c.zoneFactors, x < 256 ^ 2 := fun x mem => factors x (List.mem_append_left _ mem)
  have tiersFit : ∀ x ∈ c.tierFactors, x < 256 ^ 2 := fun x mem => factors x (List.mem_append_right _ mem)
  have zonesWide : (c.zoneFactors.flatMap (fieldBytes order 2)).length = 32 := by rw [length_fields, zones]
  have tiersWide : (c.tierFactors.flatMap (fieldBytes order 2)).length = 8 := by rw [length_fields, tiers]
  refine ⟨_, rfl, ?_⟩
  unfold classFixed
  rw [spelledMinimum, fieldBytes_one, fieldBytes_one]
  have zonesRead (rest : List Byte) := fieldsOf_append (order := order) rest zonesFit
  have tiersRead (rest : List Byte) := fieldsOf_append (order := order) rest tiersFit
  rw [zones] at zonesRead
  rw [tiers] at tiersRead
  refine ⟨by simp [zonesWide, tiersWide], rfl, readsMinimum, toNat_byte zone, zonesRead _, ?_, ?_, ?_⟩
  all_goals simp only [List.cons_append, List.nil_append]
  · show fieldsOf order 2 4 (List.drop 32 _) = _
    rw [List.drop_left' zonesWide]
    exact tiersRead _
  · simp [zonesWide, tiersWide]
  · simp [zonesWide, tiersWide, Nat.mod_eq_of_lt formats]

/-- A class record walked: one of its counts is out of range, or it is read back (R99). -/
theorem walkClass_encoded {order : BusOrder} {c : ClassRecord} {bytes : List Byte} (cls : Nat) (rest : List Byte)
    (spelled : EncodesClass order c bytes) (fits : c.FitsBytes) :
    walkClass order cls (bytes ++ rest) = verdict (classCountChecks c cls) (c, rest) := by
  obtain ⟨flag, formats, flagged, spelledFormats, rfl⟩ := spelled.parts
  obtain ⟨fixed, fixedIs, wide, readsFlag, readsMinimum, readsZone, readsZones, readsTiers, readsMask, readsCount⟩ :=
    classFixed_read (order := order) flag fits
  obtain ⟨-, -, -, -, -, -, formatsFit⟩ := fits
  rw [fixedIs]
  unfold walkClass
  rw [List.append_assoc, takeBytes_append _ wide]
  dsimp only
  rw [readsCount]
  unfold classCountChecks
  by_cases counts : 1 ≤ c.formats.length ∧ c.formats.length ≤ 3
  · rw [if_neg (by omega), walkFormats_encoded cls 0 rest spelledFormats formatsFit, readsFlag, readsMinimum, readsZone, readsZones,
      readsTiers, readsMask, flagged.reads]
    unfold verdict
    rw [firstFailed_cons, if_pos (decide_eq_true counts)]
    cases firstFailed (c.formats.zipIdx.map (fun (f, k) => breakCountCheck cls f k)) <;> rfl
  · rw [if_pos (by omega)]
    exact (verdict_of_failed _ (by rw [firstFailed_cons, if_neg (by simpa using counts)])).symm

theorem walkClasses_encoded {order : BusOrder} {classes : List ClassRecord} {bytes : List Byte} (cls : Nat) (rest : List Byte)
    (spelled : EncodesEach (EncodesClass order) classes bytes) (fit : ∀ c ∈ classes, c.FitsBytes) :
    walkClasses order classes.length cls (bytes ++ rest)
      = verdict ((classes.zipIdx cls).flatMap (fun (c, cls) => classCountChecks c cls)) (classes, rest) := by
  induction classes generalizing bytes cls with
  | nil =>
    subst spelled
    rfl
  | cons c classes ih =>
    simp only [List.mem_cons, forall_eq_or_imp] at fit
    obtain ⟨fits, others⟩ := fit
    obtain ⟨first, more, rfl, spelledFirst, spelledMore⟩ := spelled
    rw [List.length_cons, walkClasses, List.append_assoc, walkClass_encoded cls (more ++ rest) spelledFirst fits,
      List.zipIdx_cons, List.flatMap_cons]
    dsimp only
    cases found : firstFailed (classCountChecks c cls) with
    | some report =>
      rw [verdict_of_failed _ found]
      exact (verdict_of_failed _ (by rw [firstFailed_append, found]; rfl)).symm
    | none =>
      rw [verdict_of_passed _ found]
      dsimp only
      rw [ih (cls + 1) spelledMore others]
      unfold verdict
      rw [firstFailed_append, found, Option.none_or]
      cases firstFailed ((classes.zipIdx (cls + 1)).flatMap (fun (c, cls) => classCountChecks c cls)) <;> rfl

end Sys2Proof.Machine
end

section
/-! SUPPORT. The walk of a rate-table image as its header and records spell it, and on records cut short (R98, R99). -/

namespace Sys2Proof.Machine

/-! ### A walk that more bytes follow -/

/-- What a walk gives with more bytes after its own: the same, unless it had met the end of the image. -/
def Continues {α : Type} (more : List Byte) :
    Except LoadFailure (α × List Byte) → Except LoadFailure (α × List Byte) → Prop
  | .error failure, out => failure = outOfBytes ∨ out = .error failure
  | .ok (value, rest), out => out = .ok (value, rest ++ more)

theorem takeBytes_continues (n : Nat) (xs more : List Byte) :
    takeBytes n xs = none ∨ ∃ part rest, takeBytes n xs = some (part, rest) ∧ takeBytes n (xs ++ more) = some (part, rest ++ more) := by
  by_cases short : xs.length < n
  · exact .inl (if_pos short)
  · refine .inr ⟨_, _, if_neg short, ?_⟩
    have long : ¬ (xs ++ more).length < n := by
      rw [List.length_append]
      omega
    rw [takeBytes, if_neg long, List.take_append_of_le_length (by omega), List.drop_append_of_le_length (by omega)]

theorem takeWhen_continues (flag : Bool) (n : Nat) (xs more : List Byte) :
    takeWhen flag n xs = none
      ∨ ∃ part rest, takeWhen flag n xs = some (part, rest) ∧ takeWhen flag n (xs ++ more) = some (part, rest ++ more) := by
  cases flag with
  | false => exact .inr ⟨none, xs, rfl, rfl⟩
  | true =>
    rcases takeBytes_continues n xs more with short | ⟨part, rest, took, tookMore⟩
    · exact .inl (by simp [takeWhen, short])
    · exact .inr ⟨some part, rest, by simp [takeWhen, took], by simp [takeWhen, tookMore]⟩

theorem walkFormat_continues (order : BusOrder) (cls number : Nat) (xs more : List Byte) :
    Continues more (walkFormat order cls number xs) (walkFormat order cls number (xs ++ more)) := by
  unfold walkFormat
  rcases takeBytes_continues 9 xs more with short | ⟨limits, xs, took, tookMore⟩
  · rw [short]
    exact .inl rfl
  rw [took, tookMore]
  dsimp only
  rcases takeWhen_continues (limits[8]?.getD 0 != 0) 4 xs more with short | ⟨divisor, xs, took, tookMore⟩
  · rw [short]
    exact .inl rfl
  rw [took, tookMore]
  dsimp only
  rcases takeBytes_continues 1 xs more with short | ⟨count, xs, took, tookMore⟩
  · rw [short]
    exact .inl rfl
  rw [took, tookMore]
  dsimp only
  by_cases counts : ofLowFirst count < 1 ∨ 16 < ofLowFirst count
  · rw [if_pos counts, if_pos counts]
    exact .inr rfl
  rw [if_neg counts, if_neg counts]
  rcases takeBytes_continues (6 * ofLowFirst count + 1) xs more with short | ⟨list, xs, took, tookMore⟩
  · rw [short]
    exact .inl rfl
  rw [took, tookMore]
  dsimp only
  rcases takeWhen_continues (list[6 * ofLowFirst count]?.getD 0 != 0) 6 xs more with short | ⟨extension, xs, took, tookMore⟩
  · rw [short]
    exact .inl rfl
  rw [took, tookMore]
  dsimp only
  rcases takeBytes_continues 1 xs more with short | ⟨mask, xs, took, tookMore⟩
  · rw [short]
    exact .inl rfl
  rw [took, tookMore]
  exact rfl

theorem walkFormats_continues (order : BusOrder) (cls n number : Nat) (xs more : List Byte) :
    Continues more (walkFormats order cls n number xs) (walkFormats order cls n number (xs ++ more)) := by
  induction n generalizing number xs with
  | zero => exact rfl
  | succ n ih =>
    unfold walkFormats
    have one := walkFormat_continues order cls number xs more
    match walked : walkFormat order cls number xs with
    | .error failure =>
      rw [walked] at one
      exact one.imp id fun fails => by rw [fails]
    | .ok (f, rest) =>
      rw [walked] at one
      rw [show walkFormat order cls number (xs ++ more) = .ok (f, rest ++ more) from one]
      dsimp only
      have others := ih (number + 1) rest
      match walkedOthers : walkFormats order cls n (number + 1) rest with
      | .error failure =>
        rw [walkedOthers] at others
        exact others.imp id fun fails => by rw [fails]
      | .ok (fs, after) =>
        rw [walkedOthers] at others
        rw [show walkFormats order cls n (number + 1) (rest ++ more) = .ok (fs, after ++ more) from others]
        exact rfl

theorem walkClass_continues (order : BusOrder) (cls : Nat) (xs more : List Byte) :
    Continues more (walkClass order cls xs) (walkClass order cls (xs ++ more)) := by
  unfold walkClass
  rcases takeBytes_continues 48 xs more with short | ⟨fixed, xs, took, tookMore⟩
  · rw [short]
    exact .inl rfl
  rw [took, tookMore]
  dsimp only
  generalize BitVec.toNat (fixed[47]?.getD 0) = count
  by_cases counts : count < 1 ∨ 3 < count
  · rw [if_pos counts, if_pos counts]
    exact .inr rfl
  rw [if_neg counts, if_neg counts]
  have formats := walkFormats_continues order cls count 1 xs more
  match walked : walkFormats order cls count 1 xs with
  | .error failure =>
    rw [walked] at formats
    exact formats.imp id fun fails => by rw [fails]
  | .ok (fs, rest) =>
    rw [walked] at formats
    rw [show walkFormats order cls count 1 (xs ++ more) = .ok (fs, rest ++ more) from formats]
    exact rfl

theorem walkClasses_continues (order : BusOrder) (n cls : Nat) (xs more : List Byte) :
    Continues more (walkClasses order n cls xs) (walkClasses order n cls (xs ++ more)) := by
  induction n generalizing cls xs with
  | zero => exact rfl
  | succ n ih =>
    unfold walkClasses
    have one := walkClass_continues order cls xs more
    match walked : walkClass order cls xs with
    | .error failure =>
      rw [walked] at one
      exact one.imp id fun fails => by rw [fails]
    | .ok (c, rest) =>
      rw [walked] at one
      rw [show walkClass order cls (xs ++ more) = .ok (c, rest ++ more) from one]
      dsimp only
      have others := ih (cls + 1) rest
      match walkedOthers : walkClasses order n (cls + 1) rest with
      | .error failure =>
        rw [walkedOthers] at others
        exact others.imp id fun fails => by rw [fails]
      | .ok (cs, after) =>
        rw [walkedOthers] at others
        rw [show walkClasses order n (cls + 1) (rest ++ more) = .ok (cs, after ++ more) from others]
        exact rfl

end Sys2Proof.Machine
end

section
/-! SUPPORT. A staged image: its header, its length and its check word, and the walk of its records (R98, R99). -/

namespace Sys2Proof.Machine

/-! ### The bytes of an image -/

theorem State.staged_eq (s : State) (copy : List Byte) (n : Nat) :
    s.staged copy n = (List.range n).map (s.stagingByte copy) := by
  have wide : n ≤ (copy ++ s.readBytes (0x2000 + copy.length) n).length := by
    rw [List.length_append, length_readBytes]
    omega
  refine List.ext_getElem (by simp [State.staged, length_readBytes]) fun k inTaken inRange => ?_
  have read : k < n := by simpa using inRange
  have inBoth : k < (copy ++ s.readBytes (0x2000 + copy.length) n).length := by omega
  rw [List.getElem_map, List.getElem_range, ← s.stagingByte_append copy n, State.stagingByte,
    show stagingAddress = 0x2000 from rfl, List.getElem?_eq_getElem inBoth]
  simp [State.staged]

theorem State.imageLength_eq (s : State) (copy : List Byte) : s.imageLength copy = ofField s.order (s.staged copy 4) := by
  rw [State.staged_four]
  rfl

/-- The first bytes of more staged bytes. -/
theorem State.staged_take (s : State) (copy : List Byte) {k n : Nat} (within : k ≤ n) :
    s.staged copy k = (s.staged copy n).take k := by
  rw [State.staged_eq, State.staged_eq, ← List.map_take, List.take_range, Nat.min_eq_left within]

/-- The bytes of an image: its length, its check word, and the bytes that the check word covers (11.6). -/
def imageBytes (order : BusOrder) (check : Nat) (covered : List Byte) : List Byte :=
  fieldBytes order 4 (covered.length + 8) ++ fieldBytes order 4 check ++ covered

/-- Steps 1 and 2 on a staged image: its length is in range, and its check word decides whether the walk begins (R98). -/
theorem State.validateImage_of_stages {s : State} {copy covered : List Byte} {check : Nat} (staged : s.Stages copy covered check)
    (small : check < 256 ^ 4) (headed : 16 ≤ covered.length) :
    s.validateImage copy
      = if (crc32 covered).toNat = check then validateRecords s.order (imageBytes s.order check covered)
        else .error { status := .checkFailed, report := LoadReport.bare 2 } := by
  obtain ⟨bounded, bytes⟩ := staged
  have length : s.imageLength copy = covered.length + 8 := by
    rw [State.imageLength_eq, s.staged_take copy (k := 4) (n := covered.length + 8) (by omega), bytes, List.append_assoc,
      List.take_left' (length_fieldBytes ..), ofField_fieldBytes_of_lt (by norm_num; omega)]
  have checkRead : headerField s.order (imageBytes s.order check covered) 0x04 4 = check :=
    (headerField_at (field := fieldBytes s.order 4 check) (List.append_assoc ..) (length_fieldBytes ..) (length_fieldBytes ..)).trans
      (ofField_fieldBytes_of_lt small)
  have rest : (imageBytes s.order check covered).drop 8 = covered := List.drop_left' (by simp)
  unfold State.validateImage
  rw [length]
  dsimp only
  rw [if_neg (by simp only [headerLength, largestImage]; omega), ← State.staged_eq, bytes]
  change (if (crc32 ((imageBytes s.order check covered).drop 8)).toNat = headerField s.order (imageBytes s.order check covered) 0x04 4
    then validateRecords s.order (imageBytes s.order check covered) else _) = _
  rw [checkRead, rest]

/-! ### The header -/

theorem EncodesHeader.length {order : BusOrder} {x : RawImage} {header : List Byte} (spelled : EncodesHeader order x header) :
    header.length = 16 := by
  obtain ⟨charted, unread, -, three, rfl⟩ := spelled
  simp [three]

/-- The header fields of an image as the walk reads them, and the records after it (R98). -/
structure ReadsHeader (order : BusOrder) (image : List Byte) (x : RawImage) (records : List Byte) : Prop where
  tableId : headerField order image 0x08 2 = x.tableId
  day : headerField order image 0x0A 2 = x.day
  minute : headerField order image 0x0C 2 = x.minute
  count : headerField order image 0x0E 1 = x.classes.length
  rounding : headerField order image 0x0F 1 = x.rounding
  cap : headerField order image 0x10 4 = x.cap
  charted : (headerField order image 0x14 1 != 0) = x.chart.isSome
  rest : image.drop headerLength = records

theorem EncodesHeader.reads {order : BusOrder} {x : RawImage} {header : List Byte} (spelled : EncodesHeader order x header)
    (fits : x.Fits) (check : Nat) (records : List Byte) :
    ReadsHeader order (imageBytes order check (header ++ records)) x records := by
  obtain ⟨id, day, minute, rounding, cap, count, -⟩ := fits
  have headerWide := spelled.length
  obtain ⟨charted, unread, flagged, three, headerIs⟩ := spelled
  unfold imageBytes
  generalize lengthIs : fieldBytes order 4 ((header ++ records).length + 8) = length
  generalize checkIs : fieldBytes order 4 check = word
  have lengthWide : length.length = 4 := by rw [← lengthIs, length_fieldBytes]
  have wordWide : word.length = 4 := by rw [← checkIs, length_fieldBytes]
  have dropped : (length ++ word ++ (header ++ records)).drop headerLength = records := by
    rw [← List.append_assoc]
    exact List.drop_left' (by simp [lengthWide, wordWide, headerWide, headerLength])
  obtain ⟨a, b, d, e, rfl⟩ : ∃ a b d e, length = [a, b, d, e] := by
    match length, lengthWide with
    | [a, b, d, e], _ => exact ⟨a, b, d, e, rfl⟩
  obtain ⟨f, g, h, i, rfl⟩ : ∃ f g h i, word = [f, g, h, i] := by
    match word, wordWide with
    | [f, g, h, i], _ => exact ⟨f, g, h, i, rfl⟩
  obtain ⟨j, k, idIs, readsId⟩ := fieldBytes_two (order := order) id
  obtain ⟨l, m, dayIs, readsDay⟩ := fieldBytes_two (order := order) day
  obtain ⟨n, o, minuteIs, readsMinute⟩ := fieldBytes_two (order := order) minute
  obtain ⟨p, q, r, t, capIs, readsCap⟩ := fieldBytes_four (order := order) cap
  rw [idIs, dayIs, minuteIs, capIs, fieldBytes_one, fieldBytes_one] at headerIs
  subst headerIs
  exact { tableId := readsId, day := readsDay, minute := readsMinute, cap := readsCap, rest := dropped
          count := (ofField_singleton order _).trans (toNat_byte count)
          rounding := (ofField_singleton order _).trans (toNat_byte rounding)
          charted := (congrArg (· != 0) (ofField_singleton order charted)).trans flagged.toNat_reads }

/-! ### The walk of the image -/

/-- The table's fields fit their bytes class by class. -/
theorem RawImage.Fits.classes {x : RawImage} (fits : x.Fits) : ∀ c ∈ x.classes, c.FitsBytes := by
  obtain ⟨-, -, -, -, -, -, -, -, -, classes⟩ := fits
  exact classes

theorem countChecks_eq (x : RawImage) :
    countChecks x = (LoadReport.bare 3, decide (1 ≤ x.classes.length ∧ x.classes.length ≤ 16))
      :: x.classes.zipIdx.flatMap (fun (c, cls) => classCountChecks c cls) := by
  simp only [classCountChecks, List.map_eq_flatMap]
  rfl

theorem countChecks_passed {x : RawImage} (passed : firstFailed (countChecks x) = none) :
    (1 ≤ x.classes.length ∧ x.classes.length ≤ 16)
      ∧ firstFailed (x.classes.zipIdx.flatMap (fun (c, cls) => classCountChecks c cls)) = none := by
  rw [countChecks_eq, firstFailed_cons] at passed
  by_cases counts : 1 ≤ x.classes.length ∧ x.classes.length ≤ 16
  · rw [if_pos (decide_eq_true counts)] at passed
    exact ⟨counts, passed⟩
  · rw [if_neg (by simpa using counts)] at passed
    exact nomatch passed

section walks

variable {order : BusOrder} {image records : List Byte} {x : RawImage} (reads : ReadsHeader order image x records)

include reads

theorem ReadsHeader.walk_of_bad_count (counts : ¬ (1 ≤ x.classes.length ∧ x.classes.length ≤ 16)) :
    walkImage order image = .error outOfBytes := by
  unfold walkImage
  rw [reads.count]
  exact if_pos (by omega)

variable (counts : 1 ≤ x.classes.length ∧ x.classes.length ≤ 16)

include counts

theorem ReadsHeader.walk_of_chart_short (short : takeWhen x.chart.isSome 1000 records = none) :
    walkImage order image = .error outOfBytes := by
  unfold walkImage
  rw [reads.count, reads.charted, reads.rest, short]
  exact if_neg (by omega)

variable {chart : Option (List Byte)} {rest : List Byte} (took : takeWhen x.chart.isSome 1000 records = some (chart, rest))

include took

theorem ReadsHeader.walk_of_failed {failure : LoadFailure}
    (walked : walkClasses order x.classes.length 0 rest = .error failure) : walkImage order image = .error failure := by
  unfold walkImage
  rw [reads.count, reads.charted, reads.rest, took]
  dsimp only
  rw [walked]
  exact if_neg (by omega)

/-- After the classes exactly the bytes of eight service records must follow (R99). -/
theorem ReadsHeader.walk_of_walked {classes : List ClassRecord} {services : List Byte}
    (walked : walkClasses order x.classes.length 0 rest = .ok (classes, services)) :
    walkImage order image
      = if services.length = 48 then
          .ok { tableId := x.tableId, day := x.day, minute := x.minute, rounding := x.rounding, cap := x.cap
                chart := chart.map (fun zones => zones.map BitVec.toNat), classes := classes
                services := servicesOf order 8 services }
        else .error outOfBytes := by
  unfold walkImage
  rw [reads.count, reads.charted, reads.rest, took]
  dsimp only
  rw [walked, reads.tableId, reads.day, reads.minute, reads.rounding, reads.cap]
  exact if_neg (by omega)

end walks

/-- The records of a table in the parts in which the walk takes them (11.6). -/
theorem EncodesRecords.parts {order : BusOrder} {x : RawImage} {bytes : List Byte} (spelled : EncodesRecords order x bytes)
    (fits : x.Fits) :
    ∃ classes services, EncodesEach (EncodesClass order) x.classes classes
      ∧ bytes = (x.chart.map (fun zones => zones.flatMap (fieldBytes order 1))).getD [] ++ (classes ++ services)
      ∧ services.length = 48 ∧ servicesOf order 8 services = x.services := by
  obtain ⟨-, -, -, -, -, -, -, eight, amounts, -⟩ := fits
  obtain ⟨classes, services, spelledClasses, spelledServices, rfl⟩ := spelled
  obtain ⟨read, wide⟩ := servicesOf_encoded spelledServices amounts
  rw [eight] at read wide
  exact ⟨classes, services, spelledClasses, List.append_assoc .., wide, read⟩

theorem RawImage.Fits.chart_wide {x : RawImage} (fits : x.Fits) (order : BusOrder) :
    ∀ zones, x.chart = some zones → (zones.flatMap (fieldBytes order 1)).length = 1000 := by
  obtain ⟨-, -, -, -, -, -, chart, -⟩ := fits
  intro zones charted
  rw [length_fields, (chart zones charted).1, one_mul]

theorem RawImage.Fits.chart_read {x : RawImage} (fits : x.Fits) (order : BusOrder) :
    (x.chart.map (fun zones => zones.flatMap (fieldBytes order 1))).map (fun zones => zones.map BitVec.toNat) = x.chart := by
  obtain ⟨-, -, -, -, -, -, chart, -⟩ := fits
  cases charted : x.chart with
  | none => rfl
  | some zones => exact congrArg some (toNat_bytes (chart zones charted).2)

/-- Step 3 on a table spelled whole: its first count out of range, or the table (R99). -/
theorem ReadsHeader.walk_whole {order : BusOrder} {image records : List Byte} {x : RawImage}
    (reads : ReadsHeader order image x records) (spelled : EncodesRecords order x records) (fits : x.Fits) :
    walkImage order image = verdict (countChecks x) x := by
  obtain ⟨classes, services, spelledClasses, rfl, wide, readServices⟩ := spelled.parts fits
  rw [countChecks_eq]
  by_cases counts : 1 ≤ x.classes.length ∧ x.classes.length ≤ 16
  · have took := takeWhen_isSome (classes ++ services) (fits.chart_wide order)
    have walked := walkClasses_encoded 0 services spelledClasses fits.classes
    have first := firstFailed_cons (LoadReport.bare 3) (decide (1 ≤ x.classes.length ∧ x.classes.length ≤ 16))
      (x.classes.zipIdx.flatMap (fun (c, cls) => classCountChecks c cls))
    rw [if_pos (decide_eq_true counts)] at first
    cases found : firstFailed (x.classes.zipIdx.flatMap (fun (c, cls) => classCountChecks c cls)) with
    | some report =>
      rw [verdict_of_failed _ found] at walked
      rw [reads.walk_of_failed counts took walked, verdict_of_failed _ (first.trans found)]
    | none =>
      rw [verdict_of_passed _ found] at walked
      rw [reads.walk_of_walked counts took walked, if_pos wide, verdict_of_passed _ (first.trans found), readServices,
        fits.chart_read order]
  · rw [reads.walk_of_bad_count counts]
    exact (verdict_of_failed _ (by rw [firstFailed_cons, if_neg (by simpa using counts)])).symm

/-- Records that go on too long fail the walk with no record named (R99). -/
theorem ReadsHeader.walk_long {order : BusOrder} {image whole rest : List Byte} {x : RawImage}
    (reads : ReadsHeader order image x (whole ++ rest)) (spelled : EncodesRecords order x whole) (fits : x.Fits)
    (passed : firstFailed (countChecks x) = none) (more : rest ≠ []) : walkImage order image = .error outOfBytes := by
  obtain ⟨classes, services, spelledClasses, rfl, wide, -⟩ := spelled.parts fits
  obtain ⟨counts, classesPass⟩ := countChecks_passed passed
  have took := takeWhen_isSome (classes ++ services ++ rest) (fits.chart_wide order)
  have walked := walkClasses_encoded 0 (services ++ rest) spelledClasses fits.classes
  rw [verdict_of_passed _ classesPass, ← List.append_assoc] at walked
  rw [← List.append_assoc] at took
  rw [reads.walk_of_walked counts took walked]
  have := List.length_pos_of_ne_nil more
  exact if_neg (by rw [List.length_append]; omega)

/-- Records cut short fail the walk with no record named (R99). -/
theorem ReadsHeader.walk_short {order : BusOrder} {image records rest : List Byte} {x : RawImage}
    (reads : ReadsHeader order image x records) (spelled : EncodesRecords order x (records ++ rest)) (fits : x.Fits)
    (passed : firstFailed (countChecks x) = none) (more : rest ≠ []) : walkImage order image = .error outOfBytes := by
  obtain ⟨classes, services, spelledClasses, whole, wide, -⟩ := spelled.parts fits
  obtain ⟨counts, classesPass⟩ := countChecks_passed passed
  have tookWhole := takeWhen_isSome (classes ++ services) (fits.chart_wide order)
  rw [← whole] at tookWhole
  rcases takeWhen_continues x.chart.isSome 1000 records rest with short | ⟨chart, after, took, tookMore⟩
  · exact reads.walk_of_chart_short counts short
  rw [tookWhole] at tookMore
  have after_eq : after ++ rest = classes ++ services := by simpa using (congrArg (fun o => (o.map Prod.snd).getD []) tookMore).symm
  have walkedWhole := walkClasses_encoded 0 services spelledClasses fits.classes
  rw [verdict_of_passed _ classesPass, ← after_eq] at walkedWhole
  have continues := walkClasses_continues order x.classes.length 0 after rest
  rw [walkedWhole] at continues
  match walked : walkClasses order x.classes.length 0 after with
  | .error failure =>
    rw [walked] at continues
    obtain rfl : failure = outOfBytes := continues.resolve_right nofun
    exact reads.walk_of_failed counts took walked
  | .ok (read, remaining) =>
    rw [walked] at continues
    have remains : services = remaining ++ rest := congrArg Prod.snd (Except.ok.inj continues)
    rw [reads.walk_of_walked counts took walked]
    have := List.length_pos_of_ne_nil more
    rw [remains, List.length_append] at wide
    exact if_neg (by omega)

end Sys2Proof.Machine
end

section
/-! SUPPORT. Steps 4 to 6 of a validation: the model's searches for a bad record find the first check that fails (R100, R101). -/

namespace Sys2Proof.Machine

/-! ### A search and the first check that fails -/

/-- A search for the first bad element finds the first failed check of a list whose elements each add their checks. -/
theorem firstFailed_zipIdx {α β : Type} {check : α → Option β} {report : Nat → β → LoadReport} {checks : α × Nat → List LoadCheck}
    (offset : Nat) (each : ∀ x k, firstFailed (checks (x, k)) = (check x).map (report (k + offset))) (xs : List α) (k : Nat) :
    firstFailed ((xs.zipIdx k).flatMap checks) = (firstBad check xs (k + offset)).map (fun found => report found.1 found.2) := by
  induction xs generalizing k with
  | nil => rfl
  | cons x xs ih =>
    rw [List.zipIdx_cons, List.flatMap_cons, firstFailed_append, each, firstBad]
    cases found : check x with
    | some failure => rfl
    | none =>
      rw [show k + offset + 1 = k + 1 + offset by omega, ← ih (k + 1)]
      rfl

/-- The same for one check of each element. -/
theorem firstFailed_map_zipIdx {α : Type} {bad : α → Prop} [DecidablePred bad] {report : Nat → LoadReport} {passes : α → Bool}
    (decides : ∀ x, passes x = true ↔ ¬ bad x) (xs : List α) :
    firstFailed (xs.zipIdx.map (fun (x, k) => (report k, passes x)))
      = (firstBad (fun x => if bad x then some () else none) xs 0).map (fun found => report found.1) := by
  rw [List.map_eq_flatMap]
  refine firstFailed_zipIdx (report := fun k _ => report k) 0 (fun x k => ?_) xs 0
  dsimp only
  rw [firstFailed_one]
  by_cases h : bad x
  · rw [if_neg (fun passed => (decides x).mp passed h), if_pos h]
    rfl
  · rw [if_pos ((decides x).mpr h), if_neg h]
    rfl

/-! ### The records of the classes -/

/-- The checks of a format record of one class. -/
def formatChecks (report : LoadReport) (ofFormat : Format → List (Option Nat × Bool)) (f : Format) (k : Nat) : List LoadCheck :=
  (ofFormat f).map (fun (number, passes) => ({ report with format := some (k + 1), priceBreak := number }, passes))

/-- The checks of a class record and of its format records. -/
def classChecks (step : Nat) (ofClass : ClassRecord → List Bool) (ofFormat : Format → List (Option Nat × Bool)) (c : ClassRecord)
    (cls : Nat) : List LoadCheck :=
  (ofClass c).map (fun passes => ({ LoadReport.bare step with cls := some cls }, passes))
    ++ c.formats.zipIdx.flatMap (fun fk => formatChecks { LoadReport.bare step with cls := some cls } ofFormat fk.1 fk.2)

theorem recordChecks_eq (x : RawImage) (step : Nat) (ofClass : ClassRecord → List Bool) (ofFormat : Format → List (Option Nat × Bool)) :
    recordChecks x step ofClass ofFormat = x.classes.zipIdx.flatMap (fun ck => classChecks step ofClass ofFormat ck.1 ck.2) := rfl

/-! ### Step 4, the breaks -/

theorem firstFailed_breaks (report : Option Nat → LoadReport) (breaks : List Break) (k : Nat) :
    firstFailed (((breaks.zip (breaks.drop 1)).zipIdx k).map
        (fun (pair, k) => (report (some (k + 2)), decide (pair.1.bound < pair.2.bound))))
      = (badBreak breaks (k + 1)).map (fun number => report (some number)) := by
  induction breaks generalizing k with
  | nil => rfl
  | cons x breaks ih =>
    cases breaks with
    | nil => rfl
    | cons y breaks =>
      have tail := ih (k + 1)
      simp only [List.drop_one, List.tail_cons] at tail
      simp only [List.drop_one, List.tail_cons, List.zip_cons_cons, List.zipIdx_cons, List.map_cons]
      rw [firstFailed_cons, badBreak, tail]
      by_cases rising : x.bound < y.bound
      · rw [if_pos (decide_eq_true rising), if_neg (by omega)]
      · rw [if_neg (by simpa using rising), if_pos (by omega)]
        rfl

theorem breakFailure_eq (x : RawImage) : breakFailure x = firstFailed (breakChecks x) := by
  have format (cls : Nat) (f : Format) (k : Nat) : firstFailed (formatChecks { LoadReport.bare 4 with cls := some cls }
      (fun f => (f.breaks.zip (f.breaks.drop 1)).zipIdx.map (fun (pair, k) => (some (k + 2), decide (pair.1.bound < pair.2.bound)))) f k)
      = (badBreak f.breaks 1).map
          (fun number => { LoadReport.bare 4 with cls := some cls, format := some (k + 1), priceBreak := some number }) := by
    rw [formatChecks, List.map_map]
    exact firstFailed_breaks
      (fun number => { LoadReport.bare 4 with cls := some cls, format := some (k + 1), priceBreak := number }) f.breaks 0
  unfold breakChecks breakFailure
  rw [recordChecks_eq, firstFailed_zipIdx (check := fun c : ClassRecord => firstBad (fun f : Format => badBreak f.breaks 1) c.formats 1)
    (report := fun cls found => { LoadReport.bare 4 with cls := some cls, format := some found.1, priceBreak := some found.2 }) 0
    fun c cls => firstFailed_zipIdx
      (report := fun number found => { LoadReport.bare 4 with cls := some cls, format := some number, priceBreak := some found }) 1
      (fun f k => format cls f k) c.formats 0]
  cases firstBad (fun c : ClassRecord => firstBad (fun f : Format => badBreak f.breaks 1) c.formats 1) x.classes 0 <;> rfl

/-! ### Step 6, the cap -/

theorem capFailure_eq (x : RawImage) : capFailure x = firstFailed (capChecks x) := by
  have one (c : ClassRecord) (cls : Nat) :
      firstFailed (classChecks 6 (fun c => [decide (c.defined = true → c.minimum ≤ x.cap)]) (fun _ => []) c cls)
        = (if c.defined && decide (x.cap < c.minimum) then some () else none).map
            (fun _ => { LoadReport.bare 6 with cls := some cls }) := by
    have none : c.formats.zipIdx.flatMap (fun fk => formatChecks { LoadReport.bare 6 with cls := some cls } (fun _ => []) fk.1 fk.2)
        = [] := by simp [formatChecks]
    rw [classChecks, none, List.append_nil, List.map_singleton, firstFailed_one]
    by_cases above : c.defined = true ∧ x.cap < c.minimum
    · rw [if_neg (by simpa using above), if_pos (by simpa using above)]
      rfl
    · rw [if_pos (decide_eq_true fun defined => Nat.not_lt.mp fun lt => above ⟨defined, lt⟩),
        if_neg (by rwa [Bool.and_eq_true, decide_eq_true_eq])]
      rfl
  unfold capChecks capFailure
  rw [recordChecks_eq, firstFailed_zipIdx (report := fun cls _ => { LoadReport.bare 6 with cls := some cls }) 0 one]
  cases firstBad (fun c : ClassRecord => if c.defined && decide (x.cap < c.minimum) then some () else none) x.classes 0 <;> rfl

/-! ### Step 5, the ranges -/

theorem roundingOfCode_isNone (code : Nat) : (roundingOfCode code).isNone = true ↔ ¬ (1 ≤ code ∧ code ≤ 3) := by
  match code with
  | 0 => decide
  | 1 => decide
  | 2 => decide
  | 3 => decide
  | code + 4 => exact iff_of_true rfl (by omega)

theorem firstFailed_header_ranges (x : RawImage) :
    firstFailed [(LoadReport.bare 5, decide (x.tableId ≠ 0)), (LoadReport.bare 5, decide (x.minute ≤ 1439)),
        (LoadReport.bare 5, decide (1 ≤ x.rounding ∧ x.rounding ≤ 3)), (LoadReport.bare 5, decide (1 ≤ x.cap ∧ x.cap ≤ 999999))]
      = if x.tableId = 0 ∨ 1439 < x.minute ∨ (roundingOfCode x.rounding).isNone ∨ x.cap = 0 ∨ 999999 < x.cap
        then some (LoadReport.bare 5) else none := by
  simp only [firstFailed_cons, roundingOfCode_isNone, decide_eq_true_eq, show firstFailed [] = none from rfl]
  grind

/-- The range checks of a format record, in image order (R100). -/
def Format.rangeChecks (f : Format) : List (Option Nat × Bool) :=
  [(none, decide (f.divisor ≠ some 0)), (none, f.extension.all (fun k => decide (k.step ≠ 0)))]

/-- The range checks of a class record's own fields, in image order (R100). -/
def ClassRecord.rangeChecks (c : ClassRecord) : List Bool :=
  [decide (c.minimum ≤ 999999), decide (c.defaultZone ≤ 15), c.tierFactors.all (fun k => decide (k ≤ 4096))]

theorem firstFailed_format_ranges (cls : Nat) (f : Format) (k : Nat) :
    firstFailed (formatChecks { LoadReport.bare 5 with cls := some cls } Format.rangeChecks f k)
      = (if formatOutOfRange f then some () else none).map
          (fun _ => { LoadReport.bare 5 with cls := some cls, format := some (k + 1) }) := by
  rw [formatChecks, Format.rangeChecks, List.map_cons, List.map_singleton, firstFailed_cons, firstFailed_one]
  have extension : f.extension.any (fun x => x.step == 0) = !f.extension.all (fun k => decide (k.step ≠ 0)) := by
    cases f.extension with
    | none => rfl
    | some x =>
      rw [Option.any_some, Option.all_some, decide_not, Bool.not_not]
      rfl
  unfold formatOutOfRange
  rw [extension]
  by_cases divided : f.divisor = some 0
  · rw [if_neg (by simpa using divided), divided]
    rfl
  · rw [if_pos (by simpa using divided), beq_eq_false_iff_ne.mpr divided, Bool.false_or]
    cases f.extension.all (fun k => decide (k.step ≠ 0)) <;> rfl

theorem decide_above (limit n : Nat) : decide (limit < n) = !decide (n ≤ limit) := by
  rw [← decide_not]
  exact decide_eq_decide.mpr Nat.not_le.symm

theorem firstFailed_class_fields (cls : Nat) (c : ClassRecord) :
    firstFailed (c.rangeChecks.map (fun passes => ({ LoadReport.bare 5 with cls := some cls }, passes)))
      = if classOutOfRange c then some { LoadReport.bare 5 with cls := some cls } else none := by
  have tiers : c.tierFactors.any (fun x => decide (4096 < x)) = !c.tierFactors.all (fun k => decide (k ≤ 4096)) := by
    rw [List.not_all_eq_any_not]
    exact congrArg c.tierFactors.any (funext fun x => decide_above 4096 x)
  rw [ClassRecord.rangeChecks, List.map_cons, List.map_cons, List.map_singleton, firstFailed_cons, firstFailed_cons, firstFailed_one,
    classOutOfRange, tiers, decide_above, decide_above]
  cases decide (c.minimum ≤ 999999) <;> cases decide (c.defaultZone ≤ 15)
    <;> cases c.tierFactors.all (fun k => decide (k ≤ 4096)) <;> rfl

theorem firstFailed_class_ranges (c : ClassRecord) (cls : Nat) :
    firstFailed (classChecks 5 ClassRecord.rangeChecks Format.rangeChecks c cls)
      = (classFailure c).map (fun format => { LoadReport.bare 5 with cls := some cls, format := format }) := by
  rw [classChecks, firstFailed_append, firstFailed_class_fields, firstFailed_zipIdx
    (report := fun number _ => { LoadReport.bare 5 with cls := some cls, format := some number }) 1
    (fun f k => firstFailed_format_ranges cls f k), classFailure]
  by_cases bad : classOutOfRange c
  · rw [if_pos bad, if_pos bad]
    rfl
  · rw [if_neg bad, if_neg bad, Option.none_or]
    cases firstBad (fun f => if formatOutOfRange f then some () else none) c.formats (0 + 1) <;> rfl

theorem rangeFailure_eq (x : RawImage) : rangeFailure x = firstFailed (rangeChecks x) := by
  have chart := firstFailed_map_zipIdx (bad := fun zone => 15 < zone ∧ zone ≠ 255)
    (report := fun area => { LoadReport.bare 5 with area := some area }) (passes := fun zone => decide (zone ≤ 15 ∨ zone = 255))
    (fun zone => by rw [decide_eq_true_eq]; omega) (x.chart.getD [])
  have classes := firstFailed_zipIdx (checks := fun ck => classChecks 5 ClassRecord.rangeChecks Format.rangeChecks ck.1 ck.2)
    (report := fun cls format => { LoadReport.bare 5 with cls := some cls, format := format })
    0 firstFailed_class_ranges x.classes 0
  have services := firstFailed_map_zipIdx (bad := fun k : Service => k.amount < -1000000 ∨ 99999999 < k.amount)
    (report := fun service => { LoadReport.bare 5 with service := some service })
    (passes := fun k => decide (-1000000 ≤ k.amount ∧ k.amount ≤ 99999999))
    (fun k => by rw [decide_eq_true_eq]; omega) x.services
  unfold rangeFailure rangeChecks
  change _ = firstFailed (_ ++ _ ++ recordChecks x 5 ClassRecord.rangeChecks Format.rangeChecks ++ _)
  rw [firstFailed_append, firstFailed_append, firstFailed_append, firstFailed_header_ranges, recordChecks_eq, chart, classes, services]
  dsimp only
  split
  next => rfl
  next =>
    rw [Option.none_or]
    split
    next found => rw [found]; rfl
    next found =>
      rw [found]
      split
      next found => rw [found]; rfl
      next found =>
        rw [found]
        split
        next found => rw [found]; rfl
        next found => rw [found]; rfl

end Sys2Proof.Machine
end

section
/-! SUPPORT. What a validation finds on a staged image (R98 to R101). -/

namespace Sys2Proof.Machine

/-- The checks of steps 3 to 6 in their order. -/
def recordsChecks (x : RawImage) : List LoadCheck := countChecks x ++ breakChecks x ++ rangeChecks x ++ capChecks x

/-- Steps 3 to 6 on a table spelled whole: the first check that fails, or the table's bank (R99 to R101). -/
theorem validateRecords_whole {order : BusOrder} {image records : List Byte} {x : RawImage}
    (reads : ReadsHeader order image x records) (spelled : EncodesRecords order x records) (fits : x.Fits) :
    validateRecords order image = verdict (recordsChecks x) x.bank := by
  unfold validateRecords
  rw [reads.walk_whole spelled fits]
  unfold recordsChecks verdict
  rw [firstFailed_append, firstFailed_append, firstFailed_append]
  cases firstFailed (countChecks x) with
  | some report => rfl
  | none =>
    dsimp only
    rw [breakFailure_eq, rangeFailure_eq, capFailure_eq]
    cases firstFailed (breakChecks x) with
    | some report => rfl
    | none =>
      cases firstFailed (rangeChecks x) with
      | some report => rfl
      | none => cases firstFailed (capChecks x) <;> rfl

theorem firstFailed_append_none {first rest : List LoadCheck} :
    firstFailed (first ++ rest) = none ↔ firstFailed first = none ∧ firstFailed rest = none := by
  rw [firstFailed_append, Option.or_eq_none_iff]

/-- A table that passes has a rounding code of the manual's three. -/
theorem rounding_of_passed {x : RawImage} (passed : firstFailed (rangeChecks x) = none) : 1 ≤ x.rounding ∧ x.rounding ≤ 3 := by
  rw [rangeChecks, firstFailed_append_none, firstFailed_append_none, firstFailed_append_none, firstFailed_header_ranges] at passed
  obtain ⟨⟨⟨header, -⟩, -⟩, -⟩ := passed
  by_contra out
  rw [if_pos (.inr (.inr (.inl ((roundingOfCode_isNone _).mpr out))))] at header
  exact nomatch header

theorem RawImage.bank_rounding {x : RawImage} (low : 1 ≤ x.rounding) (high : x.rounding ≤ 3) :
    x.bank.rounding = (if x.rounding = 1 then .up else if x.rounding = 2 then .nearest else .down) := by
  show (roundingOfCode x.rounding).getD .up = _
  obtain code | code | code : x.rounding = 1 ∨ x.rounding = 2 ∨ x.rounding = 3 := by omega
  all_goals rw [code]; rfl

theorem RawImage.bank_length {x : RawImage} (most : x.classes.length ≤ 16) : x.bank.classes.length = 16 := by
  show (x.classes ++ List.replicate (16 - x.classes.length) ClassRecord.undefined).length = 16
  rw [List.length_append, List.length_replicate]
  omega

theorem RawImage.bank_class {x : RawImage} {k : Nat} {c : ClassRecord} (stands : x.classes[k]? = some c) :
    x.bank.classes[k]? = some c := by
  obtain ⟨within, -⟩ := List.getElem?_eq_some_iff.mp stands
  exact (List.getElem?_append_left within).trans stands

/-- A class beyond the class count is not defined (R92). -/
theorem RawImage.bank_class_beyond {x : RawImage} {k : Nat} {c : ClassRecord} (beyond : x.classes.length ≤ k)
    (stands : x.bank.classes[k]? = some c) : c.defined = false := by
  have filled : (List.replicate (16 - x.classes.length) ClassRecord.undefined)[k - x.classes.length]? = some c :=
    (List.getElem?_append_right beyond).symm.trans stands
  obtain ⟨-, rfl⟩ := List.mem_replicate.mp (List.mem_of_getElem? filled)
  rfl

/-- A staged image whose check word is right goes on to its records (R98). -/
theorem State.validateImage_of_checked {s : State} {copy header records : List Byte} {x : RawImage}
    (spelled : EncodesHeader s.order x header)
    (staged : s.Stages copy (header ++ records) (crc32 (header ++ records)).toNat) :
    s.validateImage copy
      = validateRecords s.order (imageBytes s.order (crc32 (header ++ records)).toNat (header ++ records)) := by
  rw [State.validateImage_of_stages staged (crc32 (header ++ records)).isLt (by rw [List.length_append, spelled.length]; omega)]
  exact if_pos rfl

/-- Settles O37: the header is read where 11.6 lays it, the walk reads back the records it is given, and each of the model's
searches finds the first check that fails. -/
theorem validationFindsTheFirstFault : Obligations.ValidationFindsTheFirstFault := by
  unfold Obligations.ValidationFindsTheFirstFault
  refine ⟨fun s copy bad => ?_, fun s copy x header records check spelled staged small differs => ?_,
    fun s copy x header records fits spelledHeader spelledRecords staged => ?_,
    fun s copy x header whole records fits passed spelledHeader spelledRecords uneven staged => ?_⟩
  · rw [← State.imageLength_eq] at bad
    exact if_pos bad
  · rw [State.validateImage_of_stages staged small (by rw [List.length_append, spelled.length]; omega)]
    exact if_neg (Ne.symm differs)
  · have found := validateRecords_whole (spelledHeader.reads fits (crc32 (header ++ records)).toNat records) spelledRecords fits
    rw [← State.validateImage_of_checked spelledHeader staged] at found
    refine ⟨fun report failed => found.trans (verdict_of_failed _ failed), fun passed => ?_⟩
    have ok := found.trans (verdict_of_passed x.bank passed)
    simp only [firstFailed_append_none] at passed
    obtain ⟨⟨⟨counts, -⟩, ranges⟩, -⟩ := passed
    obtain ⟨low, high⟩ := rounding_of_passed ranges
    obtain ⟨⟨-, most⟩, -⟩ := countChecks_passed counts
    exact ⟨x.bank, ok, rfl, rfl, rfl, RawImage.bank_rounding low high, rfl, rfl, rfl, RawImage.bank_length most,
      fun _ _ => RawImage.bank_class, fun _ _ => RawImage.bank_class_beyond⟩
  · rw [State.validateImage_of_checked spelledHeader staged]
    have reads := spelledHeader.reads fits (crc32 (header ++ records)).toNat records
    have walked : walkImage s.order (imageBytes s.order (crc32 (header ++ records)).toNat (header ++ records)) = .error outOfBytes := by
      obtain ⟨rest, more, rfl | rfl⟩ := uneven
      · exact reads.walk_short spelledRecords fits passed more
      · exact reads.walk_long spelledRecords fits passed more
    rw [validateRecords, walked]
    rfl

end Sys2Proof.Machine
end
